-- ==== Sys2Proof/Word.lean ====
section
/-! DEFINITION. The words and numbers of the MC48: the numbers that name bases, handsets, calls,
channels, zones and order slots, and the words that the part counts, stores or puts on a link.
Terms: spec/00_scope.md 0.7; field ranges: spec/01 Tables 1-2 and 1-3. -/

namespace Sys2Proof

/-- A base number 0..47, which is also the number of its base link (0.7). -/
abbrev BaseNo := Fin 48

/-- A base number as a base or handset reports it on a link, 0..63 (Table 1-2). -/
abbrev ReportedBase := Fin 64

/-- A zone number 0..15 (0.7). -/
abbrev ZoneNo := Fin 16

/-- A handset number 0..511 (0.7). -/
abbrev HandsetNo := Fin 512

/-- A call number 0..255 (0.7). -/
abbrev CallNo := Fin 256

/-- A channel position 0..7 of a base (4.1). -/
abbrev ChanNo := Fin 8

/-- An order slot number 0..31 (9.3.3). -/
abbrev SlotNo := Fin 32

/-- A level code 0..127 (0.7). -/
abbrev LevelCode := Fin 128

/-- A 32-bit count of frame marks, which wraps past 2^32 − 1 to 0 (0.7, R4). -/
abbrev FrameCount := BitVec 32

/-- The 40-bit number that identifies a handset (0.7). -/
abbrev Identity := BitVec 40

/-- An attempt tag field, 0..255; a handover record carries 1..255 (Tables 1-2, 1-3, 7-1). -/
abbrev AttemptTag := BitVec 8

/-- One byte of exchange memory. -/
abbrev Byte := BitVec 8

end Sys2Proof
end

