-- ==== Sys2Proof/Syntax.lean ====
section
/-! DEFINITION. The commands of the MC48: one constructor per row of spec/opcode_table.json, in the
table's order. Uplink messages carry the number of the link they arrived on and their fields
(Table 1-2); expiries name the timer; completions of exchange-memory reads carry the data that the
static RAM bus returned, least significant byte first (R146; log entry 2); orders carry their slot
and parameters (R153, Table 9-9; log entry 4). -/

namespace Sys2Proof

/-- The verdict of a RESERVE ANSWER (Table 1-2). -/
inductive ReserveVerdict where
  | ready
  | refused
  deriving DecidableEq, Repr

/-- The record an AMEND PLAN order names (Table 9-9). -/
inductive PlanRecord where
  | zone (z : ZoneNo)
  | base (b : BaseNo)
  deriving DecidableEq, Repr

/-- The commands: operations and events that the part takes, each whole and indivisible. -/
inductive Instr where
  /-- HELLO on link `b`, with the base number strapped at the base and its channel capacity (R8). -/
  | hello (b : BaseNo) (announced : ReportedBase) (capacity : Nat)
  /-- READY on link `b` (R9). -/
  | ready (b : BaseNo)
  /-- BEACON on link `b` (R7). -/
  | beacon (b : BaseNo)
  /-- A malformed message on link `b` (R6). -/
  | malformedMessage (b : BaseNo)
  /-- ACCEPT on link `b` (R14). -/
  | accept (b : BaseNo)
  /-- DEFER on link `b` (R15). -/
  | defer (b : BaseNo)
  /-- ATTACH through base `b` (R23). -/
  | attach (b : BaseNo) (i : Identity)
  /-- REFRESH through base `b` (R32). -/
  | refresh (b : BaseNo) (h : HandsetNo) (check : BitVec 16)
  /-- DETACH through base `b` (R39). -/
  | detach (b : BaseNo) (h : HandsetNo)
  /-- CALL REQUEST through base `b` (R60). -/
  | callRequest (b : BaseNo) (h : HandsetNo) (paged : Bool)
  /-- CALL END from base `b` (R64). -/
  | callEnd (b : BaseNo) (k : ChanNo)
  /-- CHANNEL DROPPED from base `b` (R65). -/
  | channelDropped (b : BaseNo) (k : ChanNo)
  /-- LEVEL REPORT from base `b`: channel, serving level code, frame errors, pairs (R88). -/
  | levelReport (b : BaseNo) (k : ChanNo) (level : LevelCode) (errors : Fin 16) (pairs : List (ReportedBase × LevelCode))
  /-- RESERVE ANSWER from base `b` (R114). -/
  | reserveAnswer (b : BaseNo) (j : ChanNo) (c : CallNo) (g : AttemptTag) (v : ReserveVerdict) (reason : Byte)
  /-- ARRIVED from base `b` (R121). -/
  | arrived (b : BaseNo) (j : ChanNo) (c : CallNo) (g : AttemptTag)
  /-- PAGE ANSWER through base `b` (R49). -/
  | pageAnswer (b : BaseNo) (h : HandsetNo)
  /-- The frame timer runs out (R4). -/
  | frameMark
  /-- The join timer of link `b` expires (R9). -/
  | joinTimerExpiry (b : BaseNo)
  /-- The silence timer of link `b` expires (R10). -/
  | silenceTimerExpiry (b : BaseNo)
  /-- The deferred head of link `b` is transmitted again at its mark (R15). -/
  | headRetransmit (b : BaseNo)
  /-- The head of link `b` has had no answer by its second mark (R15). -/
  | headAnswerTimeout (b : BaseNo)
  /-- The lifetime timer of handset `h` expires (R38). -/
  | lifetimeExpiry (h : HandsetNo)
  /-- The round timer of the page of handset `h` expires (R47). -/
  | roundTimerExpiry (h : HandsetNo)
  /-- The reserve timer of call `c` expires (R117). -/
  | reserveTimerExpiry (c : CallNo)
  /-- The arrival timer of call `c` expires (R122). -/
  | arrivalTimerExpiry (c : CallNo)
  /-- The settle timer of call `c` expires (R103). -/
  | settleTimerExpiry (c : CallNo)
  /-- The hold timer of call `c` expires (R104). -/
  | holdTimerExpiry (c : CallNo)
  /-- The due entries of the switch batch are delivered (R120). -/
  | switchBatchDelivery
  /-- The limit timer of the drain of base `b` expires (R137). -/
  | drainLimitExpiry (b : BaseNo)
  /-- The Order Unit's intake at a frame mark (R151). -/
  | orderIntake
  /-- The access in progress has not completed within 192000 reference periods (R148). -/
  | accessTimeout
  /-- The static RAM bus reports an error for the access in progress (R148). -/
  | busError
  /-- The lookup's read of the subscription count completes (R28). -/
  | subscriptionCountReadDone (count : BitVec 16)
  /-- The lookup's read of one 16-byte subscription entry completes (R28). -/
  | subscriptionEntryReadDone (entry : BitVec 128)
  /-- The read of the posted-order count completes (R151, R156). -/
  | postedCountReadDone (count : BitVec 32)
  /-- The read of an owner byte completes (R151). -/
  | ownerByteReadDone (owner : Byte)
  /-- The read of a whole 64-byte order slot completes (R151). -/
  | slotReadDone (slot : BitVec 512)
  /-- The write of TAKEN completes (R150). -/
  | takenWriteDone
  /-- The write of an order's result fields completes (R153). -/
  | resultWriteDone
  /-- The write of ANSWERED completes (R153). -/
  | answeredWriteDone
  /-- The AMEND PLAN read of a zone record (32 bytes) or base record (its low 16 bytes) completes (R155). -/
  | planRecordReadDone (record : BitVec 256)
  /-- The write of a presence or call record completes (R157). -/
  | recordWriteDone
  /-- A read (returning `data`) or write of an attention byte completes (R158). -/
  | attentionByteAccessDone (data : Byte)
  /-- A read (returning `data`) or write of a summary byte completes (R158). -/
  | summaryByteAccessDone (data : Byte)
  /-- One SNAPSHOT counter write completes (R159). -/
  | counterWriteDone
  /-- The start-up read of the header's layout version completes (R160 step 2). -/
  | startupHeaderReadDone (version : BitVec 16)
  /-- A start-up read of the header parameters (low 9 bytes), a zone record (32 bytes) or a base
  record (low 16 bytes) completes (R160 step 3). -/
  | startupPlanReadDone (record : BitVec 256)
  /-- A start-up write of zeros completes (R160 step 5). -/
  | startupZeroWriteDone
  /-- A start-up read of an owner byte completes (R156, R160 step 6). -/
  | startupSlotScanReadDone (owner : Byte)
  /-- The read (returning `count`) or write-back of the start count completes (R160 step 7). -/
  | startCountAccessDone (count : BitVec 32)
  /-- CONTROL is written with RUN 1, RESTART 0 and ATTN_EN as given (R145, R160). -/
  | runSet (attnEn : Bool)
  /-- CONTROL is written with RUN 0, RESTART 0 and ATTN_EN as given (R145, R161). -/
  | runClear (attnEn : Bool)
  /-- CONTROL is written with RESTART 1 (R161). -/
  | restart
  /-- XBASE is written (R145). -/
  | xbaseWrite (value : BitVec 32)
  /-- ATTN is written with bit 0 set (R145). -/
  | attnClear
  /-- A word is written at an offset of the register window (R144). -/
  | registerWrite (offset : Nat) (value : BitVec 32)
  /-- The RESET pin is asserted (R161). -/
  | resetPin
  /-- The DEREGISTER order of `slot` is taken by the Roster Unit (R40). -/
  | deregister (slot : SlotNo) (h : HandsetNo)
  /-- The PAGE order of `slot` is taken by the Page Unit (R45). -/
  | page (slot : SlotNo) (h : HandsetNo)
  /-- The CANCEL order of `slot`, naming `target`, is taken by the Order Unit (R154). -/
  | cancel (slot : SlotNo) (target : SlotNo)
  /-- The CLEAR CALL order of `slot` is taken by the Call and Channel Unit (R68). -/
  | clearCall (slot : SlotNo) (c : CallNo)
  /-- The FORCE MOVE order of `slot` is taken by the Handover Engine (R108). -/
  | forceMove (slot : SlotNo) (c : CallNo) (t : BaseNo)
  /-- The DRAIN BASE order of `slot` is taken by the base-service handling (R133). -/
  | drainBase (slot : SlotNo) (b : BaseNo) (limit : BitVec 16)
  /-- The STOP BASE order of `slot` is taken by the base-service handling (R140). -/
  | stopBase (slot : SlotNo) (b : BaseNo)
  /-- The START BASE order of `slot` is taken by the base-service handling (R141). -/
  | startBase (slot : SlotNo) (b : BaseNo)
  /-- The BLOCK CHANNEL order of `slot` is taken by the Call and Channel Unit (R73). -/
  | blockChannel (slot : SlotNo) (b : BaseNo) (k : ChanNo)
  /-- The UNBLOCK CHANNEL order of `slot` is taken by the Call and Channel Unit (R74). -/
  | unblockChannel (slot : SlotNo) (b : BaseNo) (k : ChanNo)
  /-- The AMEND PLAN order of `slot` is taken by the Order Unit (R155). -/
  | amendPlan (slot : SlotNo) (r : PlanRecord)
  /-- The SNAPSHOT order of `slot` is taken by the Attention and Counter Unit (R159). -/
  | snapshot (slot : SlotNo) (clear : Bool)
  deriving DecidableEq, Repr

end Sys2Proof
end

