-- ==== Sys2Proof/Config.lean ====
section
/-! DEFINITION. The fixed capacities and constants of the MC48, each with the rule or table of the
spec that gives it. The manual leaves no result of a step open, so there is no free value here. -/

namespace Sys2Proof.Config

/-- Messages an outbound queue holds (1.5, R13). -/
def queueDepth : Nat := 16

/-- Records the pending attach list holds (2.3, R23). -/
def pendingAttachMax : Nat := 8

/-- Records the page table holds (3.1, R45). -/
def pageTableMax : Nat := 16

/-- Entries the switch batch holds (R119). -/
def batchMax : Nat := 32

/-- Entries of one SWITCH LIST message (Table 1-3, R120). -/
def switchListMax : Nat := 8

/-- Entries of a neighbour set (R85, R87). -/
def neighbourMax : Nat := 6

/-- Bases a try list holds when it is built (R106, R107). -/
def tryListMax : Nat := 3

/-- Value at which a 16-bit counter stops (0.7, R159). -/
def counterMax : Nat := 65535

/-- Value at which a lead stops (R102). -/
def leadMax : Nat := 15

/-- Value at which the handover count of a call stops (R70). -/
def handoverCountMax : Nat := 255

/-- Highest value of a watch count (Table 6-1, Table 6-3). -/
def watchCountMax : Nat := 8

/-- Highest level code, and the clamp of a corrected code (R78). -/
def levelCodeMax : Nat := 127

/-- Highest filtered level in sixteenths (0.7, R75). -/
def filteredMax : Nat := 2032

/-- Subscription count used when the header gives a larger one (R28). -/
def subscriptionMax : Nat := 2048

/-- Frames of lifetime per unit of a lifetime code (R21). -/
def lifetimeUnit : Nat := 1000

/-- The IDENT register (Table 9-1). -/
def ident : BitVec 32 := 0x0F483001

/-- The layout version the header must hold (Table 9-3, R160). -/
def layoutVersion : BitVec 16 := 1

/-- Counter accesses of one SNAPSHOT: 48 of a base and one of the globals (R159). -/
def snapshotAccesses : Nat := 49

/-- Start-up writes of zeros to the attention summary and attention bytes: 912 bytes in accesses of
at most 64 bytes (R146, R160 step 5). DESIGN CHOICE, unsafe: log entry 9. -/
def zeroAttentionWrites : Nat := 15

/-- All start-up writes of zeros: those above and 13 more for the 800 bytes of the counter region.
DESIGN CHOICE, unsafe: log entry 9. -/
def zeroWrites : Nat := 28

end Sys2Proof.Config
end

