-- ==== Sys2Proof/Machine/State.lean ====
section
/-! DEFINITION. The state of the MC48 as plain data, grouped by the block that owns it (0.4), and the
state right after the RESET pin. Every field names the rule or table that gives it; fields marked
MODEL are the model's own and have a log entry. -/

namespace Sys2Proof.Machine

open Sys2Proof

/-! ### Base links (Chapter 1) -/

/-- The service state of a base link (1.4, Table 1-1). -/
inductive Service where
  | absent
  | joining
  | serving
  | draining
  | stopped
  deriving DecidableEq, Repr

/-- A handset's admission class (0.7, R29). -/
inductive HandsetClass where
  | standard
  | priority
  deriving DecidableEq, Repr

/-- The verdict of an ATTACH ANSWER (Table 1-3). -/
inductive AttachVerdict where
  | accept (h : HandsetNo)
  | rejectUnknown
  | rejectBarred
  | rejectZone
  | rejectFull
  | again
  deriving DecidableEq, Repr

/-- The reason of a CALL REFUSED (Table 1-3). -/
inductive RefusalReason where
  | noService
  | unknown
  | inCall
  | congested
  deriving DecidableEq, Repr

/-- One entry of a SWITCH LIST: leaving channel, target base, target channel, attempt tag (Table 1-3). -/
structure SwitchEntry where
  leaving : ChanNo
  target  : BaseNo
  channel : ChanNo
  tag     : AttemptTag
  deriving DecidableEq, Repr

/-- A downlink message (Table 1-3). -/
inductive Downlink where
  /-- SETUP. Its frame count field is filled in at each transmission (R14); in a queue it is 0. -/
  | setup (zone : ZoneNo) (count : Nat) (frame : BitVec 16)
  | stop
  | attachAnswer (i : Identity) (v : AttachVerdict)
  | detach (h : HandsetNo)
  | channelGrant (h : HandsetNo) (k : ChanNo) (c : CallNo)
  | callRefused (h : HandsetNo) (r : RefusalReason)
  | release (k : ChanNo) (tag : AttemptTag)
  | reserve (k : ChanNo) (c : CallNo) (i : Identity) (tag : AttemptTag)
  | switchList (entries : List SwitchEntry)
  | stay (k : ChanNo)
  | page (h : HandsetNo) (i : Identity)
  deriving DecidableEq, Repr

/-- The phase of the head of an outbound queue (1.5). AWAITING MARK keeps the frame count of the
DEFER, so that "the next frame mark" (R15) is known: MODEL, log entry 6. -/
inductive HeadPhase where
  | awaitingAnswer
  | awaitingMark (deferredAt : FrameCount)
  deriving DecidableEq, Repr

/-- The retry state of the head of an outbound queue (1.5). -/
structure Head where
  phase   : HeadPhase
  retries : Nat
  /-- The frame count at which the head was last transmitted. -/
  sentAt  : FrameCount
  deriving DecidableEq, Repr

/-- A link record (Table 1-1) with its outbound queue, head first, and head retry state (1.5). -/
structure Link where
  service      : Service
  enabled      : Bool
  zone         : ZoneNo
  planCount    : Nat
  effCount     : Nat
  joinTimer    : Option FrameCount
  silenceTimer : Option FrameCount
  queue        : List Downlink
  head         : Option Head
  deriving DecidableEq, Repr

/-- One message put on a base link by the part. MODEL: the record of what has left the part, log
entry 5. -/
structure Transmission where
  base    : BaseNo
  message : Downlink
  deriving DecidableEq, Repr

/-! ### The cell plan as the part holds it (Chapters 1 to 7, 9) -/

/-- The retry action of the plan header (R3, R16). -/
inductive RetryAction where
  | discard
  | declareLost
  deriving DecidableEq, Repr

/-- The header parameters after clamping (Table 9-3: R3, R21, R43, R147). -/
structure Header where
  joinLimit     : Nat
  silenceLimit  : Nat
  retryCode     : Nat
  retryAction   : RetryAction
  standardLife  : Nat
  priorityLife  : Nat
  homeRounds    : Nat
  pageSpacing   : Nat
  burst         : Nat
  deriving DecidableEq, Repr

/-- The notice mode of a zone (Table 6-2, R99). -/
inductive NoticeMode where
  | off
  | edge
  | level
  deriving DecidableEq, Repr

/-- The switch mode of a zone (R111). -/
inductive SwitchMode where
  | immediate
  | marked
  deriving DecidableEq, Repr

/-- The parameters of one zone record after clamping (R77, Table 6-2, R111). -/
structure ZoneParams where
  shift         : Nat
  staleLimit    : Nat
  weak          : Nat
  recovery      : Nat
  errorLimit    : Nat
  watchLimit    : Nat
  notice        : NoticeMode
  margin        : Nat
  weakMargin    : Nat
  biasCode      : Nat
  leadCount     : Nat
  settleFrames  : Nat
  retryHold     : Nat
  switchMode    : SwitchMode
  spacingCode   : Nat
  reserveLimit  : Nat
  arrivalLimit  : Nat
  deriving DecidableEq, Repr

/-- The plan copies of the blocks other than the link records: header parameters, zone parameters,
guard count table (R57), level offsets (R76), and the note that start-up clamped a field (R160
step 3). -/
structure Plan where
  header  : Header
  zones   : Vector ZoneParams 16
  guards  : Vector Nat 48
  offsets : Vector Int 48
  clamped : Bool
  deriving DecidableEq, Repr

/-! ### The roster and the pending attach list (Chapter 2) -/

/-- A roster entry (Table 2-1). The lifetime timer runs exactly while `expiry` is present (2.5). -/
structure RosterEntry where
  registered  : Bool
  identity    : Identity
  check       : BitVec 16
  subIndex    : Nat
  cls         : HandsetClass
  zoneMask    : BitVec 16
  lastBase    : BaseNo
  lastZone    : ZoneNo
  attachFrame : FrameCount
  heardFrame  : FrameCount
  expiry      : Option FrameCount
  call        : Option CallNo
  deriving DecidableEq, Repr

/-- A record of the pending attach list (2.3). -/
structure PendingAttach where
  identity : Identity
  base     : BaseNo
  arrival  : FrameCount
  deriving DecidableEq, Repr

/-- The lookup in progress, of the record at the head of the pending attach list (R27, R28): it waits
for the count read, or for an entry read with its bounds. -/
inductive Lookup where
  | count
  | search (lo hi : Nat)
  deriving DecidableEq, Repr

/-! ### The page table (Chapter 3) -/

/-- A page record (Table 3-1). The current zone is always the first zone of the sequence, and the
round timer runs while the record exists. -/
structure PageRecord where
  handset    : HandsetNo
  slot       : SlotNo
  zones      : List ZoneNo
  roundsLeft : Nat
  nextRound  : FrameCount
  roundsMade : Nat
  appended   : Nat
  skipped    : Nat
  deriving DecidableEq, Repr

/-! ### Channels and calls (Chapters 4 to 7) -/

/-- The state of a channel position (Table 4-1). -/
inductive Chan where
  | free
  | held (c : CallNo)
  | reserved (c : CallNo) (tag : AttemptTag)
  | leaving (c : CallNo)
  | blocked
  deriving DecidableEq, Repr

/-- The state of a call table entry (R58). -/
inductive CallState where
  | free
  | connected
  | moving
  | ended
  deriving DecidableEq, Repr

/-- The origin of a call (Table 4-2). -/
inductive Origin where
  | local
  | paged
  deriving DecidableEq, Repr

/-- Why a call ended (Table 4-4). -/
inductive EndReason where
  | hangup
  | radioLost
  | cleared
  | reattach
  | detached
  | drained
  | stopped
  | baseLost
  deriving DecidableEq, Repr

/-- Why an attempt ended without completing, and why a candidate failed (Table 7-3, R113). -/
inductive AbortReason where
  | refused
  | noAnswer
  | noChannel
  | targetDrop
  | noArrival
  | noLinkRoom
  | drain
  | targetLost
  | cancelled
  | callEnded
  deriving DecidableEq, Repr

/-- A neighbour entry (Table 5-2). -/
structure Neighbour where
  base  : BaseNo
  level : Nat
  age   : Nat
  lead  : Nat
  deriving DecidableEq, Repr

/-- The watch state of a call (Table 6-1). -/
inductive Watch where
  | normal
  | suspect
  | weak
  deriving DecidableEq, Repr

/-- What started a handover (Table 7-1). -/
inductive HandoverKind where
  | decision
  | forced
  | drain
  deriving DecidableEq, Repr

/-- The phase of the exchange (Table 7-1). -/
inductive HandoverState where
  | reserving
  | awaitMark
  | switching
  deriving DecidableEq, Repr

/-- A handover record (Table 7-1). `channel` is the channel reserved at the target; it is absent only
inside the event that passes from one candidate to the next (R113). -/
structure Handover where
  kind         : HandoverKind
  tryList      : List BaseNo
  target       : BaseNo
  channel      : Option ChanNo
  tag          : AttemptTag
  state        : HandoverState
  reserveTimer : Option FrameCount
  arrivalTimer : Option FrameCount
  oldDropped   : Bool
  lastFailure  : Option AbortReason
  slot         : Option SlotNo
  deriving DecidableEq, Repr

/-- A call table entry: the fields of the CCU (Table 4-2), the LFU (Table 5-1) and the HOE
(Tables 6-1 and 7-1). -/
structure Call where
  state         : CallState
  handset       : HandsetNo
  base          : BaseNo
  channel       : ChanNo
  origin        : Origin
  setupFrame    : FrameCount
  handoverCount : Nat
  endReason     : Option EndReason
  filter        : Option Nat
  neighbours    : List Neighbour
  watch         : Watch
  watchCount    : Nat
  settle        : Option FrameCount
  hold          : Option FrameCount
  tagCounter    : AttemptTag
  lastAbort     : Option AbortReason
  handover      : Option Handover
  deriving DecidableEq, Repr

/-- An entry of the switch batch (R119). -/
structure BatchEntry where
  call : CallNo
  due  : FrameCount
  deriving DecidableEq, Repr

/-! ### Drains (Chapter 8) -/

/-- The phase of a drain record (R132). -/
inductive DrainPhase where
  | active
  | clearing
  deriving DecidableEq, Repr

/-- A drain record (R132). -/
structure DrainRecord where
  slot     : SlotNo
  limit    : Option FrameCount
  phase    : DrainPhase
  moved    : Nat
  ended    : Nat
  cleared  : Nat
  attempts : Nat
  deriving DecidableEq, Repr

/-! ### Orders (Chapter 9) -/

/-- An order with its parameters (Table 9-9). -/
inductive Order where
  | deregister (h : HandsetNo)
  | page (h : HandsetNo)
  | cancel (target : SlotNo)
  | clearCall (c : CallNo)
  | forceMove (c : CallNo) (t : BaseNo)
  | drainBase (b : BaseNo) (limit : BitVec 16)
  | stopBase (b : BaseNo)
  | startBase (b : BaseNo)
  | blockChannel (b : BaseNo) (k : ChanNo)
  | unblockChannel (b : BaseNo) (k : ChanNo)
  | amendPlan (r : PlanRecord)
  | snapshot (clear : Bool)
  deriving DecidableEq, Repr

/-- The block an order is dispatched to (Table 9-9). -/
inductive Block where
  | rsu
  | pgu
  | oru
  | ccu
  | hoe
  | baseService
  | acu
  deriving DecidableEq, Repr

/-- Codes of class DONE (Table 9-10). -/
inductive DoneCode where
  | ok
  | answered
  | found
  deriving DecidableEq, Repr

/-- Codes of class FORM (Table 9-10). -/
inductive FormCode where
  | badKind
  | badReserved
  | badNumber
  deriving DecidableEq, Repr

/-- Codes of class STATE (Table 9-10). -/
inductive StateCode where
  | notRegistered
  | inCall
  | busy
  | congested
  | noService
  | noCall
  | same
  | zone
  | inUse
  | nothing
  | tooLate
  | notStopped
  | inService
  deriving DecidableEq, Repr

/-- Codes of class FAILED (Table 9-10). -/
inductive FailCode where
  | notFound
  | notRegistered
  | refused
  | noAnswer
  | noChannel
  | targetDrop
  | noArrival
  | noLinkRoom
  | drain
  | targetLost
  | callEnded
  | stopped
  | baseLost
  deriving DecidableEq, Repr

/-- Codes of class CANCELLED (Table 9-10). -/
inductive CancelCode where
  | cancel
  | halt
  | restart
  deriving DecidableEq, Repr

/-- Class and code of an order's answer (Table 9-10). -/
inductive Verdict where
  | done (c : DoneCode)
  | form (c : FormCode)
  | state (c : StateCode)
  | failed (c : FailCode)
  | cancelled (c : CancelCode)
  deriving DecidableEq, Repr

/-- The result an order hands back: class and code, detail, and the result data that its kind names
(Table 9-10); the data bytes not listed are 0. -/
structure OrderResult where
  verdict : Verdict
  detail  : Nat
  data    : List Byte
  deriving DecidableEq, Repr

/-- The phase of an in-flight order (9.4). -/
inductive OrderPhase where
  | carryingOut
  | answering
  deriving DecidableEq, Repr

/-- An entry of the in-flight order list (9.4): kind byte and parameter field as read from the slot. -/
structure InFlight where
  slot   : SlotNo
  kind   : Byte
  params : BitVec 192
  block  : Option Block
  phase  : OrderPhase
  deriving DecidableEq, Repr

/-- The intake state with the next slot to examine (9.4). -/
inductive Intake where
  | idle
  | scanning (next : SlotNo)
  deriving DecidableEq, Repr

/-! ### Attention and counters (Chapter 10) -/

/-- A record with a dirty mark (R157). -/
inductive RecordRef where
  | handset (h : HandsetNo)
  | call (c : CallNo)
  deriving DecidableEq, Repr

/-- An attention byte (R158). -/
inductive AttnByte where
  | handset (h : HandsetNo)
  | call (c : CallNo)
  | base (b : BaseNo)
  | slot (s : SlotNo)
  | device
  deriving DecidableEq, Repr

/-! ### Exchange-memory accesses (R146) -/

/-- A requestor of the exchange port (R147). -/
inductive Requestor where
  | rsu
  | oru
  | acu
  deriving DecidableEq, Repr

/-- What an exchange-memory access is for. The first two are the RSU's, those from `postedCount` to
`startCountWrite` the ORU's, the rest the ACU's. -/
inductive AccessKind where
  | subCount
  | subEntry (pos : Nat)
  | postedCount
  | ownerByte (s : SlotNo)
  | slotRead (s : SlotNo)
  | takenWrite (s : SlotNo)
  | resultWrite (s : SlotNo) (r : OrderResult)
  | answeredWrite (s : SlotNo)
  | planRead (s : SlotNo) (r : PlanRecord)
  | startHeader
  | startParams
  | startZone (z : ZoneNo)
  | startBase (b : BaseNo)
  | scanOwner (s : SlotNo)
  | startCountRead
  | startCountWrite (v : BitVec 32)
  | recordWrite (r : RecordRef)
  | attnRead (t : AttnByte)
  | attnWrite (t : AttnByte) (v : Byte)
  | sumRead (t : AttnByte)
  | sumWrite (t : AttnByte) (v : Byte)
  | counterWrite (n : Nat)
  | zeroWrite (k : Nat)
  deriving DecidableEq, Repr

/-- The access in progress: its purpose, its offset from the exchange base address, its length, and
for a write the bytes captured when it began (R146, R149). -/
structure Access where
  kind   : AccessKind
  offset : Nat
  length : Nat
  bytes  : Option (List Byte)
  deriving DecidableEq, Repr

/-- The arbiter (R147): the holder, the accesses it has made since the grant, the requestor that held
the port last (absent: the rotation begins at the RSU), and the access in progress. -/
structure Port where
  holder : Option Requestor
  count  : Nat
  last   : Option Requestor
  access : Option Access
  deriving DecidableEq, Repr

/-- The Order Unit (9.4). `intakeDue` and `dispatched` are MODEL: a frame mark whose intake has not
been taken yet (log entry 3), and the order dispatched but not yet taken by its block (log entry 4). -/
structure Oru where
  lastSeen   : BitVec 32
  intake     : Intake
  intakeDue  : Bool
  dispatched : Option (SlotNo × Order)
  inFlight   : List InFlight
  queue      : List AccessKind
  deriving DecidableEq, Repr

/-- Where the setting of one attention byte's bits stands: the access made next, or in progress
(R158). -/
inductive BitStage where
  | readByte
  | writeByte (v : Byte)
  | readSummary
  | writeSummary (v : Byte)
  deriving DecidableEq, Repr

/-- The ACU's piece of work in progress (R157, R158, R160 step 5). A record write keeps the bits named
for the record and whether it was written ENDED; a setting of bits keeps the write report that
follows it (R59). -/
inductive AcuJob where
  | record (r : RecordRef) (bits : Byte) (ended : Bool)
  | setBits (t : AttnByte) (bits : Byte) (stage : BitStage) (report : Option (CallNo × Bool))
  | zero (k : Nat)
  deriving DecidableEq, Repr

/-- A SNAPSHOT order: its slot, its clear flag, and the number of its next counter access (R159). -/
structure Snapshot where
  slot  : SlotNo
  clear : Bool
  next  : Nat
  deriving DecidableEq, Repr

/-- The Attention and Counter Unit but for its counters (10.1, R149, R159): dirty marks with their
bits (absent: not dirty), the write-back queue, the pending-bit sets, the change counts, the
snapshots (the first in progress, the others waiting) and the piece of work in progress. -/
structure Acu where
  handsetMarks  : Vector (Option Byte) 512
  callMarks     : Vector (Option Byte) 256
  queue         : List RecordRef
  basePending   : Vector Byte 48
  slotPending   : Vector Byte 32
  devicePending : Byte
  handsetChange : Vector (BitVec 16) 512
  callChange    : Vector (BitVec 16) 256
  snapshots     : List Snapshot
  job           : Option AcuJob
  deriving DecidableEq, Repr

/-- The per-base counters in the order of 9.3.5. -/
inductive BaseCounter where
  | admitted
  | refused
  | handoversIn
  | handoversOut
  | aborts
  | defers
  | discards
  | losses
  deriving DecidableEq, Repr

/-- The global counters in the order of 9.3.5. -/
inductive GlobalCounter where
  | accepted
  | rejected
  | again
  | lapses
  | detaches
  | pagesFound
  | pagesNotFound
  | pageSkips
  | stale
  | ignoredPairs
  | malformed
  | refusedForm
  | refusedState
  | batchFull
  | dropped
  | callsLost
  deriving DecidableEq, Repr

/-- The counter bank (R159), each row in the order of 9.3.5. -/
structure Counters where
  base   : Vector (Vector Nat 8) 48
  global : Vector Nat 16
  deriving DecidableEq, Repr

/-! ### Registers and part state (9.1, 10.4) -/

/-- The state of the part as a whole (0.10, Table 9-1). -/
inductive PartState where
  | halted
  | starting
  | running
  | faulted
  deriving DecidableEq, Repr

/-- The fault code (Table 9-1). -/
inductive FaultCode where
  | none
  | layout
  | busError
  deriving DecidableEq, Repr

/-- The register fields (Table 9-1), the 32-bit frame count (R4), and the halt sequence: whether it
is under way, and the slots whose orders were in flight when it began (R161). The frame timer runs
exactly while the part is RUNNING and not halting. -/
structure Regs where
  run         : Bool
  attnEn      : Bool
  xbase       : BitVec 16
  part        : PartState
  fault       : FaultCode
  frame       : FrameCount
  attnPending : Bool
  halting     : Bool
  haltSlots   : List SlotNo
  deriving DecidableEq, Repr

/-- The state of the MC48. `mem` is the exchange memory as the part has last written or read each
byte (log entry 2), keyed by static RAM address; `wire` is the record of transmissions (log entry
5); `pending` is the queue of commands, first in, first out. -/
structure State where
  regs     : Regs
  port     : Port
  plan     : Plan
  links    : Vector Link 48
  roster   : Vector RosterEntry 512
  attaches : List PendingAttach
  lookup   : Option Lookup
  pages    : List PageRecord
  chans    : Vector (Vector Chan 8) 48
  calls    : Vector Call 256
  batch    : List BatchEntry
  drains   : Vector (Option DrainRecord) 48
  oru      : Oru
  acu      : Acu
  counters : Counters
  mem      : List Host.Cell
  wire     : List Transmission
  pending  : List Instr
  deriving DecidableEq, Repr

/-! ### Reset and start values -/

/-- A cleared link record. Only "the link records and the queues are cleared" is given (R1): DESIGN
CHOICE, unsafe, log entry 1. -/
def Link.start : Link where
  service      := .absent
  enabled      := false
  zone         := 0
  planCount    := 1
  effCount     := 1
  joinTimer    := none
  silenceTimer := none
  queue        := []
  head         := none

/-- The header parameters before a header is read: the burst allowance is 1 (R147); the others are
what a header of zeros is clamped to. DESIGN CHOICE, unsafe, log entry 1. -/
def Header.start : Header where
  joinLimit     := 2
  silenceLimit  := 12
  retryCode     := 0
  retryAction   := .discard
  standardLife  := 1
  priorityLife  := 1
  homeRounds    := 1
  pageSpacing   := 4
  burst         := 1

/-- Zone parameters before a zone record is read: what a record of zeros is clamped to. DESIGN CHOICE,
unsafe, log entry 1. -/
def ZoneParams.start : ZoneParams where
  shift         := 0
  staleLimit    := 1
  weak          := 0
  recovery      := 0
  errorLimit    := 0
  watchLimit    := 1
  notice        := .off
  margin        := 0
  weakMargin    := 0
  biasCode      := 0
  leadCount     := 1
  settleFrames  := 0
  retryHold     := 0
  switchMode    := .immediate
  spacingCode   := 0
  reserveLimit  := 2
  arrivalLimit  := 2

/-- The plan copies before start-up. DESIGN CHOICE, unsafe, log entry 1. -/
def Plan.start : Plan where
  header  := .start
  zones   := .replicate 16 .start
  guards  := .replicate 48 0
  offsets := .replicate 48 0
  clamped := false

/-- A FREE roster entry (R20). -/
def RosterEntry.free : RosterEntry where
  registered  := false
  identity    := 0
  check       := 0
  subIndex    := 0
  cls         := .standard
  zoneMask    := 0
  lastBase    := 0
  lastZone    := 0
  attachFrame := 0
  heardFrame  := 0
  expiry      := none
  call        := none

/-- A FREE call table entry with the start values of R58, R75, R94 and R110. -/
def Call.free : Call where
  state         := .free
  handset       := 0
  base          := 0
  channel       := 0
  origin        := .local
  setupFrame    := 0
  handoverCount := 0
  endReason     := none
  filter        := none
  neighbours    := []
  watch         := .normal
  watchCount    := 0
  settle        := none
  hold          := none
  tagCounter    := 0
  lastAbort     := none
  handover      := none

/-- The arbiter's start state (R147). -/
def Port.start : Port where
  holder := none
  count  := 0
  last   := none
  access := none

/-- The Order Unit with an empty list and an IDLE intake (R156). The last-seen count is read at
start-up; 0 before that is a DESIGN CHOICE, unsafe, log entry 1. -/
def Oru.start : Oru where
  lastSeen   := 0
  intake     := .idle
  intakeDue  := false
  dispatched := none
  inFlight   := []
  queue      := []

/-- The ACU with every mark clear, every pending-bit set and the queue empty (R157), and the change counts 0
as start-up sets them (R149). R149 gives them no value after power-on, nor from leaving RUNNING until the
next start-up; that they then hold 0 is DESIGN CHOICE, unsafe, log entry 1. -/
def Acu.start : Acu where
  handsetMarks  := .replicate 512 none
  callMarks     := .replicate 256 none
  queue         := []
  basePending   := .replicate 48 0
  slotPending   := .replicate 32 0
  devicePending := 0
  handsetChange := .replicate 512 0
  callChange    := .replicate 256 0
  snapshots     := []
  job           := none

/-- Every counter 0, as start-up sets it (R159). Outside RUNNING the counters keep no value by R159; that
they then hold 0 is DESIGN CHOICE (log entry 1). -/
def Counters.start : Counters where
  base   := .replicate 48 (.replicate 8 0)
  global := .replicate 16 0

/-- The registers after power-on, by the RESET pin (Table 9-1, R144). -/
def Regs.start : Regs where
  run         := false
  attnEn      := false
  xbase       := 0
  part        := .halted
  fault       := .none
  frame       := 0
  attnPending := false
  halting     := false
  haltSlots   := []

/-- The part right after power-on (R161): HALTED, every register at its reset value, every table
cleared; no exchange memory seen, nothing transmitted, no command waiting. -/
def State.reset : State where
  regs     := .start
  port     := .start
  plan     := .start
  links    := .replicate 48 .start
  roster   := .replicate 512 .free
  attaches := []
  lookup   := none
  pages    := []
  chans    := .replicate 48 (.replicate 8 .free)
  calls    := .replicate 256 .free
  batch    := []
  drains   := .replicate 48 none
  oru      := .start
  acu      := .start
  counters := .start
  mem      := []
  wire     := []
  pending  := []

/-! ### How a command may stop -/

/-- Why a command stops with a fault. The part itself never stops a run: an error of the exchange bus
or of the layout is a part state, FAULTED (R162). -/
inductive Fault where
  /-- Raised by `execRegisterWrite` for an offset that is no word of the 32-byte register window
  (9.1): such an access does not reach the part. Safe. -/
  | outsideWindow
  deriving DecidableEq, Repr

/-- Why a command has no meaning. -/
inductive Refusal where
  /-- Raised by an arm of `exec` for a command that is not modelled yet; no arm does so. Safe. -/
  | notModelled (mnemonic : String)
  deriving DecidableEq, Repr

/-- What a command answers. -/
abbrev Out := Host.Outcome State Fault Refusal

end Sys2Proof.Machine
end

