-- ==== Sys2Proof/Machine/Operands.lean ====
section
/-! DEFINITION. The operands as exchange memory lays them out: byte order (R146), the plan records and
their clamps (R2, R3, R21, R43, R57, R76, R77, R95, R111, R147), subscription entries (Table 9-5,
R29), order parameters and the form checks (Table 9-9, R152), and the codes of answers (Table 9-10). -/

namespace Sys2Proof.Machine

open Sys2Proof

/-! ### Byte order: least significant byte first (R146) -/

/-- Byte `i` of a field, byte 0 the least significant. -/
def byteOf {n : Nat} (w : BitVec n) (i : Nat) : Byte := w.extractLsb' (8 * i) 8

/-- The first `k` bytes of a field, least significant first. -/
def leBytes {n : Nat} (k : Nat) (w : BitVec n) : List Byte := (List.range k).map (byteOf w)

/-- The number in byte `i` of a record. -/
def byteNat {n : Nat} (w : BitVec n) (i : Nat) : Nat := (byteOf w i).toNat

/-- A number below `n`, where it is one. -/
def finOf (n k : Nat) : Option (Fin n) := if h : k < n then some ⟨k, h⟩ else none

/-- Two bytes of a number, least significant first. -/
def le16 (k : Nat) : List Byte := leBytes 2 (BitVec.ofNat 16 k)

/-! ### Clamps (0.9 Caution, and the rule of each field) -/

/-- The value used for a field whose range is `lo..hi`. -/
def clampTo (lo hi n : Nat) : Nat := if n < lo then lo else if hi < n then hi else n

/-- 1 where a field outside its range is clamped, else 0. -/
def clampCount (lo hi n : Nat) : Nat := if n < lo ∨ hi < n then 1 else 0

/-- The header parameters (bytes 0x0C..0x14 of the header) as clamped by R3, R21, R43 and R147. -/
def headerOf (r : BitVec 256) : Header where
  joinLimit    := clampTo 2 255 (byteNat r 0)
  silenceLimit := clampTo 12 255 (byteNat r 1)
  retryCode    := clampTo 0 3 (byteNat r 2)
  retryAction  := if byteNat r 3 = 1 then .declareLost else .discard
  standardLife := clampTo 1 255 (byteNat r 4)
  priorityLife := clampTo 1 255 (byteNat r 5)
  homeRounds   := clampTo 1 8 (byteNat r 6)
  pageSpacing  := clampTo 4 255 (byteNat r 7)
  burst        := clampTo 1 16 (byteNat r 8)

/-- How many header parameters are clamped. -/
def headerClamps (r : BitVec 256) : Nat :=
  clampCount 2 255 (byteNat r 0) + clampCount 12 255 (byteNat r 1) + clampCount 0 3 (byteNat r 2)
    + clampCount 0 1 (byteNat r 3) + clampCount 1 255 (byteNat r 4) + clampCount 1 255 (byteNat r 5)
    + clampCount 1 8 (byteNat r 6) + clampCount 4 255 (byteNat r 7) + clampCount 1 16 (byteNat r 8)

/-- The notice mode of a byte (Table 6-2). -/
def noticeOf : Nat → NoticeMode
  | 1 => .edge
  | 2 => .level
  | _ => .off

/-- A zone record as clamped by R77, R95 and R111. The recovery threshold is clamped against the
clamped weak threshold, the weak margin against the clamped margin (R95). -/
def zoneOf (r : BitVec 256) : ZoneParams where
  shift        := clampTo 0 5 (byteNat r 0)
  staleLimit   := clampTo 1 15 (byteNat r 1)
  weak         := clampTo 0 127 (byteNat r 2)
  recovery     := clampTo (clampTo 0 127 (byteNat r 2)) 127 (byteNat r 3)
  errorLimit   := clampTo 0 15 (byteNat r 4)
  watchLimit   := clampTo 1 8 (byteNat r 5)
  notice       := noticeOf (byteNat r 6)
  margin       := clampTo 0 15 (byteNat r 7)
  weakMargin   := clampTo 0 (clampTo 0 15 (byteNat r 7)) (byteNat r 8)
  biasCode     := clampTo 0 3 (byteNat r 9)
  leadCount    := clampTo 1 8 (byteNat r 10)
  settleFrames := byteNat r 11
  retryHold    := byteNat r 12
  switchMode   := if byteNat r 13 = 1 then .marked else .immediate
  spacingCode  := clampTo 0 3 (byteNat r 14)
  reserveLimit := clampTo 2 31 (byteNat r 15)
  arrivalLimit := clampTo 2 63 (byteNat r 16)

/-- How many fields of a zone record are clamped. -/
def zoneClamps (r : BitVec 256) : Nat :=
  clampCount 0 5 (byteNat r 0) + clampCount 1 15 (byteNat r 1) + clampCount 0 127 (byteNat r 2)
    + clampCount (clampTo 0 127 (byteNat r 2)) 127 (byteNat r 3) + clampCount 0 15 (byteNat r 4)
    + clampCount 1 8 (byteNat r 5) + clampCount 0 2 (byteNat r 6) + clampCount 0 15 (byteNat r 7)
    + clampCount 0 (clampTo 0 15 (byteNat r 7)) (byteNat r 8) + clampCount 0 3 (byteNat r 9)
    + clampCount 1 8 (byteNat r 10) + clampCount 0 1 (byteNat r 13) + clampCount 0 3 (byteNat r 14)
    + clampCount 2 31 (byteNat r 15) + clampCount 2 63 (byteNat r 16)

/-- A base record after clamping (Table 9-4). -/
structure BaseRecord where
  enabled : Bool
  zone    : ZoneNo
  count   : Nat
  offset  : Int
  guard   : Nat
  deriving DecidableEq, Repr

/-- The level offset byte, two's complement, clamped to −16..+15 (R76, R146). -/
def levelOffsetOf (b : Byte) : Int :=
  if b.toInt < -16 then -16 else if 15 < b.toInt then 15 else b.toInt

/-- The zone number of a byte: above 15 is read as 15 (R2). -/
def zoneNoOf (n : Nat) : ZoneNo := if h : n < 16 then ⟨n, h⟩ else 15

/-- A base record (bytes 0..4) as clamped by R2, R57 and R76. -/
def baseOf (r : BitVec 256) : BaseRecord where
  enabled := byteNat r 0 != 0
  zone    := zoneNoOf (byteNat r 1)
  count   := clampTo 1 8 (byteNat r 2)
  offset  := levelOffsetOf (byteOf r 3)
  guard   := clampTo 0 7 (byteNat r 4)

/-- How many fields of a base record are clamped. -/
def baseClamps (r : BitVec 256) : Nat :=
  clampCount 0 1 (byteNat r 0) + clampCount 0 15 (byteNat r 1) + clampCount 1 8 (byteNat r 2)
    + (if levelOffsetOf (byteOf r 3) = (byteOf r 3).toInt then 0 else 1) + clampCount 0 7 (byteNat r 4)

/-! ### Subscription entries (Table 9-5, R29) -/

/-- A subscription entry as R29 reads its fields. -/
structure Subscription where
  identity : Identity
  enabled  : Bool
  cls      : HandsetClass
  zoneMask : BitVec 16
  deriving DecidableEq, Repr

/-- The fields of a 16-byte subscription entry. -/
def subscriptionOf (e : BitVec 128) : Subscription where
  identity := e.extractLsb' 0 40
  enabled  := byteNat e 5 != 0
  cls      := if byteNat e 6 = 1 then .priority else .standard
  zoneMask := e.extractLsb' 64 16

/-! ### Orders (Tables 9-6 and 9-9, R152) -/

/-- The kind byte of an order slot (Table 9-6). -/
def slotKind (w : BitVec 512) : Byte := byteOf w 1

/-- The 24-byte parameter field of an order slot (Table 9-6). -/
def slotParams (w : BitVec 512) : BitVec 192 := w.extractLsb' 64 192

/-- The parameter bytes that a kind occupies (Table 9-9). -/
def occupiedBytes : Nat → List Nat
  | 1 => [0, 1]
  | 2 => [0, 1]
  | 3 => [0]
  | 4 => [0, 1]
  | 5 => [0, 1, 2]
  | 6 => [0, 2, 3]
  | 7 => [0]
  | 8 => [0]
  | 9 => [0, 1]
  | 10 => [0, 1]
  | 11 => [0, 1]
  | 12 => [0]
  | _ => []

/-- The parameter bytes that the kind does not occupy are 0 (R152 check 2). -/
def reservedClear (kind : Nat) (p : BitVec 192) : Bool :=
  (List.range 24).all fun i => (occupiedBytes kind).contains i || byteNat p i == 0

/-- The record an AMEND PLAN order names, where its numbers are in range (R152 check 3). -/
def planRecordOf (kind number : Nat) : Option PlanRecord :=
  match kind with
  | 0 => (finOf 16 number).map .zone
  | 1 => (finOf 48 number).map .base
  | _ => none

/-- The order of a kind code with its number parameters, where they are all in range (R152 check 3). -/
def orderOf (kind : Nat) (p : BitVec 192) : Option Order :=
  let n16 : Nat := (p.extractLsb' 0 16).toNat
  let b0 := byteNat p 0
  let b1 := byteNat p 1
  match kind with
  | 1 => (finOf 512 n16).map .deregister
  | 2 => (finOf 512 n16).map .page
  | 3 => (finOf 32 b0).map .cancel
  | 4 => (finOf 256 n16).map .clearCall
  | 5 => (finOf 256 n16).bind fun c => (finOf 48 (byteNat p 2)).map fun t => .forceMove c t
  | 6 => (finOf 48 b0).map fun b => .drainBase b (p.extractLsb' 16 16)
  | 7 => (finOf 48 b0).map .stopBase
  | 8 => (finOf 48 b0).map .startBase
  | 9 => (finOf 48 b0).bind fun b => (finOf 8 b1).map fun k => .blockChannel b k
  | 10 => (finOf 48 b0).bind fun b => (finOf 8 b1).map fun k => .unblockChannel b k
  | 11 => (planRecordOf b0 b1).map .amendPlan
  | 12 => if b0 ≤ 1 then some (.snapshot (b0 == 1)) else none
  | _ => none

/-- The form checks, in their order (R152): an order, or the code of the first check that fails. -/
def formCheck (kind : Byte) (p : BitVec 192) : Except FormCode Order :=
  if kind.toNat < 1 ∨ 12 < kind.toNat then .error .badKind
  else if reservedClear kind.toNat p then
    match orderOf kind.toNat p with
    | some o => .ok o
    | none => .error .badNumber
  else .error .badReserved

/-- The block an order is dispatched to (Table 9-9). -/
def blockOf : Order → Block
  | .deregister _ => .rsu
  | .page _ => .pgu
  | .cancel _ => .oru
  | .clearCall _ => .ccu
  | .forceMove _ _ => .hoe
  | .drainBase _ _ => .baseService
  | .stopBase _ => .baseService
  | .startBase _ => .baseService
  | .blockChannel _ _ => .ccu
  | .unblockChannel _ _ => .ccu
  | .amendPlan _ => .oru
  | .snapshot _ => .acu

/-! ### Answers (Table 9-10) -/

/-- The result class byte. -/
def verdictClass : Verdict → Nat
  | .done _ => 0
  | .form _ => 1
  | .state _ => 2
  | .failed _ => 3
  | .cancelled _ => 4

/-- The result code byte. -/
def verdictCode : Verdict → Nat
  | .done .ok => 0
  | .done .answered => 1
  | .done .found => 2
  | .form .badKind => 1
  | .form .badReserved => 2
  | .form .badNumber => 3
  | .state .notRegistered => 1
  | .state .inCall => 2
  | .state .busy => 3
  | .state .congested => 4
  | .state .noService => 5
  | .state .noCall => 6
  | .state .same => 7
  | .state .zone => 8
  | .state .inUse => 9
  | .state .nothing => 10
  | .state .tooLate => 11
  | .state .notStopped => 12
  | .state .inService => 13
  | .failed .notFound => 1
  | .failed .notRegistered => 2
  | .failed .refused => 3
  | .failed .noAnswer => 4
  | .failed .noChannel => 5
  | .failed .targetDrop => 6
  | .failed .noArrival => 7
  | .failed .noLinkRoom => 8
  | .failed .drain => 9
  | .failed .targetLost => 10
  | .failed .callEnded => 11
  | .failed .stopped => 12
  | .failed .baseLost => 13
  | .cancelled .cancel => 1
  | .cancelled .halt => 2
  | .cancelled .restart => 3

/-- Bytes 32..51 of an answered slot: class, code, detail and 16 bytes of result data (Table 9-6). -/
def resultBytes (r : OrderResult) : List Byte :=
  [BitVec.ofNat 8 (verdictClass r.verdict), BitVec.ofNat 8 (verdictCode r.verdict)] ++ le16 r.detail
    ++ (List.range 16).map fun i => r.data.getD i 0

/-- An answer without result data. -/
def plainResult (v : Verdict) (detail : Nat) : OrderResult := ⟨v, detail, []⟩

/-- The verdict that answers a FORCE MOVE whose attempt ended for a reason (R128). -/
def abortVerdict : AbortReason → Verdict
  | .refused => .failed .refused
  | .noAnswer => .failed .noAnswer
  | .noChannel => .failed .noChannel
  | .targetDrop => .failed .targetDrop
  | .noArrival => .failed .noArrival
  | .noLinkRoom => .failed .noLinkRoom
  | .drain => .failed .drain
  | .targetLost => .failed .targetLost
  | .callEnded => .failed .callEnded
  | .cancelled => .cancelled .cancel

/-- The result data of a FORCE MOVE that did not complete (Table 9-10). -/
def tagData (tag : AttemptTag) : List Byte := [0, tag]

/-- The result data of a PAGE (Table 9-10, R48). -/
def pageData (r : PageRecord) (answerZone : Nat) : List Byte :=
  [BitVec.ofNat 8 r.roundsMade, BitVec.ofNat 8 answerZone] ++ le16 r.appended ++ le16 r.skipped

/-- The result data of a DRAIN BASE (Table 9-10). -/
def drainData (d : DrainRecord) : List Byte :=
  le16 d.moved ++ le16 d.ended ++ le16 d.cleared ++ le16 d.attempts

/-- Every zone mask bit: whether zone `z` is in a mask (Table 9-5). -/
def inMask (mask : BitVec 16) (z : ZoneNo) : Bool := mask.getLsbD z.val

end Sys2Proof.Machine
end

