-- ==== Sys2Proof/Machine/Flags.lean ====
section
/-! DEFINITION. Attention bits, dirty marks, counters and the register words: everything by which the
part flags a change to the host (9.1, 9.3.5, R157, R159). -/

namespace Sys2Proof.Machine

open Sys2Proof

/-! ### Attention bits (9.3.5) -/

/-- Handset attention bit 0, REG. -/
def attnReg : Byte := 1
/-- Handset attention bit 1, LOC. -/
def attnLoc : Byte := 2
/-- Handset attention bit 2, CALL. -/
def attnCall : Byte := 4
/-- Call attention bit 0, STATE. -/
def attnState : Byte := 1
/-- Call attention bit 1, MOVED. -/
def attnMoved : Byte := 2
/-- Call attention bit 2, WEAK. -/
def attnWeak : Byte := 4
/-- Call attention bit 3, RECOVERED. -/
def attnRecovered : Byte := 8
/-- Call attention bit 4, ABORT. -/
def attnAbort : Byte := 16
/-- Base attention bit 0, LINK. -/
def attnLink : Byte := 1
/-- Base attention bit 1, DRAINED. -/
def attnDrained : Byte := 2
/-- Order slot attention bit 0, ANSWERED. -/
def attnAnswered : Byte := 1
/-- Device attention bit 0, RESTARTED. -/
def attnRestarted : Byte := 1
/-- Device attention bit 1, PLAN_CLAMPED. -/
def attnPlanClamped : Byte := 2

/-- A mark with bits added: set if it was clear, else with the bits added to it (R157). -/
def addMark (m : Option Byte) (bits : Byte) : Option Byte :=
  match m with
  | none => some bits
  | some old => some (old ||| bits)

/-- The write-back queue after a mark: the record joins the tail unless it was dirty already (R157). -/
def addToQueue (m : Option Byte) (r : RecordRef) (q : List RecordRef) : List RecordRef :=
  match m with
  | none => q ++ [r]
  | some _ => q

/-- Roster entry `h` is marked dirty with attention bits (R157). -/
def State.markHandset (s : State) (h : HandsetNo) (bits : Byte) : State :=
  { s with acu := { s.acu with
      handsetMarks := s.acu.handsetMarks.set h (addMark s.acu.handsetMarks[h] bits)
      queue := addToQueue s.acu.handsetMarks[h] (.handset h) s.acu.queue } }

/-- Call entry `c` is marked dirty with attention bits (R157). -/
def State.markCall (s : State) (c : CallNo) (bits : Byte) : State :=
  { s with acu := { s.acu with
      callMarks := s.acu.callMarks.set c (addMark s.acu.callMarks[c] bits)
      queue := addToQueue s.acu.callMarks[c] (.call c) s.acu.queue } }

/-- Bits are added to the pending-bit set of base `b` (R158). -/
def State.pendBase (s : State) (b : BaseNo) (bits : Byte) : State :=
  { s with acu := { s.acu with basePending := s.acu.basePending.set b (s.acu.basePending[b] ||| bits) } }

/-- Bits are added to the pending-bit set of order slot `i` (R158). -/
def State.pendSlot (s : State) (i : SlotNo) (bits : Byte) : State :=
  { s with acu := { s.acu with slotPending := s.acu.slotPending.set i (s.acu.slotPending[i] ||| bits) } }

/-- Bits are added to the pending-bit set of the device byte (R158). -/
def State.pendDevice (s : State) (bits : Byte) : State :=
  { s with acu := { s.acu with devicePending := s.acu.devicePending ||| bits } }

/-! ### Counters (R159) -/

/-- A count increased by 1, stopping at 65535 (0.7, R159). -/
def satSucc (n : Nat) : Nat := if n < Config.counterMax then n + 1 else Config.counterMax

/-- The place of a per-base counter in its row (9.3.5). -/
def baseIndex : BaseCounter → Fin 8
  | .admitted => 0
  | .refused => 1
  | .handoversIn => 2
  | .handoversOut => 3
  | .aborts => 4
  | .defers => 5
  | .discards => 6
  | .losses => 7

/-- The place of a global counter (9.3.5). -/
def globalIndex : GlobalCounter → Fin 16
  | .accepted => 0
  | .rejected => 1
  | .again => 2
  | .lapses => 3
  | .detaches => 4
  | .pagesFound => 5
  | .pagesNotFound => 6
  | .pageSkips => 7
  | .stale => 8
  | .ignoredPairs => 9
  | .malformed => 10
  | .refusedForm => 11
  | .refusedState => 12
  | .batchFull => 13
  | .dropped => 14
  | .callsLost => 15

/-- The value of a per-base counter. -/
def State.baseCount (s : State) (b : BaseNo) (k : BaseCounter) : Nat := s.counters.base[b][baseIndex k]

/-- The value of a global counter. -/
def State.globalCount (s : State) (k : GlobalCounter) : Nat := s.counters.global[globalIndex k]

/-- A per-base counter is incremented (R159). -/
def State.bumpBase (s : State) (b : BaseNo) (k : BaseCounter) : State :=
  { s with counters := { s.counters with
      base := s.counters.base.set b (s.counters.base[b].set (baseIndex k) (satSucc s.counters.base[b][baseIndex k])) } }

/-- A global counter is incremented (R159). -/
def State.bump (s : State) (k : GlobalCounter) : State :=
  { s with counters := { s.counters with
      global := s.counters.global.set (globalIndex k) (satSucc s.counters.global[globalIndex k]) } }

/-! ### The register window as the host reads it (R144, R145) -/

/-- The part state field of STATUS (Table 9-1). -/
def partCode : PartState → BitVec 2
  | .halted => 0
  | .starting => 1
  | .running => 2
  | .faulted => 3

/-- The fault code field of STATUS (Table 9-1). -/
def faultFieldCode : FaultCode → BitVec 2
  | .none => 0
  | .layout => 1
  | .busError => 2

/-- A Bool as one bit. -/
def bitOf (b : Bool) : BitVec 1 := BitVec.ofBool b

/-- CONTROL: RUN, RESTART (reads 0), ATTN_EN (Table 9-1). -/
def State.controlWord (s : State) : BitVec 32 :=
  (bitOf s.regs.run).setWidth 32 ||| ((bitOf s.regs.attnEn).setWidth 32 <<< 2)

/-- XBASE: the exchange base address divided by 65536 in bits 31..16 (Table 9-1). -/
def State.xbaseWord (s : State) : BitVec 32 := s.regs.xbase.setWidth 32 <<< 16

/-- STATUS: part state, fault code, low 16 bits of the frame count (Table 9-1). -/
def State.statusWord (s : State) : BitVec 32 :=
  (partCode s.regs.part).setWidth 32 ||| ((faultFieldCode s.regs.fault).setWidth 32 <<< 2)
    ||| ((s.regs.frame.setWidth 16).setWidth 32 <<< 16)

/-- ATTN: PENDING in bit 0 (Table 9-1). -/
def State.attnWord (s : State) : BitVec 32 := (bitOf s.regs.attnPending).setWidth 32

/-- What a read of the register window at an offset returns (R144). A read changes nothing. -/
def State.readRegister (s : State) (offset : Nat) : BitVec 32 :=
  match offset with
  | 0x00 => Config.ident
  | 0x04 => s.controlWord
  | 0x08 => s.xbaseWord
  | 0x0C => s.statusWord
  | 0x10 => s.attnWord
  | _ => 0

/-- The ATTN output is asserted while PENDING and ATTN_EN are both 1 (R145). -/
def State.attnOutput (s : State) : Bool := s.regs.attnPending && s.regs.attnEn

/-- PENDING is set (R158 step 3). -/
def State.setPending (s : State) : State := { s with regs := { s.regs with attnPending := true } }

end Sys2Proof.Machine
end

