-- ==== Sys2Proof/Machine/Ops.lean ====
section
/-! DEFINITION. The named operations over tables, memory and timers that every block's rules use. -/

namespace Sys2Proof.Machine

open Sys2Proof

/-! ### Tables -/

/-- The entries of a list, numbered from `k`. -/
def enumFrom {α : Type} {n : Nat} : (l : List α) → (k : Nat) → k + l.length = n → List (Fin n × α)
  | [], _, _ => []
  | x :: r, k, h =>
    (⟨k, by simp only [List.length_cons] at h; omega⟩, x)
      :: enumFrom r (k + 1) (by simp only [List.length_cons] at h; omega)

/-- The numbered entries of a table, in ascending order. -/
def enumTable {α : Type} {n : Nat} (v : Vector α n) : List (Fin n × α) :=
  enumFrom v.toList 0 (by simp)

/-- The numbers of the entries that satisfy a test, in ascending order. -/
def indicesWhere {α : Type} {n : Nat} (v : Vector α n) (p : α → Bool) : List (Fin n) :=
  ((enumTable v).filter fun e => p e.2).map Prod.fst

/-- The lowest number whose entry satisfies a test. -/
def lowestWhere {α : Type} {n : Nat} (v : Vector α n) (p : α → Bool) : Option (Fin n) :=
  (indicesWhere v p).head?

/-- A table with a function applied to every entry. -/
def mapTable {α β : Type} {n : Nat} (f : α → β) (v : Vector α n) : Vector β n :=
  ⟨(v.toList.map f).toArray, by simp⟩

/-! ### Memory (R146): cells at strictly rising addresses; a byte never seen is not listed -/

/-- The byte at an address, where the part has written or read it. -/
def memRead : List Host.Cell → Nat → Option Byte
  | [], _ => none
  | (x, w) :: r, a => if x = a then some w else memRead r a

/-- A byte is written at an address. -/
def memWrite : List Host.Cell → Nat → Byte → List Host.Cell
  | [], a, v => [(a, v)]
  | (x, w) :: r, a, v =>
    if a < x then (a, v) :: (x, w) :: r
    else if a = x then (a, v) :: r
    else (x, w) :: memWrite r a v

/-- Bytes are written from an address upward. -/
def memWriteAll : List Host.Cell → Nat → List Byte → List Host.Cell
  | m, _, [] => m
  | m, a, v :: r => memWriteAll (memWrite m a v) (a + 1) r

/-- The bytes of a range are no longer known (an access abandoned part way, R148). -/
def memForget (m : List Host.Cell) (a n : Nat) : List Host.Cell :=
  m.filter fun e => decide (e.1 < a ∨ a + n ≤ e.1)

/-- The addresses rise strictly. -/
def memWf : List Host.Cell → Bool
  | [] => true
  | [_] => true
  | (a, _) :: (b, v) :: r => decide (a < b) && memWf ((b, v) :: r)

/-- The static RAM address of an exchange-memory offset (R146). -/
def State.address (s : State) (offset : Nat) : Nat := s.regs.xbase.toNat * 65536 + offset

/-- The byte of exchange memory at an offset, where the part has written or read it. -/
def State.exchangeByte (s : State) (offset : Nat) : Option Byte := memRead s.mem (s.address offset)

/-! ### Updates of one entry -/

/-- Link record `b` is changed. -/
def State.updLink (s : State) (b : BaseNo) (f : Link → Link) : State :=
  { s with links := s.links.set b (f s.links[b]) }

/-- Roster entry `h` is changed. -/
def State.updEntry (s : State) (h : HandsetNo) (f : RosterEntry → RosterEntry) : State :=
  { s with roster := s.roster.set h (f s.roster[h]) }

/-- Call entry `c` is changed. -/
def State.updCall (s : State) (c : CallNo) (f : Call → Call) : State :=
  { s with calls := s.calls.set c (f s.calls[c]) }

/-- The handover record of call `c`, if any, is changed. -/
def State.updHandover (s : State) (c : CallNo) (f : Handover → Handover) : State :=
  s.updCall c fun e => { e with handover := e.handover.map f }

/-- Channel position `k` of base `b` is set. -/
def State.setChan (s : State) (b : BaseNo) (k : ChanNo) (v : Chan) : State :=
  { s with chans := s.chans.set b (s.chans[b].set k v) }

/-- The drain record of base `b` is set or removed. -/
def State.setDrain (s : State) (b : BaseNo) (d : Option DrainRecord) : State :=
  { s with drains := s.drains.set b d }

/-- The page table is replaced. -/
def State.setPages (s : State) (p : List PageRecord) : State := { s with pages := p }

/-- The switch batch is replaced. -/
def State.setBatch (s : State) (q : List BatchEntry) : State := { s with batch := q }

/-- The pending attach list and the lookup are replaced. -/
def State.setAttaches (s : State) (l : List PendingAttach) (k : Option Lookup) : State :=
  { s with attaches := l, lookup := k }

/-- The Order Unit is changed. -/
def State.updOru (s : State) (f : Oru → Oru) : State := { s with oru := f s.oru }

/-- The ACU is changed. -/
def State.updAcu (s : State) (f : Acu → Acu) : State := { s with acu := f s.acu }

/-- The registers are changed. -/
def State.updRegs (s : State) (f : Regs → Regs) : State := { s with regs := f s.regs }

/-- The plan copies are changed. -/
def State.updPlan (s : State) (f : Plan → Plan) : State := { s with plan := f s.plan }

/-- The port is replaced. -/
def State.setPort (s : State) (p : Port) : State := { s with port := p }

/-- The exchange memory is replaced. -/
def State.setMem (s : State) (m : List Host.Cell) : State := { s with mem := m }

/-- A message is put on base link `b`. -/
def State.transmit (s : State) (b : BaseNo) (m : Downlink) : State :=
  { s with wire := s.wire ++ [⟨b, m⟩] }

/-! ### Reads of the tables -/

/-- The channel at position `k` of base `b`. -/
def State.chan (s : State) (b : BaseNo) (k : ChanNo) : Chan := s.chans[b][k]

/-- The service state of base `b`. -/
def State.service (s : State) (b : BaseNo) : Service := s.links[b].service

/-- The zone parameters of the zone that base `b`'s link record names. -/
def State.zoneAt (s : State) (b : BaseNo) : ZoneParams := s.plan.zones[s.links[b].zone]

/-- The frame count (R4). -/
def State.now (s : State) : FrameCount := s.regs.frame

/-- The frame `l` marks from now, modulo 2^32 (R5). -/
def State.after (s : State) (l : Nat) : FrameCount := s.regs.frame + BitVec.ofNat 32 l

/-- Whether a timer expires at the present frame count (R5). -/
def State.isDue (s : State) (t : Option FrameCount) : Bool := t == some s.regs.frame

/-- A link that carries messages: JOINING, SERVING or DRAINING (R7, R13). -/
def linkActive : Service → Bool
  | .joining => true
  | .serving => true
  | .draining => true
  | .absent => false
  | .stopped => false

/-- A call in progress: CONNECTED or MOVING (4.2). -/
def callLive : CallState → Bool
  | .connected => true
  | .moving => true
  | .free => false
  | .ended => false

/-- The part takes messages, marks and orders: RUNNING, and no halt under way (R1, R161). -/
def State.serves (s : State) : Bool := s.regs.part == .running && !s.regs.halting

/-- The attempt tag after a tag: passes from 255 to 1 (R112 step 2). -/
def nextTag (t : AttemptTag) : AttemptTag := if t = 255 then 1 else t + 1

/-! ### Clearing (R161, R162): every table at its start value; registers, exchange memory, the record
of transmissions and the waiting commands as they were -/

/-- Every table, queue and record cleared with no message and no exchange write (R1, R19, R20, R42,
R56, R58, R75, R94, R110, R132, R147, R156, R157, R159). -/
def State.clearTables (s : State) : State :=
  { State.reset with regs := s.regs, mem := s.mem, wire := s.wire, pending := s.pending }

/-- An access in progress is abandoned: the bytes it was writing are no longer known (R148, R161). -/
def State.abandonAccess (s : State) : State :=
  match s.port.access with
  | some { bytes := some _, offset := o, length := l, .. } => s.setMem (memForget s.mem (s.address o) l)
  | _ => s

end Sys2Proof.Machine
end

