-- ==== Sys2Proof/Machine/Records.lean ====
section
/-! DEFINITION. The bytes of the records that the part writes to exchange memory (Tables 9-7, 9-8, R149,
9.3.5). -/

namespace Sys2Proof.Machine

open Sys2Proof

/-- A number as one byte. -/
def byte1 (n : Nat) : Byte := BitVec.ofNat 8 n

/-- The status byte of a presence record: REGISTERED, call number present, expiry frame present
(Table 9-7). -/
def presenceStatus (e : RosterEntry) : Byte :=
  (if e.registered then 1 else 0) ||| (if e.call.isSome then 2 else 0) ||| (if e.expiry.isSome then 4 else 0)

/-- The class byte (Table 9-7). -/
def classCode : HandsetClass → Byte
  | .standard => 0
  | .priority => 1

/-- A presence record with its change count (Table 9-7, R149). -/
def presenceBytes (count : BitVec 16) (h : HandsetNo) (e : RosterEntry) : List Byte :=
  leBytes 2 count ++ le16 h.val
    ++ [presenceStatus e, classCode e.cls, byte1 e.lastBase.val, byte1 e.lastZone.val]
    ++ leBytes 5 e.identity
    ++ [match e.call with | some c => byte1 c.val | none => 0]
    ++ leBytes 2 e.check ++ le16 e.subIndex ++ leBytes 2 e.zoneMask
    ++ leBytes 4 e.attachFrame ++ leBytes 4 e.heardFrame ++ leBytes 4 (e.expiry.getD 0)

/-- The state byte of a call record (Table 9-7). -/
def callStateCode : CallState → Byte
  | .free => 0
  | .connected => 1
  | .moving => 2
  | .ended => 3

/-- The origin byte (Table 9-7). -/
def originCode : Origin → Byte
  | .local => 0
  | .paged => 1

/-- The end reason byte (Table 9-8). -/
def endReasonCode : Option EndReason → Byte
  | none => 0
  | some .hangup => 1
  | some .radioLost => 2
  | some .cleared => 3
  | some .reattach => 4
  | some .detached => 5
  | some .drained => 6
  | some .stopped => 7
  | some .baseLost => 8

/-- The last abort reason byte (Table 9-8). -/
def abortCode : Option AbortReason → Byte
  | none => 0
  | some .refused => 1
  | some .noAnswer => 2
  | some .noChannel => 3
  | some .targetDrop => 4
  | some .noArrival => 5
  | some .noLinkRoom => 6
  | some .drain => 7
  | some .targetLost => 8
  | some .cancelled => 9
  | some .callEnded => 10

/-- The watch state byte (Table 9-7). -/
def watchCode : Watch → Byte
  | .normal => 0
  | .suspect => 1
  | .weak => 2

/-- The handover kind byte (Table 9-7). -/
def kindCode : HandoverKind → Byte
  | .decision => 1
  | .forced => 2
  | .drain => 3

/-- The handover state byte (Table 9-7). -/
def handoverStateCode : HandoverState → Byte
  | .reserving => 1
  | .awaitMark => 2
  | .switching => 3

/-- Bytes 24..28 of a call record: kind, state, target base, attempt tag, flags; all 0 with no
handover record (Table 9-7, R149). -/
def handoverBytes : Option Handover → List Byte
  | none => [0, 0, 0, 0, 0]
  | some r => [kindCode r.kind, handoverStateCode r.state, byte1 r.target.val, r.tag,
      if r.oldDropped then 1 else 0]

/-- Bytes 18..21 of a call record: neighbour count, first neighbour's base and filtered level (Table
9-7, R93, R149). -/
def neighbourBytes : List Neighbour → List Byte
  | [] => [0, 0xFF] ++ le16 0
  | n :: r => [byte1 (r.length + 1), byte1 n.base.val] ++ le16 n.level

/-- A call record with its change count (Table 9-7, R93, R131, R149). -/
def callBytes (count : BitVec 16) (c : CallNo) (e : Call) : List Byte :=
  leBytes 2 count ++ [byte1 c.val, callStateCode e.state] ++ le16 e.handset.val
    ++ [byte1 e.base.val, byte1 e.channel.val, originCode e.origin, byte1 e.handoverCount,
        endReasonCode e.endReason, abortCode e.lastAbort]
    ++ leBytes 4 e.setupFrame
    ++ (match e.filter with | some f => le16 f | none => [0xFF, 0xFF])
    ++ neighbourBytes e.neighbours
    ++ [watchCode e.watch, byte1 e.watchCount]
    ++ handoverBytes e.handover ++ [0, 0, 0]

/-- The bytes of the counters of SNAPSHOT access `n`: base `n` for 0..47, then the globals (R159). -/
def counterBytes (k : Counters) (n : Nat) : List Byte :=
  if h : n < 48 then (k.base[n].toList.map le16).flatten else (k.global.toList.map le16).flatten

/-- The counters with those of SNAPSHOT access `n` set to 0 (R159). -/
def clearCounters (k : Counters) (n : Nat) : Counters :=
  if h : n < 48 then { k with base := k.base.set n (.replicate 8 0) }
  else { k with global := .replicate 16 0 }

end Sys2Proof.Machine
end

