-- ==== Sys2Proof/Machine/Port.lean ====
section
/-! DEFINITION. The Exchange Port: the place of every access in exchange memory (Tables 9-2 to 9-7,
R146), the work the Attention and Counter Unit takes (R157), the arbiter (R147), and what happens
when no access is left at a halt (R161) or a start-up begins (R160). -/

namespace Sys2Proof.Machine

open Sys2Proof

/-! ### Places in exchange memory -/

/-- The offset of an attention byte (9.3.5). -/
def attnOffset : AttnByte → Nat
  | .handset h => 0x1040 + h.val
  | .call c => 0x1240 + c.val
  | .base b => 0x1340 + b.val
  | .slot s => 0x1370 + s.val
  | .device => 0x1035

/-- The number of the summary byte of an attention byte (R158). -/
def summaryIndex : AttnByte → Nat
  | .handset h => h.val / 16
  | .call c => 32 + c.val / 16
  | .base b => 48 + b.val / 16
  | .slot s => 51 + s.val / 16
  | .device => 53

/-- The offset of order slot `s` (Table 9-2). -/
def slotOffset (s : SlotNo) : Nat := 0x0800 + 64 * s.val

/-- The offset and length of a plan record (Table 9-2). -/
def planPlace : PlanRecord → Nat × Nat
  | .zone z => (0x0100 + 32 * z.val, 32)
  | .base b => (0x0300 + 16 * b.val, 16)

/-- The offset and length of a presence or call record (Table 9-2). -/
def recordPlace : RecordRef → Nat × Nat
  | .handset h => (0x2000 + 32 * h.val, 32)
  | .call c => (0x6000 + 32 * c.val, 32)

/-- The offset and length of start-up zero write `k` (R160 step 5; log entry 9). -/
def zeroPlace (k : Nat) : Nat × Nat :=
  if k < Config.zeroAttentionWrites then (0x1000 + 64 * k, if k + 1 = Config.zeroAttentionWrites then 16 else 64)
  else (0x1400 + 64 * (k - Config.zeroAttentionWrites), if k + 1 = Config.zeroWrites then 32 else 64)

/-- The offset and length of SNAPSHOT counter access `n` (9.3.5, R159). -/
def counterPlace (n : Nat) : Nat × Nat := if n < 48 then (0x1400 + 16 * n, 16) else (0x1700, 32)

/-- The offset and length of an access (Tables 9-2 to 9-6). -/
def accessPlace : AccessKind → Nat × Nat
  | .subCount => (0x0002, 2)
  | .subEntry pos => (0x8000 + 16 * pos, 16)
  | .postedCount => (0x0004, 4)
  | .ownerByte s => (slotOffset s, 1)
  | .slotRead s => (slotOffset s, 64)
  | .takenWrite s => (slotOffset s, 1)
  | .resultWrite s _ => (slotOffset s + 32, 20)
  | .answeredWrite s => (slotOffset s, 1)
  | .planRead _ r => planPlace r
  | .startHeader => (0x0000, 2)
  | .startParams => (0x000C, 9)
  | .startZone z => planPlace (.zone z)
  | .startBase b => planPlace (.base b)
  | .scanOwner s => (slotOffset s, 1)
  | .startCountRead => (0x0008, 4)
  | .startCountWrite _ => (0x0008, 4)
  | .recordWrite r => recordPlace r
  | .attnRead t => (attnOffset t, 1)
  | .attnWrite t _ => (attnOffset t, 1)
  | .sumRead t => (0x1000 + summaryIndex t, 1)
  | .sumWrite t _ => (0x1000 + summaryIndex t, 1)
  | .counterWrite n => counterPlace n
  | .zeroWrite k => zeroPlace k

/-- The write-back of a record as the entry stands, with its increased change count (R149). -/
def State.recordBytes (s : State) : RecordRef → List Byte
  | .handset h => presenceBytes (s.acu.handsetChange[h] + 1) h s.roster[h]
  | .call c => callBytes (s.acu.callChange[c] + 1) c s.calls[c]

/-- The bytes an access writes, captured when it begins; absent for a read (R146, R149, R150, R153,
R158, R159, R160). -/
def State.accessBytes (s : State) : AccessKind → Option (List Byte)
  | .takenWrite _ => some [2]
  | .resultWrite _ r => some (resultBytes r)
  | .answeredWrite _ => some [3]
  | .startCountWrite v => some (leBytes 4 v)
  | .recordWrite r => some (s.recordBytes r)
  | .attnWrite _ v => some [v]
  | .sumWrite _ v => some [v]
  | .counterWrite n => some (counterBytes s.counters n)
  | .zeroWrite k => some (List.replicate (zeroPlace k).2 0)
  | _ => none

/-- The access of a kind begins: it is in progress, with its place and the bytes it writes. -/
def State.beginAccess (s : State) (k : AccessKind) : State :=
  s.setPort { s.port with access := some ⟨k, (accessPlace k).1, (accessPlace k).2, s.accessBytes k⟩ }

/-! ### The work of the Attention and Counter Unit (R157) -/

/-- The access of a stage of setting bits (R158). -/
def stageAccess (t : AttnByte) : BitStage → AccessKind
  | .readByte => .attnRead t
  | .writeByte v => .attnWrite t v
  | .readSummary => .sumRead t
  | .writeSummary v => .sumWrite t v

/-- The attention-only byte with a pending-bit set that goes first: the lowest offset, so the device
byte, then the bases, then the order slots (R157). At a halt only the slots answered by it count
(R161). -/
def State.pendingByte (s : State) : Option AttnByte :=
  if s.regs.halting then
    (((enumTable s.acu.slotPending).filter fun e => e.2 != 0 && s.regs.haltSlots.contains e.1).head?).map
      fun e => .slot e.1
  else if s.acu.devicePending != 0 then some .device
  else
    match lowestWhere s.acu.basePending (· != 0) with
    | some b => some (.base b)
    | none => (lowestWhere s.acu.slotPending (· != 0)).map .slot

/-- The pending bits of an attention-only byte. -/
def Acu.pendingBits (a : Acu) : AttnByte → Byte
  | .base b => a.basePending[b]
  | .slot i => a.slotPending[i]
  | .device => a.devicePending
  | _ => 0

/-- The pending-bit set of an attention-only byte is cleared. -/
def Acu.clearPending (a : Acu) : AttnByte → Acu
  | .base b => { a with basePending := a.basePending.set b 0 }
  | .slot i => { a with slotPending := a.slotPending.set i 0 }
  | .device => { a with devicePending := 0 }
  | _ => a

/-- The bits named with a record's mark. -/
def Acu.markBits (a : Acu) : RecordRef → Byte
  | .handset h => a.handsetMarks[h].getD 0
  | .call c => a.callMarks[c].getD 0

/-- A record leaves the head of the write-back queue: its mark is cleared and its change count
increased (R149, R157). -/
def Acu.takeRecord (a : Acu) : RecordRef → Acu
  | .handset h => { a with
      queue := a.queue.tail
      handsetMarks := a.handsetMarks.set h none
      handsetChange := a.handsetChange.set h (a.handsetChange[h] + 1) }
  | .call c => { a with
      queue := a.queue.tail
      callMarks := a.callMarks.set c none
      callChange := a.callChange.set c (a.callChange[c] + 1) }

/-- Whether a record is written ENDED as its entry stands (R59). -/
def State.writesEnded (s : State) : RecordRef → Bool
  | .handset _ => false
  | .call c => s.calls[c].state == .ended

/-- The ACU begins an access for its piece of work, or takes its next piece and begins its first
access, in the order of R157; absent where it has nothing to do. It takes no work in STARTING but the
zero writes (R160), and at a halt only ANSWERED bits (R161). The next piece is taken, and its mark or
pending-bit set cleared, when the port is granted for its first access and not while the ACU waits for
the port (DESIGN CHOICE, log entry 25). -/
def State.acuBegin (s : State) : Option State :=
  match s.acu.job with
  | some (.setBits t _ stage _) => some (s.beginAccess (stageAccess t stage))
  | some (.zero k) => some (s.beginAccess (.zeroWrite k))
  | some (.record _ _ _) => none
  | none =>
    if s.regs.part != .running then none
    else
      match s.pendingByte with
      | some t =>
        some ((s.updAcu fun a => { a.clearPending t with job := some (.setBits t (a.pendingBits t) .readByte none) }).beginAccess
          (.attnRead t))
      | none =>
        if s.regs.halting then none
        else
          match s.acu.snapshots with
          | p :: _ =>
            let t := s.beginAccess (.counterWrite p.next)
            some (if p.clear then { t with counters := clearCounters t.counters p.next } else t)
          | [] =>
            match s.acu.queue with
            | r :: _ =>
              some ((s.beginAccess (.recordWrite r)).updAcu fun a =>
                { a.takeRecord r with job := some (.record r (a.markBits r) (s.writesEnded r)) })
            | [] => none

/-! ### The arbiter (R147) -/

/-- The RSU's next read (R28): the lookup's count read, or the entry at mid. -/
def lookupAccess : Lookup → AccessKind
  | .count => .subCount
  | .search lo hi => .subEntry ((lo + hi) / 2)

/-- A requestor begins its next access; absent where it has none to make. -/
def State.beginFor (s : State) : Requestor → Option State
  | .rsu => if s.serves then s.lookup.map fun k => s.beginAccess (lookupAccess k) else none
  | .oru =>
    match s.oru.queue with
    | k :: r => some ((s.updOru fun o => { o with queue := r }).beginAccess k)
    | [] => none
  | .acu => s.acuBegin

/-- Whether a requestor has an access to make. -/
def State.wants (s : State) (r : Requestor) : Bool := (s.beginFor r).isSome

/-- The rotation RSU, ORU, ACU, starting after the requestor that held the port last. -/
def rotationAfter : Option Requestor → List Requestor
  | none => [.rsu, .oru, .acu]
  | some .rsu => [.oru, .acu, .rsu]
  | some .oru => [.acu, .rsu, .oru]
  | some .acu => [.rsu, .oru, .acu]

/-- The port is granted to the first waiting requestor in rotation, whose access begins; with none
waiting it has no holder. -/
def State.grant (s : State) : State :=
  match (rotationAfter s.port.last).find? s.wants with
  | some r =>
    ((s.setPort { s.port with holder := some r, count := 0, last := some r }).beginFor r).getD s
  | none => s.setPort { s.port with holder := none, count := 0 }

/-- Whether a requestor other than the holder waits. -/
def State.othersWait (s : State) (r : Requestor) : Bool :=
  [Requestor.rsu, .oru, .acu].any fun q => q != r && s.wants q

/-- The arbiter decides who makes the next access, where none is in progress. Accesses are made in
STARTING and RUNNING only (Table 10-1). -/
def State.arbitrate (s : State) : State :=
  if s.regs.part != .starting && s.regs.part != .running then s
  else if s.port.access.isSome then s
  else
    match s.port.holder with
    | none => s.grant
    | some r =>
      if s.wants r && (!s.othersWait r || decide (s.port.count < s.plan.header.burst)) then (s.beginFor r).getD s
      else s.grant

/-- The access in progress completes: a write's bytes are in memory, a read has shown what the memory
held there (log entry 2), and the holder's count increases by 1. -/
def State.completeAccess {n : Nat} (s : State) (data : BitVec n) : State :=
  match s.port.access with
  | some a =>
    { s with
      mem := memWriteAll s.mem (s.address a.offset) (a.bytes.getD (leBytes a.length data))
      port := { s.port with access := none, count := s.port.count + 1 } }
  | none => s

/-- The kind of the access in progress. -/
def State.accessKind (s : State) : Option AccessKind := s.port.access.map (·.kind)

/-! ### Beginning of start-up and end of a halt -/

/-- The part becomes STARTING and asks for the header (R160 steps 1 and 2). The burst allowance is 1
until the header is read. That the arbiter is at its start state also after a start-up abandoned by RUN 0 is DESIGN
CHOICE, log entry 27. -/
def State.beginStartup (s : State) : State :=
  (((s.clearTables).updRegs fun r => { r with part := .starting, fault := .none }).updOru fun o =>
    { o with queue := [.startHeader] }).arbitrate

/-- Steps 4 and 5 of a halt, with the PENDING of step 3: the tables are cleared and the part becomes
HALTED; if RUN reads 1 by then, start-up begins at once (R161). -/
def State.endHalt (s : State) : State :=
  let t := (s.setPending.clearTables).updRegs fun r => { r with part := .halted, halting := false, haltSlots := [] }
  if s.regs.run then t.beginStartup else t

/-- Every event ends here: the arbiter grants the port where it is free (R147), and a halt ends once no
access is in progress or left to make (R161). -/
def State.settle (s : State) : State :=
  let t := s.arbitrate
  if t.regs.halting && t.port.access.isNone then t.endHalt else t

end Sys2Proof.Machine
end

