-- ==== Sys2Proof/Machine/Links.lean ====
section
/-! DEFINITION. The Base Link Unit's operations on link records and outbound queues (Chapter 1): append,
transmission of a head, emptying, STOP, the service state requests of R11 and the BLU's share of a
loss (R12). -/

namespace Sys2Proof.Machine

open Sys2Proof

/-- A message as it is transmitted at a frame count: a SETUP takes the low 16 bits (R14). -/
def stampMessage (now : FrameCount) : Downlink → Downlink
  | .setup z n _ => .setup z n (now.setWidth 16)
  | m => m

/-- The message at the head of link `b`, if any, is put on the link (R14). -/
def State.transmitHead (s : State) (b : BaseNo) : State :=
  match s.links[b].queue with
  | m :: _ => s.transmit b (stampMessage s.now m)
  | [] => s

/-- The head of link `b` becomes a fresh head: transmitted at once, AWAITING ANSWER, retry count 0; an
empty queue has no head retry state (R14). -/
def State.startHead (s : State) (b : BaseNo) : State :=
  (s.updLink b fun l => { l with
    head := if l.queue.isEmpty then none else some ⟨.awaitingAnswer, 0, s.now⟩ }).transmitHead b

/-- Whether the BLU takes an append to link `b` (R13). -/
def State.appendTaken (s : State) (b : BaseNo) : Bool :=
  linkActive s.links[b].service && decide (s.links[b].queue.length < Config.queueDepth)

/-- A message joins the tail of link `b`'s queue; in an empty queue it becomes the head and is
transmitted at once (R13, R14). -/
def State.enqueue (s : State) (b : BaseNo) (m : Downlink) : State :=
  if s.links[b].queue.isEmpty then
    (s.updLink b fun l => { l with queue := [m] }).startHead b
  else s.updLink b fun l => { l with queue := l.queue ++ [m] }

/-- An append to link `b`: the state after it, and whether it was taken. A refused append is counted
in the discards of the base (R13). -/
def State.append (s : State) (b : BaseNo) (m : Downlink) : State × Bool :=
  if s.appendTaken b then (s.enqueue b m, true) else (s.bumpBase b .discards, false)

/-- An append whose refusal omits the message (Table 1-5). -/
def State.send (s : State) (b : BaseNo) (m : Downlink) : State := (s.append b m).1

/-- The outbound queue of link `b` is emptied, with the head's retry state (R18). -/
def State.emptyQueue (s : State) (b : BaseNo) : State :=
  s.updLink b fun l => { l with queue := [], head := none }

/-- A STOP is sent to base `b`: the queue is emptied and the STOP transmitted once (R17). -/
def State.stopTransmit (s : State) (b : BaseNo) : State := (s.emptyQueue b).transmit b .stop

/-- The head leaves the queue of link `b`, and the next message, if any, becomes the head (R14, R16). -/
def State.dropHead (s : State) (b : BaseNo) : State :=
  (s.updLink b fun l => { l with queue := l.queue.tail }).startHead b

/-- The silence timer of link `b` is restarted, where it runs (R7). -/
def State.restartSilence (s : State) (b : BaseNo) : State :=
  if linkActive s.links[b].service then
    s.updLink b fun l => { l with silenceTimer := some (s.after s.plan.header.silenceLimit) }
  else s

/-- The retries a head has (R3, R15). -/
def retryLimit : Nat → Nat
  | 0 => 2
  | 1 => 4
  | 2 => 16
  | _ => 64

/-- The service state of link `b` changes by a request of R11 that stops no timer, and LINK is
raised. -/
def State.changeService (s : State) (b : BaseNo) (v : Service) : State :=
  (s.updLink b fun l => { l with service := v }).pendBase b attnLink

/-- Link `b` enters STOPPED: timers stopped, queue emptied, STOP transmitted, attention raised (R11,
R17). -/
def State.enterStopped (s : State) (b : BaseNo) (bits : Byte) : State :=
  ((s.updLink b fun l => { l with service := .stopped, joinTimer := none, silenceTimer := none }).stopTransmit b).pendBase
    b bits

/-- The BLU's own changes at the loss of base `b` (R12). -/
def State.loseLink (s : State) (b : BaseNo) : State :=
  (((s.updLink b fun l => { l with service := .absent, joinTimer := none, silenceTimer := none }).emptyQueue
    b).bumpBase b .losses).pendBase b attnLink

end Sys2Proof.Machine
end

