-- ==== Sys2Proof/Machine/Answers.lean ====
section
/-! DEFINITION. The Order Unit's answer sequence (R153), which every block uses to hand back the result
of an order. -/

namespace Sys2Proof.Machine

open Sys2Proof

/-- The counter that a result increments: orders refused STATE (R153), orders refused FORM (R152). -/
def verdictCounter : Verdict → Option GlobalCounter
  | .state _ => some .refusedState
  | .form _ => some .refusedForm
  | _ => none

/-- The in-flight entry of a slot enters phase ANSWERING (R153). -/
def enterAnswering (slot : SlotNo) (l : List InFlight) : List InFlight :=
  l.map fun e => if e.slot = slot then { e with phase := .answering } else e

/-- A result is handed back for the order of a slot: its entry enters ANSWERING, a refusal is counted,
and the two writes of the answer are asked for in their order (R152, R153). -/
def State.handBack (s : State) (slot : SlotNo) (r : OrderResult) : State :=
  let t := s.updOru fun o => { o with
    inFlight := enterAnswering slot o.inFlight
    queue := o.queue ++ [.resultWrite slot r, .answeredWrite slot] }
  match verdictCounter r.verdict with
  | some k => t.bump k
  | none => t

/-- The in-flight entry of a slot. -/
def State.inFlightAt (s : State) (slot : SlotNo) : Option InFlight :=
  s.oru.inFlight.find? fun e => e.slot == slot

end Sys2Proof.Machine
end

