-- ==== Sys2Proof/Machine/Roster.lean ====
section
/-! DEFINITION. The Roster Unit's requests (Chapter 2): location, heard, renewal, call bind and unbind,
and the steps of a lookup. -/

namespace Sys2Proof.Machine

open Sys2Proof

/-- The lifetime of a class in frames (R21). -/
def State.lifetime (s : State) : HandsetClass → Nat
  | .standard => s.plan.header.standardLife * Config.lifetimeUnit
  | .priority => s.plan.header.priorityLife * Config.lifetimeUnit

/-- A location request for handset `h` and base `b`: last base and last zone are set, the entry is
marked dirty, and LOC is raised if the last base changes; refused for a FREE entry (R33). -/
def State.locate (s : State) (h : HandsetNo) (b : BaseNo) : State :=
  if s.roster[h].registered then
    (s.updEntry h fun e => { e with lastBase := b, lastZone := s.links[b].zone }).markHandset h
      (if s.roster[h].lastBase = b then 0 else attnLoc)
  else s

/-- A heard request for handset `h` (R34). -/
def State.heard (s : State) (h : HandsetNo) : State :=
  if s.roster[h].registered then
    (s.updEntry h fun e => { e with heardFrame := s.now }).markHandset h 0
  else s

/-- The lifetime of handset `h` is renewed (R35). -/
def State.renew (s : State) (h : HandsetNo) : State :=
  (s.updEntry h fun e => { e with
    expiry := if e.call.isSome then none else some (s.after (s.lifetime e.cls)) }).markHandset h 0

/-- A call bind of call `c` to handset `h`: refused for a FREE entry or one that holds a call (R36). -/
def State.bindCall (s : State) (h : HandsetNo) (c : CallNo) : State :=
  if s.roster[h].registered && s.roster[h].call.isNone then
    (s.updEntry h fun e => { e with call := some c, expiry := none }).markHandset h attnCall
  else s

/-- A call unbind of handset `h`: the call number becomes absent and the lifetime is re-armed;
disregarded for a FREE entry or one without a call (R36, R37). -/
def State.unbindCall (s : State) (h : HandsetNo) : State :=
  if s.roster[h].registered && s.roster[h].call.isSome then
    (s.updEntry h fun e => { e with call := none, expiry := some (s.after (s.lifetime e.cls)) }).markHandset h
      attnCall
  else s

/-- The REGISTERED handset with an identity, if any (R23 step 1). -/
def State.registeredWith (s : State) (i : Identity) : Option HandsetNo :=
  lowestWhere s.roster fun e => e.registered && e.identity == i

/-- The next lookup begins where the pending attach list is not empty (R27). -/
def State.startLookup (s : State) : State :=
  s.setAttaches s.attaches (if s.attaches.isEmpty then none else some .count)

end Sys2Proof.Machine
end

