-- ==== Sys2Proof/Machine/Channels.lean ====
section
/-! DEFINITION. The Call and Channel Unit's operations on the channel map and the call table (Chapter
4): the channel requests of R69 to R72, the notices of R71, and the channels of a base. -/

namespace Sys2Proof.Machine

open Sys2Proof

/-- Whether a channel names call `c` (R66 step 3). -/
def chanNames (c : CallNo) : Chan → Bool
  | .held d => d == c
  | .reserved d _ => d == c
  | .leaving d => d == c
  | .free => false
  | .blocked => false

/-- Whether a channel is in use: HELD, RESERVED or LEAVING (R100). -/
def chanInUse : Chan → Bool
  | .held _ => true
  | .reserved _ _ => true
  | .leaving _ => true
  | .free => false
  | .blocked => false

/-- Whether a channel is RESERVED for call `c`. -/
def chanReservedFor (c : CallNo) : Chan → Bool
  | .reserved d _ => d == c
  | _ => false

/-- The FREE channels of base `b` below its effective channel count, in ascending order (R60). -/
def State.freeChannels (s : State) (b : BaseNo) : List ChanNo :=
  (indicesWhere s.chans[b] (· == .free)).filter fun k => decide (k.val < s.links[b].effCount)

/-- The occupancy of base `b`: its channels below the effective channel count that are in use (R100). -/
def State.occupancy (s : State) (b : BaseNo) : Nat :=
  ((indicesWhere s.chans[b] chanInUse).filter fun k => decide (k.val < s.links[b].effCount)).length

/-- The lowest FREE entry of the call table (R62). -/
def State.freeCall (s : State) : Option CallNo := lowestWhere s.calls fun e => e.state == .free

/-- Whether call `c` holds a RESERVED channel anywhere. -/
def State.holdsReserved (s : State) (c : CallNo) : Bool :=
  s.chans.toList.any fun row => row.toList.any (chanReservedFor c)

/-- Whether the CCU takes a reserve request at base `t` for call `c` (R69): the channel it will
reserve. -/
def State.reservable (s : State) (t : BaseNo) (c : CallNo) : Option ChanNo :=
  if s.service t == .serving && t != s.calls[c].base && callLive s.calls[c].state && !s.holdsReserved c then
    (s.freeChannels t).head?
  else none

/-- An unreserve request: a position RESERVED for the call with the tag becomes FREE; otherwise it is
refused and nothing changes (R69). -/
def State.unreserve (s : State) (t : BaseNo) (j : ChanNo) (c : CallNo) (tag : AttemptTag) : State :=
  if s.chan t j = .reserved c tag then s.setChan t j .free else s

/-- A switch out request for call `c` with its reservation at `t`, `j` (R70). -/
def State.switchOut (s : State) (c : CallNo) (t : BaseNo) (j : ChanNo) (tag : AttemptTag) : State :=
  let b := s.calls[c].base
  let k := s.calls[c].channel
  if s.chan b k = .held c ∧ s.chan t j = .reserved c tag then (s.setChan b k (.leaving c)).markCall c 0 else s

/-- A count increased by 1, stopping at 255 (R70). -/
def succTo255 (n : Nat) : Nat := if n < Config.handoverCountMax then n + 1 else Config.handoverCountMax

/-- A complete request for call `c` with its reservation at `t`, `j` (R70). -/
def State.completeMove (s : State) (c : CallNo) (t : BaseNo) (j : ChanNo) (tag : AttemptTag) : State :=
  let b := s.calls[c].base
  let k := s.calls[c].channel
  if s.chan b k = .leaving c ∧ s.chan t j = .reserved c tag then
    ((((s.setChan b k .free).setChan t j (.held c)).updCall c fun e => { e with
      base := t, channel := j, handoverCount := succTo255 e.handoverCount }).markCall c 0)
  else s

/-- A switch back request for call `c` with its reservation at `t`, `j` (R70). -/
def State.switchBack (s : State) (c : CallNo) (t : BaseNo) (j : ChanNo) (tag : AttemptTag) : State :=
  let b := s.calls[c].base
  let k := s.calls[c].channel
  if s.chan b k = .leaving c ∧ s.chan t j = .reserved c tag then
    (((s.setChan t j .free).setChan b k (.held c)).markCall c 0)
  else s

/-- A move-begin notice (R71). -/
def State.moveBegin (s : State) (c : CallNo) : State :=
  if s.calls[c].state = .connected then (s.updCall c fun e => { e with state := .moving }).markCall c 0 else s

/-- A move-end notice (R71). -/
def State.moveEnd (s : State) (c : CallNo) : State :=
  if s.calls[c].state = .moving then (s.updCall c fun e => { e with state := .connected }).markCall c 0 else s

/-- Every channel that names call `c` becomes FREE (R66 step 3). -/
def State.freeChannelsOf (s : State) (c : CallNo) : State :=
  { s with chans := mapTable (mapTable fun v => if chanNames c v then .free else v) s.chans }

/-- A free-base request: every position of base `b` that is not BLOCKED becomes FREE (R72). -/
def State.freeBase (s : State) (b : BaseNo) : State :=
  { s with chans := s.chans.set b (mapTable (fun v => if v = .blocked then v else .free) s.chans[b]) }

/-- The calls served by base `b`, in ascending order of call number (R133, R139). -/
def State.servedBy (s : State) (b : BaseNo) : List CallNo :=
  indicesWhere s.calls fun e => callLive e.state && e.base == b

end Sys2Proof.Machine
end

