-- ==== Sys2Proof/Machine/Levels.lean ====
section
/-! DEFINITION. The Level Filter Unit (Chapter 5): the filter arithmetic, the neighbour set, and the
changes it makes for other blocks. -/

namespace Sys2Proof.Machine

open Sys2Proof

/-! ### Filter arithmetic (5.2) -/

/-- A raw level code corrected by a level offset, clamped to 0..127 (R78). -/
def correctedCode (code : LevelCode) (offset : Int) : Nat :=
  min (((code.val : Int) + offset).toNat) Config.levelCodeMax

/-- The target of a sample: the corrected code × 16 (R78). -/
def sampleTarget (code : LevelCode) (offset : Int) : Nat := correctedCode code offset * 16

/-- The step of a filtered level toward a target with averaging shift `k` ≥ 1: the difference divided
by 2^k, rounded to the nearest integer, exact halves up (R79). -/
def filterStep (k : Nat) (d : Int) : Int := (d + 2 ^ (k - 1)) / 2 ^ k

/-- A filtered level brought toward a target with averaging shift `k` (R79). -/
def average (k : Nat) (f t : Nat) : Nat :=
  if k = 0 then t else ((f : Int) + filterStep k ((t : Int) - (f : Int))).toNat

/-- The serving filter after a serving sample (R82). -/
def servingSample (k : Nat) (f : Option Nat) (t : Nat) : Nat :=
  match f with
  | none => t
  | some v => average k v t

/-! ### The neighbour set (5.3) -/

/-- Whether an entry stands before another: filtered level descending, ties to the lower base number
(R87). -/
def ranksBefore (a b : Neighbour) : Bool := decide (b.level < a.level) || (a.level == b.level && decide (a.base < b.base))

/-- An entry put in its place among ordered entries. -/
def insertRanked (n : Neighbour) : List Neighbour → List Neighbour
  | [] => [n]
  | x :: r => if ranksBefore n x then n :: x :: r else x :: insertRanked n r

/-- The neighbour set in order (R87). -/
def rankNeighbours : List Neighbour → List Neighbour
  | [] => []
  | x :: r => insertRanked x (rankNeighbours r)

/-- The insertion rule: a base joins a set with a filtered level; in a set of 6 it must be strictly
above the last entry, which leaves (R85). -/
def insertNeighbour (set : List Neighbour) (b : BaseNo) (level : Nat) : List Neighbour :=
  let new : Neighbour := ⟨b, level, 0, 0⟩
  if set.length < Config.neighbourMax then set ++ [new]
  else
    match (rankNeighbours set).getLast? with
    | some last => if last.level < level then set.filter (fun n => n.base != last.base) ++ [new] else set
    | none => set

/-- The entry of base `b` updated by a sample: averaged toward the target, age 0, lead kept (R84). -/
def updateNeighbour (set : List Neighbour) (b : BaseNo) (k t : Nat) : List Neighbour :=
  set.map fun n => if n.base = b then { n with level := average k n.level t, age := 0 } else n

/-- Whether base `b` has an entry in the set. -/
def hasNeighbour (set : List Neighbour) (b : BaseNo) : Bool := set.any fun n => n.base == b

/-- Entries not named age by 1, and entries whose age reaches the staleness limit are removed (R86). -/
def ageNeighbours (limit : Nat) (named : List BaseNo) (set : List Neighbour) : List Neighbour :=
  (set.map fun n => if named.contains n.base then n else { n with age := n.age + 1 }).filter
    fun n => decide (n.age < limit)

/-- The entries without that of base `b` (R89, R90). -/
def withoutNeighbour (b : BaseNo) (set : List Neighbour) : List Neighbour := set.filter fun n => n.base != b

/-- The progress of a report through its pairs: the set, the bases named by earlier pairs, the bases
whose entries were updated or created, and the pairs ignored so far (R83 to R86). -/
structure PairScan where
  set     : List Neighbour
  seen    : List ReportedBase
  named   : List BaseNo
  ignored : Nat
  deriving DecidableEq, Repr

/-- Whether a link state lets a pair naming its base be taken (R83). -/
def pairTaken : Service → Bool
  | .serving => true
  | .draining => true
  | .absent => false
  | .joining => false
  | .stopped => false

/-- One pair of a report of a call served by `b`, with averaging shift `k` (R83 to R85). -/
def State.takePair (s : State) (b : BaseNo) (k : Nat) (p : PairScan) (e : ReportedBase × LevelCode) : PairScan :=
  let seen := p.seen ++ [e.1]
  match finOf 48 e.1.val with
  | none => { p with seen := seen, ignored := p.ignored + 1 }
  | some x =>
    if !pairTaken (s.service x) || x == b || p.seen.contains e.1 then
      { p with seen := seen, ignored := p.ignored + 1 }
    else
      let t := sampleTarget e.2 s.plan.offsets[x]
      { set := if hasNeighbour p.set x then updateNeighbour p.set x k t else insertNeighbour p.set x t
        seen := seen
        named := p.named ++ [x]
        ignored := p.ignored }

/-- All pairs of a report, in message order (R83). -/
def State.takePairs (s : State) (b : BaseNo) (k : Nat) (set : List Neighbour) (pairs : List (ReportedBase × LevelCode)) :
    PairScan :=
  pairs.foldl (s.takePair b k) ⟨set, [], [], 0⟩

/-- The global counter of ignored report pairs increases once for each ignored pair (R83). -/
def State.countIgnored (s : State) : Nat → State
  | 0 => s
  | n + 1 => (s.bump .ignoredPairs).countIgnored n

/-- Steps 1 to 4 of a LEVEL REPORT for call `c` from its serving base `b` (R88): filter, pairs, ageing,
order; the entry is marked dirty. -/
def State.filterReport (s : State) (c : CallNo) (b : BaseNo) (level : LevelCode) (pairs : List (ReportedBase × LevelCode)) :
    State :=
  let z := s.zoneAt b
  let p := s.takePairs b z.shift s.calls[c].neighbours pairs
  (((s.countIgnored p.ignored).updCall c fun e => { e with
    filter := some (servingSample z.shift e.filter (sampleTarget level s.plan.offsets[b]))
    neighbours := rankNeighbours (ageNeighbours z.staleLimit p.named p.set) }).markCall c 0)

/-! ### Changes made for other blocks (5.4) -/

/-- The filtered level of base `t`'s entry, if it has one. -/
def levelOf (set : List Neighbour) (t : BaseNo) : Option Nat := (set.find? fun n => n.base == t).map (·.level)

/-- The neighbour set after a serving change from `a` to `t` (R89 steps 1 to 3). -/
def State.changedSet (s : State) (c : CallNo) (a t : BaseNo) : List Neighbour :=
  let rest := withoutNeighbour t s.calls[c].neighbours
  let withOld :=
    match s.calls[c].filter with
    | some f => if pairTaken (s.service a) then insertNeighbour rest a f else rest
    | none => rest
  rankNeighbours (withOld.map fun n => { n with lead := 0 })

/-- A serving-change request for call `c` from `a` to `t` (R89). -/
def State.servingChange (s : State) (c : CallNo) (a t : BaseNo) : State :=
  (s.updCall c fun e => { e with
    filter := levelOf e.neighbours t
    neighbours := s.changedSet c a t }).markCall c 0

/-- A drop request for call `c` (R91). -/
def State.dropFilters (s : State) (c : CallNo) : State :=
  s.updCall c fun e => { e with filter := none, neighbours := [] }

/-- Base `b` leaves the neighbour set of call `c`; an entry whose set changes is marked dirty (R90). -/
def State.removeFromSet (s : State) (b : BaseNo) (c : CallNo) : State :=
  (s.updCall c fun e => { e with neighbours := withoutNeighbour b e.neighbours }).markCall c 0

/-- Base `b` is removed from the neighbour set of every call (R90). -/
def State.removeFromSets (s : State) (b : BaseNo) : State :=
  (indicesWhere s.calls fun e => hasNeighbour e.neighbours b).foldl (fun t c => t.removeFromSet b c) s

end Sys2Proof.Machine
end

