-- ==== Sys2Proof/Machine/Handover.lean ====
section
/-! DEFINITION. The Handover Engine's operations (Chapters 6 and 7): reservation and try-next,
switching and the switch batch, completion, and the ends of an attempt. -/

namespace Sys2Proof.Machine

open Sys2Proof

/-! ### Ends of an attempt (7.7) -/

/-- The batch entry of call `c`, if any, leaves the switch batch (R119). -/
def State.dropBatch (s : State) (c : CallNo) : State := s.setBatch (s.batch.filter fun e => e.call != c)

/-- The FORCE MOVE order that a record carries, if any, is answered (R128). -/
def State.answerMove (s : State) (slot : Option SlotNo) (r : OrderResult) : State :=
  match slot with
  | some i => s.handBack i r
  | none => s

/-- The answer to a FORCE MOVE whose attempt did not complete: the target base and the tag of the last
reserve request (R128). -/
def abortResult (r : Handover) (a : AbortReason) : OrderResult := ⟨abortVerdict a, r.target.val, tagData r.tag⟩

/-- The hold timer is started with the retry hold of the serving base's zone, where that is above 0
(R104). -/
def State.startHold (s : State) (c : CallNo) : State :=
  let l := (s.zoneAt s.calls[c].base).retryHold
  if 0 < l then s.updCall c fun e => { e with hold := some (s.after l) } else s

/-- A reservation that a record holds is given up: switch back with RELEASE and STAY in SWITCHING,
unreserve with RELEASE before it (R124 step 2). -/
def State.giveUp (s : State) (c : CallNo) (r : Handover) : State :=
  match r.channel with
  | none => s
  | some j =>
    let t :=
      if r.state = .switching then
        ((s.switchBack c r.target j r.tag).send r.target (.release j r.tag)).send s.calls[c].base
          (.stay s.calls[c].channel)
      else (s.unreserve r.target j c r.tag).send r.target (.release j r.tag)
    t.bumpBase r.target .aborts

/-- The record of call `c` is removed, with a move-end notice (R124 step 3). -/
def State.removeRecord (s : State) (c : CallNo) : State :=
  (s.updCall c fun e => { e with handover := none }).moveEnd c

/-- The last abort reason of call `c` is set and ABORT raised (R124 step 4). -/
def State.noteAbort (s : State) (c : CallNo) (a : AbortReason) : State :=
  (s.updCall c fun e => { e with lastAbort := some a }).markCall c attnAbort

/-- The attempt of call `c` ends without completing, and the call goes on (R124). -/
def State.attemptEnd (s : State) (c : CallNo) (a : AbortReason) : State :=
  match s.calls[c].handover with
  | none => s
  | some r =>
    let t := (((s.dropBatch c).giveUp c r).removeRecord c).noteAbort c a
    let u := if r.kind = .decision then t.startHold c else t
    u.answerMove r.slot (abortResult r a)

/-- The record of an ending call ends CALL_ENDED (R125). -/
def State.endRecord (s : State) (c : CallNo) : State :=
  match s.calls[c].handover with
  | none => s
  | some r =>
    let t := s.dropBatch c
    let u :=
      match r.channel with
      | some j => (t.send r.target (.release j r.tag)).bumpBase r.target .aborts
      | none => t
    ((u.updCall c fun e => { e with handover := none }).noteAbort c .callEnded).answerMove r.slot
      (abortResult r .callEnded)

/-! ### Reservation (7.2) -/

/-- The record's last failure becomes a reason (R113 step 1). -/
def State.noteFailure (s : State) (c : CallNo) (a : AbortReason) : State :=
  s.updHandover c fun r => { r with lastFailure := some a }

/-- The candidate at the head of the try list becomes the target, with a fresh attempt tag (R112 steps
1 and 2). -/
def State.takeTarget (s : State) (c : CallNo) (t : BaseNo) (rest : List BaseNo) : State :=
  (s.updCall c fun e => { e with
    tagCounter := nextTag e.tagCounter
    handover := e.handover.map fun r => { r with
      tryList := rest, target := t, channel := none, tag := nextTag e.tagCounter, state := .reserving,
      reserveTimer := none } }).markCall c 0

/-- The identity of a call's handset, from its roster entry (R112 step 4). -/
def State.identityOf (s : State) (c : CallNo) : Identity := s.roster[s.calls[c].handset].identity

/-- The last failure of call `c`'s record, or the reason NO_CHANNEL where it has none. -/
def State.lastFailureOf (s : State) (c : CallNo) : AbortReason :=
  ((s.calls[c].handover.bind (·.lastFailure)).getD .noChannel)

/-- The candidates of call `c`'s record are tried in turn until one is reserved; with none left the
attempt ends with the last failure (R112 steps 1 to 5, R113 steps 4 and 5). -/
def State.tryCandidates (s : State) (c : CallNo) : List BaseNo → State
  | [] => s.attemptEnd c (s.lastFailureOf c)
  | t :: rest =>
    let u := s.takeTarget c t rest
    let tag := u.calls[c].tagCounter
    match u.reservable t c with
    | none => (u.noteFailure c .noChannel).tryCandidates c rest
    | some j =>
      match (u.setChan t j (.reserved c tag)).append t (.reserve j c (u.identityOf c) tag) with
      | (v, true) => v.updHandover c fun r => { r with
          channel := some j, reserveTimer := some (v.after (v.zoneAt t).reserveLimit) }
      | (v, false) => ((v.unreserve t j c tag).noteFailure c .noChannel).tryCandidates c rest

/-- A handover record is created for call `c`, and its first candidate taken in the same event (R112). -/
def State.startHandover (s : State) (c : CallNo) (kind : HandoverKind) (tries : List BaseNo) (slot : Option SlotNo) :
    State :=
  ((s.updCall c fun e => { e with
    handover := some {
      kind := kind, tryList := tries, target := tries.headD 0, channel := none, tag := e.tagCounter,
      state := .reserving, reserveTimer := none, arrivalTimer := none, oldDropped := false,
      lastFailure := none, slot := slot } }).moveBegin c).tryCandidates c tries

/-- The reservation of a failed candidate is given up; no RELEASE where the target refused it in
RESERVING (R113 step 3). -/
def State.giveUpCandidate (s : State) (c : CallNo) (r : Handover) (a : AbortReason) : State :=
  match r.channel with
  | none => s
  | some j =>
    let t := s.unreserve r.target j c r.tag
    let u := if a = .refused ∧ r.state = .reserving then t else t.send r.target (.release j r.tag)
    u.bumpBase r.target .aborts

/-- The candidate of call `c` fails, and the next is tried (R113). -/
def State.candidateFail (s : State) (c : CallNo) (a : AbortReason) : State :=
  match s.calls[c].handover with
  | none => s
  | some r =>
    ((((s.noteFailure c a).dropBatch c).giveUpCandidate c r a).updHandover c fun q => { q with
      channel := none, reserveTimer := none }).tryCandidates c r.tryList

/-! ### Switching (7.4) -/

/-- The SWITCH LIST entry of call `c` (R118). -/
def State.switchEntry (s : State) (c : CallNo) : Option SwitchEntry :=
  s.calls[c].handover.bind fun r => r.channel.map fun j => ⟨s.calls[c].channel, r.target, j, r.tag⟩

/-- The switch of call `c` has been sent: switch out, arrival timer, SWITCHING (R118 step 3). -/
def State.beginSwitch (s : State) (c : CallNo) : State :=
  match s.calls[c].handover with
  | none => s
  | some r =>
    match r.channel with
    | none => s
    | some j =>
      ((s.switchOut c r.target j r.tag).updHandover c fun q => { q with
        state := .switching
        reserveTimer := none
        arrivalTimer := some (s.after (s.zoneAt r.target).arrivalLimit) }).markCall c 0

/-- One SWITCH LIST to serving base `b` for calls `cs` (R118, R120 step 4). The manual gives no order in which the
entries of one list are switched, or end their attempts where its append is refused; list order is DESIGN CHOICE,
unsafe, log entry 19. -/
def State.sendSwitchList (s : State) (b : BaseNo) (cs : List CallNo) : State :=
  match s.append b (.switchList (cs.filterMap s.switchEntry)) with
  | (t, true) => cs.foldl (fun u c => u.beginSwitch c) t
  | (t, false) => cs.foldl (fun u c => u.attemptEnd c .noLinkRoom) t

/-- The mark spacing of a code (R111). -/
def markSpacing : Nat → Nat
  | 0 => 1
  | 1 => 2
  | 2 => 4
  | _ => 8

/-- The smallest frame count greater than the present one that is a multiple of the spacing (R119). -/
def dueFrame (now : FrameCount) (spacing : Nat) : FrameCount :=
  now + BitVec.ofNat 32 (spacing - now.toNat % spacing)

/-- Call `c` joins the switch batch and its record becomes AWAIT_MARK (R116, R119). -/
def State.joinBatch (s : State) (c : CallNo) (t : BaseNo) : State :=
  ((s.setBatch (s.batch ++ [⟨c, dueFrame s.now (markSpacing (s.zoneAt t).spacingCode)⟩])).updHandover c fun r =>
    { r with state := .awaitMark, reserveTimer := none }).markCall c 0

/-- A matching READY taken in RESERVING (R116). -/
def State.takeReady (s : State) (c : CallNo) (r : Handover) : State :=
  let t := s.updHandover c fun q => { q with reserveTimer := none }
  match (s.zoneAt r.target).switchMode with
  | .immediate => t.sendSwitchList s.calls[c].base [c]
  | .marked =>
    if s.batch.length < Config.batchMax then t.joinBatch c r.target
    else (t.bump .batchFull).sendSwitchList s.calls[c].base [c]

/-- A list cut into pieces of at most 8, in order (R120 step 3); `fuel` bounds the pieces. -/
def switchPieces {α : Type} : (fuel : Nat) → List α → List (List α)
  | 0, _ => []
  | _, [] => []
  | n + 1, x :: r =>
    (x :: r).take Config.switchListMax :: switchPieces n ((x :: r).drop Config.switchListMax)

/-- The SWITCH LISTs of the due calls: grouped by serving base, in pieces of at most 8, in batch order
(R120 steps 2 and 3). Serving bases are taken in ascending order; they need none (R120; log entry 19). -/
def State.switchLists (s : State) (due : List CallNo) : List (BaseNo × List CallNo) :=
  (List.finRange 48).flatMap fun b =>
    (switchPieces due.length (due.filter fun c => s.calls[c].base == b)).map fun p => (b, p)

/-- The batch entries whose due frame is the present frame are delivered (R120). -/
def State.deliverBatch (s : State) : State :=
  let due := (s.batch.filter fun e => e.due == s.now).map (·.call)
  (s.switchLists due).foldl (fun t p => t.sendSwitchList p.1 p.2)
    (s.setBatch (s.batch.filter fun e => e.due != s.now))

/-! ### Completion (7.5) -/

/-- The decision state at a completion: watch NORMAL, hold timer stopped, settle timer started from the
settle frames of the new serving base's zone (R103). -/
def State.settleCall (s : State) (c : CallNo) (t : BaseNo) : State :=
  let l := (s.zoneAt t).settleFrames
  s.updCall c fun e => { e with
    watch := .normal, watchCount := 0, hold := none, settle := if 0 < l then some (s.after l) else none }

/-- The answer to a FORCE MOVE that completed (R128). -/
def moveResult (e : Call) (tag : AttemptTag) : OrderResult :=
  ⟨.done .ok, e.base.val, [BitVec.ofNat 8 e.channel.val, tag, BitVec.ofNat 8 e.handoverCount]⟩

/-- Steps 1 to 8 of a completed handover of call `c` with record `r` and target channel `j` (R121). -/
def State.completeHandover (s : State) (c : CallNo) (r : Handover) (j : ChanNo) : State :=
  let a := s.calls[c].base
  let t := r.target
  let u := (((s.completeMove c t j r.tag).servingChange c a t).settleCall c t).locate s.calls[c].handset t
  let v := (((u.removeRecord c).markCall c attnMoved).bumpBase t .handoversIn).bumpBase a .handoversOut
  v.answerMove r.slot (moveResult v.calls[c] r.tag)

/-! ### Handovers of a base (7.8) -/

/-- The calls with a handover record that satisfies a test, in ascending order of call number. -/
def State.handoversWhere (s : State) (p : Handover → Bool) : List CallNo :=
  indicesWhere s.calls fun e => match e.handover with | some r => p r | none => false

/-- A drain-start notice naming `t` (R126). -/
def State.drainStartNotice (s : State) (t : BaseNo) : State :=
  (s.handoversWhere fun r => r.target == t && r.state != .switching).foldl (fun u c => u.attemptEnd c .drain) s

/-- A notice that `t` is lost or stopped (R127). -/
def State.targetLostNotice (s : State) (t : BaseNo) : State :=
  (s.handoversWhere fun r => r.target == t).foldl (fun u c => u.attemptEnd c .targetLost) s

/-- Whether base `n` may be a target of call `c` by link state and zone mask (R101, R107). -/
def State.allowedTarget (s : State) (c : CallNo) (n : BaseNo) : Bool :=
  s.service n == .serving && inMask s.roster[s.calls[c].handset].zoneMask s.links[n].zone

/-- The DRAIN try list of call `c` (R107). -/
def State.drainTries (s : State) (c : CallNo) : List BaseNo :=
  ((s.calls[c].neighbours.map (·.base)).filter (s.allowedTarget c)).take Config.tryListMax

end Sys2Proof.Machine
end

