-- ==== Sys2Proof/Machine/Service.lean ====
section
/-! DEFINITION. The base-service handling (Chapter 8) and what several blocks share of it: the end of a
call (R66), the completion of a drain (R136), withdrawal (R139), the loss of a base (R142), the
deferral of a head (R15, R16), and the freeing of a roster entry with the end of its page (R38, R48). -/

namespace Sys2Proof.Machine

open Sys2Proof

/-! ### Withdrawal and the completion of a drain -/

/-- Steps 3 to 5 of a withdrawal (R139): handovers into `b` end TARGET_LOST, `b` leaves every neighbour
set, its channels are freed. -/
def State.withdrawTail (s : State) (b : BaseNo) : State :=
  ((s.targetLostNotice b).removeFromSets b).freeBase b

/-- A drain of `b` ends with its record removed and its order answered (R136 step 4, R137 to R140,
R142). -/
def State.endDrain (s : State) (b : BaseNo) (d : DrainRecord) (v : Verdict) (detail : Nat) : State :=
  (s.setDrain b none).handBack d.slot ⟨v, detail, drainData d⟩

/-- The drain of `b` completes, its record being `d` (R136, R137 step 3). -/
def State.drainComplete (s : State) (b : BaseNo) (d : DrainRecord) (detail : Nat) : State :=
  ((s.enterStopped b (attnLink ||| attnDrained)).withdrawTail b).endDrain b d (.done .ok) detail

/-- The drain of `b` completes if no call is served by `b` (R135, R133 step 5). -/
def State.drainCheck (s : State) (b : BaseNo) : State :=
  match s.drains[b] with
  | some d => if (s.servedBy b).isEmpty then s.drainComplete b d 0 else s
  | none => s

/-- A call-left notice naming `b` (R135). -/
def State.callLeftNotice (s : State) (b : BaseNo) : State :=
  match s.drains[b] with
  | some d =>
    if d.phase = .active then (s.setDrain b (some { d with moved := satSucc d.moved })).drainCheck b else s
  | none => s

/-- A call-end notice naming `b`; in phase CLEARING it counts a cleared call and completes nothing
(R135). -/
def State.callEndNotice (s : State) (b : BaseNo) : State :=
  match s.drains[b] with
  | some d =>
    if d.phase = .active then (s.setDrain b (some { d with ended := satSucc d.ended })).drainCheck b
    else s.setDrain b (some { d with cleared := satSucc d.cleared })
  | none => s

/-! ### The end of a call (R66) -/

/-- The reasons for which the serving base is sent a RELEASE (R66 step 2). -/
def releasesServing : EndReason → Bool
  | .cleared => true
  | .reattach => true
  | .detached => true
  | .drained => true
  | .hangup => false
  | .radioLost => false
  | .stopped => false
  | .baseLost => false

/-- The reasons that count a call lost (R66 step 7). -/
def countsLost : EndReason → Bool
  | .radioLost => true
  | .baseLost => true
  | .hangup => false
  | .cleared => false
  | .reattach => false
  | .detached => false
  | .drained => false
  | .stopped => false

/-- A RELEASE with tag 0 to the serving base, where the reason asks for one (R66 step 2). -/
def State.releaseServing (s : State) (c : CallNo) (r : EndReason) : State :=
  if releasesServing r then s.send s.calls[c].base (.release s.calls[c].channel 0) else s

/-- The settle and hold timers of call `c` stop and its watch is NORMAL (R66 step 4, R94). -/
def State.restDecision (s : State) (c : CallNo) : State :=
  s.updCall c fun e => { e with watch := .normal, watchCount := 0, settle := none, hold := none }

/-- Entry `c` becomes ENDED with its end reason (R66 step 6). -/
def State.markEnded (s : State) (c : CallNo) (r : EndReason) : State :=
  (s.updCall c fun e => { e with state := .ended, endReason := some r }).markCall c attnState

/-- The global counter of calls lost, for the reasons that count it (R66 step 7). -/
def State.countLost (s : State) (r : EndReason) : State := if countsLost r then s.bump .callsLost else s

/-- Steps 1 to 7 of the end of call `c` with reason `r` (R66). -/
def State.callEndActions (s : State) (c : CallNo) (r : EndReason) : State :=
  let t := (((s.endRecord c).releaseServing c r).freeChannelsOf c).dropFilters c
  (((t.restDecision c).unbindCall s.calls[c].handset).markEnded c r).countLost r

/-- Call `c` ends with reason `r`; refused, with no change, where `c` is not CONNECTED or MOVING (R66,
R67). -/
def State.endCall (s : State) (c : CallNo) (r : EndReason) : State :=
  if callLive s.calls[c].state then
    let t := s.callEndActions c r
    if s.service s.calls[c].base = .draining then t.callEndNotice s.calls[c].base else t
  else s

/-! ### Stop, loss and deferral -/

/-- Every call served by `b` ends with reason `r`, in ascending order of call number (R139 step 2). -/
def State.endServed (s : State) (b : BaseNo) (r : EndReason) : State :=
  (s.servedBy b).foldl (fun t c => t.endCall c r) s

/-- Steps 2 to 5 of a withdrawal of `b` with reason `r` (R139). -/
def State.withdraw (s : State) (b : BaseNo) (r : EndReason) : State := (s.endServed b r).withdrawTail b

/-- A drain in flight on `b`, if any, is answered FAILED with the number of calls that the stop or loss
ends (R140, R142 step 1). -/
def State.failDrain (s : State) (b : BaseNo) (f : FailCode) : State :=
  match s.drains[b] with
  | some d => s.endDrain b d (.failed f) (s.servedBy b).length
  | none => s

/-- Base `b` is lost (R12, R142). -/
def State.baseLost (s : State) (b : BaseNo) : State :=
  ((s.failDrain b .baseLost).loseLink b).withdraw b .baseLost

/-- The head of link `b` changes its retry state. -/
def State.setHead (s : State) (b : BaseNo) (h : Head) : State := s.updLink b fun l => { l with head := some h }

/-- The retry action on the head of link `b` (R16). -/
def State.retryAction (s : State) (b : BaseNo) : State :=
  match s.plan.header.retryAction with
  | .discard => (s.bumpBase b .discards).dropHead b
  | .declareLost => s.baseLost b

/-- The head of link `b`, with retry state `h`, is deferred by a DEFER: at the next mark it is
transmitted again, or the retry action applies (R15). -/
def State.deferHead (s : State) (b : BaseNo) (h : Head) : State :=
  let t := s.bumpBase b .defers
  if h.retries < retryLimit s.plan.header.retryCode then
    t.setHead b { h with phase := .awaitingMark s.now, retries := h.retries + 1 }
  else t.retryAction b

/-- The head of link `b`, with retry state `h`, has had no answer by the second mark: the mark is taken
as a DEFER, and where a retry remains the head is transmitted again at that same mark (R15). -/
def State.expireHead (s : State) (b : BaseNo) (h : Head) : State :=
  let t := s.bumpBase b .defers
  if h.retries < retryLimit s.plan.header.retryCode then
    (t.setHead b ⟨.awaitingAnswer, h.retries + 1, s.now⟩).transmitHead b
  else t.retryAction b

/-! ### Drain moves (R134) -/

/-- A drain move is offered to call `c`, served by a DRAINING base (R134). -/
def State.offerDrainMove (s : State) (c : CallNo) : State :=
  if s.calls[c].state = .connected then
    match s.drainTries c with
    | [] => s
    | t :: r =>
      match s.drains[s.calls[c].base] with
      | some d =>
        (s.setDrain s.calls[c].base (some { d with attempts := satSucc d.attempts })).startHandover c .drain (t :: r) none
      | none => s
  else s

/-! ### The end of a page (R48) -/

/-- The page record of handset `h`. -/
def State.pageOf (s : State) (h : HandsetNo) : Option PageRecord := s.pages.find? fun p => p.handset == h

/-- The global counter that a page's end increments (R48 step 4). -/
def pageCounter : Verdict → Option GlobalCounter
  | .done _ => some .pagesFound
  | .failed .notFound => some .pagesNotFound
  | _ => none

/-- Page record `p` leaves the page table. -/
def State.dropPage (s : State) (p : PageRecord) : State :=
  s.setPages (s.pages.filter fun q => q.handset != p.handset)

/-- Page `p` ends with a class and code, a detail and the answer zone (R48). -/
def State.endPage (s : State) (p : PageRecord) (v : Verdict) (detail answerZone : Nat) : State :=
  let t := (s.handBack p.slot ⟨v, detail, pageData p answerZone⟩).dropPage p
  match pageCounter v with
  | some k => t.bump k
  | none => t

/-- Page `p` ends DONE through base `b` (R48, R49, R50). -/
def State.pageFound (s : State) (p : PageRecord) (d : DoneCode) (b : BaseNo) : State :=
  s.endPage p (.done d) b.val s.links[b].zone.val

/-- The page of handset `h`, if any, ends DONE FOUND through base `b` (R50). -/
def State.pageCallNotice (s : State) (h : HandsetNo) (b : BaseNo) : State :=
  match s.pageOf h with
  | some p => s.pageFound p .found b
  | none => s

/-- The page of handset `h`, if any, ends FAILED NOT_REGISTERED (R52). -/
def State.pageFreedNotice (s : State) (h : HandsetNo) : State :=
  match s.pageOf h with
  | some p => s.endPage p (.failed .notRegistered) 0 0
  | none => s

/-! ### Freeing a roster entry (R38) -/

/-- The call of handset `h`, if any, ends with reason `r` (R24 step 1, R38 step 1). -/
def State.endCallOf (s : State) (h : HandsetNo) (r : EndReason) : State :=
  match s.roster[h].call with
  | some c => s.endCall c r
  | none => s

/-- Entry `h` is freed, with a reason for any call (R38 steps 1 to 4). -/
def State.freeEntry (s : State) (h : HandsetNo) (r : EndReason) : State :=
  (((s.endCallOf h r).pageFreedNotice h).updEntry h fun _ => .free).markHandset h attnReg

end Sys2Proof.Machine
end

