-- ==== Sys2Proof/Machine/Paging.lean ====
section
/-! DEFINITION. The Page Unit (Chapter 3): zone sequences, rounds, the PAGE order, the round timer's
expiry and PAGE ANSWER. -/

namespace Sys2Proof.Machine

open Sys2Proof

/-- Whether some base of zone `z` is SERVING (R44). -/
def State.hasServing (s : State) (z : ZoneNo) : Bool :=
  s.links.toList.any fun l => l.service == .serving && l.zone == z

/-- The 16 zones in the order considered: the home zone, upward to 15, then from 0 (R44). -/
def zoneOrder (home : ZoneNo) : List ZoneNo := (List.finRange 16).map fun i => home + i

/-- The zone sequence of a page for handset `h` (R44). -/
def State.zoneSequence (s : State) (h : HandsetNo) : List ZoneNo :=
  (zoneOrder s.roster[h].lastZone).filter fun z => inMask s.roster[h].zoneMask z && s.hasServing z

/-- The bases that receive a PAGE in a round in zone `z`, in ascending order (R46). -/
def State.roundBases (s : State) (z : ZoneNo) : List BaseNo :=
  indicesWhere s.links fun l => l.service == .serving && l.zone == z

/-- One append of a round: the record counts it as appended or skipped (R46). -/
def pageAppend (m : Downlink) (a : State × PageRecord) (b : BaseNo) : State × PageRecord :=
  match a.1.append b m with
  | (t, true) => (t, { a.2 with appended := satSucc a.2.appended })
  | (t, false) => (t.bump .pageSkips, { a.2 with skipped := satSucc a.2.skipped })

/-- A round in zone `z` for page `p`: the state and the record after it (R46). -/
def State.round (s : State) (p : PageRecord) (z : ZoneNo) : State × PageRecord :=
  let m : Downlink := .page p.handset s.roster[p.handset].identity
  let a := (s.roundBases z).foldl (pageAppend m) (s, p)
  (a.1, { a.2 with roundsMade := a.2.roundsMade + 1 })

/-- Page record `p` takes the place of the record for its handset. -/
def State.putPage (s : State) (p : PageRecord) : State :=
  s.setPages (s.pages.map fun q => if q.handset = p.handset then p else q)

/-- A round is made for page `p` in zone `z` and its round timer restarts with the page spacing (R45,
R47). -/
def State.makeRound (s : State) (p : PageRecord) (z : ZoneNo) : State :=
  let a := s.round p z
  a.1.putPage { a.2 with nextRound := s.after s.plan.header.pageSpacing }

/-- The reason for which a PAGE order for handset `h` is refused, by the first check that applies
(R45). -/
def State.pageRefusal (s : State) (h : HandsetNo) : Option StateCode :=
  if !s.roster[h].registered then some .notRegistered
  else if s.roster[h].call.isSome then some .inCall
  else if (s.pageOf h).isSome then some .busy
  else if Config.pageTableMax ≤ s.pages.length then some .congested
  else if (s.zoneSequence h).isEmpty then some .noService
  else none

/-- A page for handset `h` starts from the order of a slot (R45). -/
def State.startPage (s : State) (slot : SlotNo) (h : HandsetNo) : State :=
  match s.zoneSequence h with
  | [] => s
  | z :: r =>
    let p : PageRecord := {
      handset := h, slot := slot, zones := z :: r,
      roundsLeft := if z = s.roster[h].lastZone then s.plan.header.homeRounds - 1 else 0,
      nextRound := s.after s.plan.header.pageSpacing, roundsMade := 0, appended := 0, skipped := 0 }
    (s.setPages (s.pages ++ [p])).makeRound p z

/-- The round timer of page `p` expires (R47). -/
def State.expireRound (s : State) (p : PageRecord) : State :=
  match p.zones with
  | z :: r =>
    if 0 < p.roundsLeft then s.makeRound { p with roundsLeft := p.roundsLeft - 1 } z
    else
      match r with
      | y :: _ => s.makeRound { p with zones := r, roundsLeft := 0 } y
      | [] => s.endPage p (.failed .notFound) 0 0
  | [] => s.endPage p (.failed .notFound) 0 0

/-- The round timer of handset `h`'s page expires, where it is due (R5, R47). -/
def State.takeRoundTimer (s : State) (h : HandsetNo) : State :=
  match s.pageOf h with
  | some p => if p.nextRound = s.now then s.expireRound p else s
  | none => s

/-- A PAGE ANSWER through base `b`, SERVING or DRAINING, for handset `h` (R49). -/
def State.pageAnswered (s : State) (b : BaseNo) (h : HandsetNo) : State :=
  if s.roster[h].registered then
    match s.pageOf h with
    | some p => ((s.locate h b).renew h).pageFound p .answered b
    | none => s.locate h b
  else s.bump .stale

end Sys2Proof.Machine
end

