-- ==== Sys2Proof/Machine/Events.lean ====
section
/-! DEFINITION. How a command reaches its effect: events that the part takes only while it serves (R1,
R4, R161), uplink messages by the service state of their link (R7), completions of exchange-memory
accesses (R146), and orders taken by their block (R153). An event whose condition does not hold (a
timer not due, no such access in progress) has no effect: DESIGN CHOICE, safe, log entry 7. -/

namespace Sys2Proof.Machine

open Sys2Proof

/-- A state, once the arbiter has granted the port where it is free (R147). -/
def settled (s : State) : Out := .next s.settle

/-- An event of the running part: in any other part state, and during a halt, it is not taken (R1, R4,
R161). -/
def State.whileServing (s : State) (f : State → State) : Out := settled (if s.serves then f s else s)

/-- A whole uplink message from an active link restarts its silence timer and is taken; from a link
ABSENT or STOPPED it is disregarded without count (R7, R14). -/
def State.answerFrom (s : State) (b : BaseNo) (f : State → State) : Out :=
  s.whileServing fun t => if linkActive (t.service b) then f (t.restartSilence b) else t

/-- A traffic message, READY or BEACON from link `b`: taken from an active link, whose silence timer it
restarts; stale from a link ABSENT or STOPPED (R7). -/
def State.messageFrom (s : State) (b : BaseNo) (f : State → State) : Out :=
  s.whileServing fun t => if linkActive (t.service b) then f (t.restartSilence b) else t.bump .stale

/-- A message that its block takes only from a base SERVING or DRAINING; from one JOINING it is stale
(R22, R49, R60). -/
def State.fromServing (s : State) (b : BaseNo) (f : State → State) : State :=
  if s.service b = .joining then s.bump .stale else f s

/-- The access in progress completes with the data that the bus returned, where it is of the kind that
the event names, and the event then acts on it (R146); otherwise nothing happens. -/
def State.onAccess {n : Nat} (s : State) (data : BitVec n) (f : State → AccessKind → Option State) : Out :=
  match s.accessKind with
  | some k =>
    match f (s.completeAccess data) k with
    | some t => settled t
    | none => .next s
  | none => .next s

/-- The ORU asks for exchange-memory accesses, in order (9.4). -/
def State.ask (s : State) (l : List AccessKind) : State := s.updOru fun o => { o with queue := o.queue ++ l }

/-- The slot after slot `i`, if any. -/
def nextSlot (i : SlotNo) : Option SlotNo := finOf 32 (i.val + 1)

/-- The intake goes on to the owner byte of the next slot, or becomes IDLE after slot 31 (R151). -/
def State.scanOn (s : State) : State :=
  match s.oru.intake with
  | .idle => s
  | .scanning i =>
    match nextSlot i with
    | some j => (s.updOru fun o => { o with intake := .scanning j }).ask [.ownerByte j]
    | none => s.updOru fun o => { o with intake := .idle }

/-- The order dispatched from a slot is taken by its block, and the intake then goes on (R151, R153; log
entry 4). An order that was not dispatched is not taken. -/
def State.takeOrder (s : State) (slot : SlotNo) (o : Order) (f : State → State) : Out :=
  s.whileServing fun t =>
    if t.oru.dispatched = some (slot, o) then (f (t.updOru fun u => { u with dispatched := none })).scanOn else t

/-- The part becomes FAULTED: the access in progress is abandoned, every table cleared with no exchange
write, no link transmits; RUN, ATTN_EN, PENDING and the frame count stay (R148, R162). -/
def State.faultWith (s : State) (f : FaultCode) : State :=
  (s.abandonAccess.clearTables).updRegs fun r => { r with
    part := .faulted, fault := f, halting := false, haltSlots := [] }

end Sys2Proof.Machine
end

