-- ==== Sys2Proof/Machine/AcuEvents.lean ====
section
/-! DEFINITION. The commands of the Attention and Counter Unit (Chapter 10): completions of record,
attention, summary and counter accesses, and SNAPSHOT. -/

namespace Sys2Proof.Machine

open Sys2Proof

/-- The attention byte of a record. -/
def recordByte : RecordRef → AttnByte
  | .handset h => .handset h
  | .call c => .call c

/-- The piece of work in progress is replaced. -/
def State.setJob (s : State) (j : Option AcuJob) : State := s.updAcu fun a => { a with job := j }

/-- The fields that the CCU keeps take their start values, and the number is FREE (R58, R59). -/
def releasedCall (e : Call) : Call :=
  { e with
    state := .free
    handset := 0
    base := 0
    channel := 0
    origin := .local
    setupFrame := 0
    handoverCount := 0
    endReason := none }

/-- A write report for call `c`, naming whether its record was written ENDED (R59). -/
def State.writeReport (s : State) (c : CallNo) (ended : Bool) : State :=
  if ended ∧ s.calls[c].state = .ended ∧ s.acu.callMarks[c] = none then s.updCall c releasedCall else s

/-- A write report, where there is one to give. -/
def State.giveReport (s : State) : Option (CallNo × Bool) → State
  | some (c, ended) => s.writeReport c ended
  | none => s

/-- The report of a record's write (R157). -/
def reportOf : RecordRef → Bool → Option (CallNo × Bool)
  | .handset _, _ => none
  | .call c, ended => some (c, ended)

/-- A record's write has completed: its kept bits are set next, and with none the write report is given
(R157, R158; log entry 10). -/
def State.recordWritten (s : State) (r : RecordRef) (bits : Byte) (ended : Bool) : State :=
  if bits = 0 then (s.setJob none).giveReport (reportOf r ended)
  else s.setJob (some (.setBits (recordByte r) bits .readByte (reportOf r ended)))

/-- RECORD_WRITE_DONE (R157, R59). -/
def execRecordWriteDone (s : State) : Out :=
  s.onAccess (0 : BitVec 0) fun t k =>
    match k with
    | .recordWrite _ =>
      some (match t.acu.job with
        | some (.record r bits ended) => t.recordWritten r bits ended
        | _ => t)
    | _ => none

/-- The bits of a byte are all set: PENDING is set, and the write report that waited is given (R158 step
3, R157). -/
def State.bitsSet (s : State) (report : Option (CallNo × Bool)) : State :=
  (s.setPending.setJob none).giveReport report

/-- The byte has been read: it is written back with the bits added (R158 step 1). -/
def State.byteRead (s : State) (data : Byte) : State :=
  match s.acu.job with
  | some (.setBits t bits .readByte rep) => s.setJob (some (.setBits t bits (.writeByte (data ||| bits)) rep))
  | _ => s

/-- The byte has been written: its summary byte is read next, but for the device byte (R158 step 2). -/
def State.byteWritten (s : State) : State :=
  match s.acu.job with
  | some (.setBits t bits (.writeByte _) rep) =>
    if t = .device then s.bitsSet rep else s.setJob (some (.setBits t bits .readSummary rep))
  | _ => s

/-- The summary byte has been read: it is written back with bit 0 set (R158 step 2). -/
def State.summaryRead (s : State) (data : Byte) : State :=
  match s.acu.job with
  | some (.setBits t bits .readSummary rep) => s.setJob (some (.setBits t bits (.writeSummary (data ||| 1)) rep))
  | _ => s

/-- The summary byte has been written (R158 step 3). -/
def State.summaryWritten (s : State) : State :=
  match s.acu.job with
  | some (.setBits _ _ (.writeSummary _) rep) => s.bitsSet rep
  | _ => s

/-- ATTENTION_BYTE_ACCESS_DONE (R158). The device byte, summary byte 53, is taken here (log entry 10). -/
def execAttentionByteAccessDone (data : Byte) (s : State) : Out :=
  s.onAccess data fun t k =>
    match k with
    | .attnRead _ => some (t.byteRead data)
    | .attnWrite _ _ => some t.byteWritten
    | _ => none

/-- SUMMARY_BYTE_ACCESS_DONE (R158). -/
def execSummaryByteAccessDone (data : Byte) (s : State) : Out :=
  s.onAccess data fun t k =>
    match k with
    | .sumRead _ => some (t.summaryRead data)
    | .sumWrite _ _ => some t.summaryWritten
    | _ => none

/-! ### Counters (R159) -/

/-- A counter access of the SNAPSHOT in progress has completed: the next follows, and after the last the
order is answered and the next SNAPSHOT proceeds (R159). -/
def State.counterWritten (s : State) : State :=
  match s.acu.snapshots with
  | p :: r =>
    if p.next + 1 < Config.snapshotAccesses then
      s.updAcu fun a => { a with snapshots := { p with next := p.next + 1 } :: r }
    else (s.updAcu fun a => { a with snapshots := r }).handBack p.slot (plainResult (.done .ok) 0)
  | [] => s

/-- COUNTER_WRITE_DONE (R159). -/
def execCounterWriteDone (s : State) : Out :=
  s.onAccess (0 : BitVec 0) fun t k =>
    match k with
    | .counterWrite _ => some t.counterWritten
    | _ => none

/-- SNAPSHOT: it joins the snapshots, the first of which is in progress (R159). -/
def execSnapshot (slot : SlotNo) (clear : Bool) (s : State) : Out :=
  s.takeOrder slot (.snapshot clear) fun t =>
    t.updAcu fun a => { a with snapshots := a.snapshots ++ [⟨slot, clear, 0⟩] }

end Sys2Proof.Machine
end

