-- ==== Sys2Proof/Machine/CallEvents.lean ====
section
/-! DEFINITION. The commands of the Call and Channel Unit (Chapter 4): CALL REQUEST, CALL END, CHANNEL
DROPPED, CLEAR CALL, BLOCK CHANNEL and UNBLOCK CHANNEL. -/

namespace Sys2Proof.Machine

open Sys2Proof

/-! ### Admission (R60 to R62) -/

/-- Whether base `b` has a channel for a new call of a class: a FREE one, and for STANDARD more than the
guard count (R60 check 5). -/
def State.hasRoom (s : State) (b : BaseNo) (k : HandsetClass) : Bool :=
  match k with
  | .priority => decide (0 < (s.freeChannels b).length)
  | .standard => decide (0 < (s.freeChannels b).length) && decide (s.plan.guards[b] < (s.freeChannels b).length)

/-- The reason for which a CALL REQUEST is refused, by the first check that applies (R60). -/
def State.callRefusal (s : State) (b : BaseNo) (h : HandsetNo) : Option RefusalReason :=
  if s.service b ≠ .serving then some .noService
  else if !s.roster[h].registered then some .unknown
  else if s.roster[h].call.isSome then some .inCall
  else if s.freeCall.isNone then some .congested
  else if !s.hasRoom b s.roster[h].cls then some .congested
  else none

/-- The entry of an admitted call; the fields of the other blocks keep their values, but for the last
abort reason (R62, R91, R94, R110). -/
def admittedCall (e : Call) (b : BaseNo) (h : HandsetNo) (k : ChanNo) (paged : Bool) (now : FrameCount) : Call :=
  { e with
    state := .connected
    handset := h
    base := b
    channel := k
    origin := if paged then .paged else .local
    setupFrame := now
    handoverCount := 0
    endReason := none
    lastAbort := none }

/-- The changes of an admission whose CHANNEL GRANT has been taken (R62 step 4). -/
def State.admitCall (s : State) (b : BaseNo) (h : HandsetNo) (k : ChanNo) (c : CallNo) (paged : Bool) : State :=
  ((((((s.setChan b k (.held c)).updCall c fun e => admittedCall e b h k paged s.now).bindCall h c).locate h b).markCall
    c attnState).bumpBase b .admitted)

/-- The admission of a call that passed every check (R62). -/
def State.admission (s : State) (b : BaseNo) (h : HandsetNo) (paged : Bool) : State :=
  match (s.freeChannels b).head?, s.freeCall with
  | some k, some c =>
    match s.append b (.channelGrant h k c) with
    | (t, true) => t.admitCall b h k c paged
    | (t, false) => t.bumpBase b .refused
  | _, _ => s

/-- A CALL REQUEST taken from a base SERVING or DRAINING (R60, R61). -/
def State.takeCallRequest (s : State) (b : BaseNo) (h : HandsetNo) (paged : Bool) : State :=
  let t := if s.roster[h].registered then s.pageCallNotice h b else s
  match t.callRefusal b h with
  | some r => (t.send b (.callRefused h r)).bumpBase b .refused
  | none => t.admission b h paged

/-- CALL_REQUEST (R60 to R62). -/
def execCallRequest (b : BaseNo) (h : HandsetNo) (paged : Bool) (s : State) : Out :=
  s.messageFrom b fun t => t.fromServing b fun u => u.takeCallRequest b h paged

/-! ### Ends reported by a base (R64, R65) -/

/-- Whether position `k` is one of the channels of base `b`. -/
def State.hasChannel (s : State) (b : BaseNo) (k : ChanNo) : Bool := decide (k.val < s.links[b].effCount)

/-- A CALL END on channel `k` of base `b` (R64). -/
def State.takeCallEnd (s : State) (b : BaseNo) (k : ChanNo) : State :=
  if s.hasChannel b k then
    match s.chan b k with
    | .held c => s.endCall c .hangup
    | .leaving c => s.endCall c .hangup
    | .free => s.bump .stale
    | .reserved _ _ => s.bump .stale
    | .blocked => s.bump .stale
  else s.bump .stale

/-- CALL_END (R64). -/
def execCallEnd (b : BaseNo) (k : ChanNo) (s : State) : Out := s.messageFrom b fun t => t.takeCallEnd b k

/-- The target of call `c` has dropped it in SWITCHING, its record being `r` (R123). -/
def State.targetDropped (s : State) (c : CallNo) (r : Handover) : State :=
  if r.oldDropped then s.endCall c .radioLost else s.attemptEnd c .targetDrop

/-- A drop on the LEAVING channel of call `c` (R123). -/
def State.oldSideDropped (s : State) (c : CallNo) : State :=
  match s.calls[c].handover with
  | some r =>
    if r.state = .switching ∧ r.oldDropped = false then
      (s.updHandover c fun q => { q with oldDropped := true }).markCall c 0
    else s.bump .stale
  | none => s.bump .stale

/-- A drop on the channel of base `b`, position `k`, RESERVED for call `c` with a tag (R123). -/
def State.reservedDropped (s : State) (b : BaseNo) (k : ChanNo) (c : CallNo) (g : AttemptTag) : State :=
  match s.calls[c].handover with
  | some r =>
    if r.target = b ∧ r.channel = some k ∧ r.tag = g then
      if r.state = .switching then s.targetDropped c r else s.candidateFail c .targetDrop
    else s.bump .stale
  | none => s.bump .stale

/-- A CHANNEL DROPPED on channel `k` of base `b` (R65). -/
def State.takeChannelDropped (s : State) (b : BaseNo) (k : ChanNo) : State :=
  if s.hasChannel b k then
    match s.chan b k with
    | .held c => s.endCall c .radioLost
    | .leaving c => s.oldSideDropped c
    | .reserved c g => s.reservedDropped b k c g
    | .free => s.bump .stale
    | .blocked => s.bump .stale
  else s.bump .stale

/-- CHANNEL_DROPPED (R65, R123). -/
def execChannelDropped (b : BaseNo) (k : ChanNo) (s : State) : Out :=
  s.messageFrom b fun t => t.takeChannelDropped b k

/-! ### Orders (R68, R73, R74) -/

/-- The CLEAR CALL order of a slot (R68). Detail 0 of a refusal is the model's (log entry 24). -/
def State.takeClearCall (s : State) (slot : SlotNo) (c : CallNo) : State :=
  if callLive s.calls[c].state then
    (s.endCall c .cleared).handBack slot
      ⟨.done .ok, s.calls[c].base.val, [BitVec.ofNat 8 s.calls[c].channel.val]⟩
  else s.handBack slot (plainResult (.state .noCall) 0)

/-- CLEAR_CALL (R68). -/
def execClearCall (slot : SlotNo) (c : CallNo) (s : State) : Out :=
  s.takeOrder slot (.clearCall c) fun t => t.takeClearCall slot c

/-- The BLOCK CHANNEL order of a slot (R73). Detail 0 is the model's (log entry 24). -/
def State.takeBlockChannel (s : State) (slot : SlotNo) (b : BaseNo) (k : ChanNo) : State :=
  if s.chan b k = .free then (s.setChan b k .blocked).handBack slot (plainResult (.done .ok) 0)
  else s.handBack slot (plainResult (.state .inUse) 0)

/-- BLOCK_CHANNEL (R73). -/
def execBlockChannel (slot : SlotNo) (b : BaseNo) (k : ChanNo) (s : State) : Out :=
  s.takeOrder slot (.blockChannel b k) fun t => t.takeBlockChannel slot b k

/-- The UNBLOCK CHANNEL order of a slot (R74). Detail 0 is the model's (log entry 24). -/
def State.takeUnblockChannel (s : State) (slot : SlotNo) (b : BaseNo) (k : ChanNo) : State :=
  match s.chan b k with
  | .blocked => (s.setChan b k .free).handBack slot (plainResult (.done .ok) 0)
  | .free => s.handBack slot (plainResult (.done .ok) 0)
  | .held _ => s.handBack slot (plainResult (.state .inUse) 0)
  | .reserved _ _ => s.handBack slot (plainResult (.state .inUse) 0)
  | .leaving _ => s.handBack slot (plainResult (.state .inUse) 0)

/-- UNBLOCK_CHANNEL (R74). -/
def execUnblockChannel (slot : SlotNo) (b : BaseNo) (k : ChanNo) (s : State) : Out :=
  s.takeOrder slot (.unblockChannel b k) fun t => t.takeUnblockChannel slot b k

end Sys2Proof.Machine
end

