-- ==== Sys2Proof/Machine/HandoverEvents.lean ====
section
/-! DEFINITION. The commands of the Handover Engine (Chapters 6 and 7): RESERVE ANSWER, ARRIVED, its four
timers, the delivery of the switch batch, and FORCE MOVE. -/

namespace Sys2Proof.Machine

open Sys2Proof

/-! ### Answers from the target (R114 to R116, R121) -/

/-- The handover record that an answer matches (R114). -/
def State.matching (s : State) (b : BaseNo) (j : ChanNo) (c : CallNo) (g : AttemptTag) : Option Handover :=
  s.calls[c].handover.filter fun r => r.target == b && r.channel == some j && r.tag == g

/-- Position `j` of base `b` is RESERVED by a call other than `c` with tag `g` (R114). -/
def State.reservedByOther (s : State) (b : BaseNo) (j : ChanNo) (c : CallNo) (g : AttemptTag) : Bool :=
  match s.chan b j with
  | .reserved d t => d != c && t == g
  | _ => false

/-- A stale answer is counted (R114). -/
def State.staleAnswer (s : State) : State := s.bump .stale

/-- A stale READY or ARRIVED earns a RELEASE (R114). -/
def State.staleRelease (s : State) (b : BaseNo) (j : ChanNo) (c : CallNo) (g : AttemptTag) : State :=
  let t := s.staleAnswer
  if g ≠ 0 ∧ s.reservedByOther b j c g = false then t.send b (.release j g) else t

/-- A matching REFUSED, by the state of the record (R115). -/
def State.takeRefused (s : State) (c : CallNo) (r : Handover) : State :=
  match r.state with
  | .reserving => s.candidateFail c .refused
  | .awaitMark => s.candidateFail c .targetDrop
  | .switching => s.targetDropped c r

/-- A RESERVE ANSWER taken by the Handover Engine (R114 to R116). -/
def State.takeReserveAnswer (s : State) (b : BaseNo) (j : ChanNo) (c : CallNo) (g : AttemptTag) (v : ReserveVerdict) :
    State :=
  match s.matching b j c g, v with
  | some r, .refused => s.takeRefused c r
  | some r, .ready => if r.state = .reserving then s.takeReady c r else s.staleAnswer
  | none, .ready => s.staleRelease b j c g
  | none, .refused => s.staleAnswer

/-- RESERVE_ANSWER (R114 to R116). The base reason is not examined. -/
def execReserveAnswer (b : BaseNo) (j : ChanNo) (c : CallNo) (g : AttemptTag) (v : ReserveVerdict) (_ : Byte) (s : State) :
    Out :=
  s.messageFrom b fun t => t.takeReserveAnswer b j c g v

/-- A handover of call `c` completes, and its old base, if DRAINING, is told (R121 steps 1 to 9). -/
def State.arrive (s : State) (c : CallNo) (r : Handover) (j : ChanNo) : State :=
  let a := s.calls[c].base
  let t := s.completeHandover c r j
  if s.service a = .draining then t.callLeftNotice a else t

/-- An ARRIVED taken by the Handover Engine (R114, R121). -/
def State.takeArrived (s : State) (b : BaseNo) (j : ChanNo) (c : CallNo) (g : AttemptTag) : State :=
  match s.matching b j c g with
  | some r => if r.state = .switching then s.arrive c r j else s.staleAnswer
  | none => s.staleRelease b j c g

/-- ARRIVED (R121). -/
def execArrived (b : BaseNo) (j : ChanNo) (c : CallNo) (g : AttemptTag) (s : State) : Out :=
  s.messageFrom b fun t => t.takeArrived b j c g

/-! ### Timers (R117, R122, R103, R104) -/

/-- The reserve timer of call `c` expires, where it is due (R117). -/
def State.takeReserveTimer (s : State) (c : CallNo) : State :=
  match s.calls[c].handover with
  | some r => if r.state = .reserving ∧ s.isDue r.reserveTimer then s.candidateFail c .noAnswer else s
  | none => s

/-- RESERVE_TIMER_EXPIRY (R117). -/
def execReserveTimerExpiry (c : CallNo) (s : State) : Out := s.whileServing fun t => t.takeReserveTimer c

/-- The arrival timer of a SWITCHING record `r` of call `c` has expired (R122). -/
def State.noArrival (s : State) (c : CallNo) (r : Handover) : State :=
  if r.oldDropped then s.endCall c .radioLost else s.attemptEnd c .noArrival

/-- The arrival timer of call `c` expires, where it is due (R122). -/
def State.takeArrivalTimer (s : State) (c : CallNo) : State :=
  match s.calls[c].handover with
  | some r => if r.state = .switching ∧ s.isDue r.arrivalTimer then s.noArrival c r else s
  | none => s

/-- ARRIVAL_TIMER_EXPIRY (R122). -/
def execArrivalTimerExpiry (c : CallNo) (s : State) : Out := s.whileServing fun t => t.takeArrivalTimer c

/-- The settle timer of call `c` expires, where it is due: it stops (R103). -/
def State.takeSettleTimer (s : State) (c : CallNo) : State :=
  if s.isDue s.calls[c].settle then s.updCall c fun e => { e with settle := none } else s

/-- SETTLE_TIMER_EXPIRY (R103). -/
def execSettleTimerExpiry (c : CallNo) (s : State) : Out := s.whileServing fun t => t.takeSettleTimer c

/-- The hold timer of call `c` expires, where it is due: it stops (R104). -/
def State.takeHoldTimer (s : State) (c : CallNo) : State :=
  if s.isDue s.calls[c].hold then s.updCall c fun e => { e with hold := none } else s

/-- HOLD_TIMER_EXPIRY (R104). -/
def execHoldTimerExpiry (c : CallNo) (s : State) : Out := s.whileServing fun t => t.takeHoldTimer c

/-- SWITCH_BATCH_DELIVERY (R120). -/
def execSwitchBatchDelivery (s : State) : Out := s.whileServing fun t => t.deliverBatch

/-! ### FORCE MOVE (R108) -/

/-- The reason for which a FORCE MOVE is refused, by the first check that applies (R108). -/
def State.moveRefusal (s : State) (c : CallNo) (t : BaseNo) : Option StateCode :=
  if !callLive s.calls[c].state then some .noCall
  else if s.calls[c].handover.isSome then some .busy
  else if s.service t ≠ .serving then some .noService
  else if t = s.calls[c].base then some .same
  else if !inMask s.roster[s.calls[c].handset].zoneMask s.links[t].zone then some .zone
  else none

/-- The FORCE MOVE order of a slot (R108). Detail 0 of a refusal is the model's (log entry 24). -/
def State.takeForceMove (s : State) (slot : SlotNo) (c : CallNo) (t : BaseNo) : State :=
  match s.moveRefusal c t with
  | some k => s.handBack slot (plainResult (.state k) 0)
  | none => s.startHandover c .forced [t] (some slot)

/-- FORCE_MOVE (R108). -/
def execForceMove (slot : SlotNo) (c : CallNo) (t : BaseNo) (s : State) : Out :=
  s.takeOrder slot (.forceMove c t) fun u => u.takeForceMove slot c t

end Sys2Proof.Machine
end

