-- ==== Sys2Proof/Machine/LevelEvents.lean ====
section
/-! DEFINITION. LEVEL REPORT (R88) with its hand-off to the Handover Engine (Chapter 6): the watch, the
scores and leads, the trigger, and the offer of a drain move. -/

namespace Sys2Proof.Machine

open Sys2Proof

/-! ### The watch (R97 to R99) -/

/-- A report is weak (R97). -/
def reportWeak (z : ZoneParams) (f errors : Nat) : Bool :=
  (decide (0 < z.weak) && decide (f < z.weak * 16)) || (decide (0 < z.errorLimit) && decide (z.errorLimit ≤ errors))

/-- A report meets the recovery condition (R97). -/
def reportRecovers (z : ZoneParams) (f errors : Nat) : Bool :=
  decide (z.recovery * 16 ≤ f) && (z.errorLimit == 0 || decide (errors < z.errorLimit))

/-- The watch state and count after a report (Table 6-3). -/
def watchAfter (z : ZoneParams) (f errors : Nat) (w : Watch) (count : Nat) : Watch × Nat :=
  if w = .weak then if reportRecovers z f errors then (.normal, 0) else (.weak, count)
  else if reportWeak z f errors then
    if count + 1 < z.watchLimit then (.suspect, count + 1) else (.weak, min (count + 1) Config.watchCountMax)
  else (.normal, 0)

/-- The attention bits that a watch change raises (R99). -/
def watchBits (m : NoticeMode) (before after : Watch) : Byte :=
  match m with
  | .off => 0
  | .edge =>
    if before ≠ .weak ∧ after = .weak then attnWeak
    else if before = .weak ∧ after ≠ .weak then attnRecovered
    else 0
  | .level => if after = .weak then attnWeak else 0

/-- Step 1 of a hand-off (R96, R98, R99). -/
def State.watchStep (s : State) (c : CallNo) (z : ZoneParams) (f errors : Nat) : State :=
  let a := watchAfter z f errors s.calls[c].watch s.calls[c].watchCount
  (s.updCall c fun e => { e with watch := a.1, watchCount := a.2 }).markCall c
    (watchBits z.notice s.calls[c].watch a.1)

/-! ### Scores and leads (R100 to R102) -/

/-- The load bias of a code, in sixteenths per channel in use (R100). -/
def loadBias : Nat → Int
  | 0 => 0
  | 1 => 4
  | 2 => 8
  | _ => 16

/-- The score of an entry, with the parameters of the serving base's zone (R100). -/
def State.score (s : State) (z : ZoneParams) (n : Neighbour) : Int :=
  (n.level : Int) - (s.occupancy n.base : Int) * loadBias z.biasCode

/-- The effective margin, in level codes (R101). -/
def effectiveMargin (z : ZoneParams) (w : Watch) : Nat := if w = .weak then z.weakMargin else z.margin

/-- Whether an entry qualifies in a hand-off of call `c` with serving filter `f` and margin `m` (R101). -/
def State.qualifies (s : State) (c : CallNo) (z : ZoneParams) (f m : Nat) (n : Neighbour) : Bool :=
  decide (((f + m * 16 : Nat) : Int) ≤ s.score z n) && s.allowedTarget c n.base

/-- The lead of an entry after a hand-off (R102). -/
def leadAfter (q : Bool) (lead : Nat) : Nat := if q then min (lead + 1) Config.leadMax else 0

/-- Step 2 of a hand-off: every lead is written (R96, R102). -/
def State.leadStep (s : State) (c : CallNo) (z : ZoneParams) (f : Nat) : State :=
  let m := effectiveMargin z s.calls[c].watch
  s.updCall c fun e => { e with
    neighbours := e.neighbours.map fun n => { n with lead := leadAfter (s.qualifies c z f m n) n.lead } }

/-! ### The trigger (R105, R106) -/

/-- The required lead (R105). -/
def requiredLead (z : ZoneParams) (w : Watch) : Nat := if w = .weak then 1 else z.leadCount

/-- A scored base put in its place: score descending, ties to the lower base number (R106). -/
def insertScored (x : Int × BaseNo) : List (Int × BaseNo) → List (Int × BaseNo)
  | [] => [x]
  | y :: r => if y.1 < x.1 ∨ (x.1 = y.1 ∧ x.2 < y.2) then x :: y :: r else y :: insertScored x r

/-- Scored bases in order (R106). -/
def rankScored : List (Int × BaseNo) → List (Int × BaseNo)
  | [] => []
  | x :: r => insertScored x (rankScored r)

/-- The DECISION try list of call `c` (R106). -/
def State.decisionTries (s : State) (c : CallNo) (z : ZoneParams) : List BaseNo :=
  let ready := s.calls[c].neighbours.filter fun n => decide (requiredLead z s.calls[c].watch ≤ n.lead)
  ((rankScored (ready.map fun n => (s.score z n, n.base))).map Prod.snd).take Config.tryListMax

/-- The trigger of a call whose serving base is SERVING (R105, R106). -/
def State.decisionTrigger (s : State) (c : CallNo) (z : ZoneParams) : State :=
  let e := s.calls[c]
  if e.state = .connected ∧ e.settle = none ∧ e.hold = none then
    match s.decisionTries c z with
    | [] => s
    | t :: r => s.startHandover c .decision (t :: r) none
  else s

/-- Step 3 of a hand-off (R96). -/
def State.triggerStep (s : State) (c : CallNo) (z : ZoneParams) : State :=
  match s.service s.calls[c].base with
  | .serving => s.decisionTrigger c z
  | .draining => s.offerDrainMove c
  | .absent => s
  | .joining => s
  | .stopped => s

/-- The hand-off of one report of call `c` with its frame errors (R96). It always carries a serving
filter. -/
def State.handOff (s : State) (c : CallNo) (errors : Nat) : State :=
  match s.calls[c].filter with
  | some f =>
    let z := s.zoneAt s.calls[c].base
    ((s.watchStep c z f errors).leadStep c z f).triggerStep c z
  | none => s

/-! ### The report (R81, R88) -/

/-- A LEVEL REPORT that belongs to call `c`, from its serving base `b` (R88). -/
def State.takeReport (s : State) (c : CallNo) (b : BaseNo) (level : LevelCode) (errors : Nat)
    (pairs : List (ReportedBase × LevelCode)) : State :=
  ((s.filterReport c b level pairs).handOff c errors).heard s.calls[c].handset

/-- A LEVEL REPORT on channel `k` of base `b` (R81). -/
def State.takeLevelReport (s : State) (b : BaseNo) (k : ChanNo) (level : LevelCode) (errors : Nat)
    (pairs : List (ReportedBase × LevelCode)) : State :=
  if k.val < s.links[b].effCount then
    match s.chan b k with
    | .held c => s.takeReport c b level errors pairs
    | .leaving c => s.takeReport c b level errors pairs
    | .free => s.bump .stale
    | .reserved _ _ => s.bump .stale
    | .blocked => s.bump .stale
  else s.bump .stale

/-- LEVEL_REPORT (R6, R81, R88). More than 4 pairs make the message malformed. -/
def execLevelReport (b : BaseNo) (k : ChanNo) (level : LevelCode) (errors : Fin 16)
    (pairs : List (ReportedBase × LevelCode)) (s : State) : Out :=
  if pairs.length ≤ 4 then s.messageFrom b fun t => t.takeLevelReport b k level errors.val pairs
  else s.whileServing fun t => t.bump .malformed

end Sys2Proof.Machine
end

