-- ==== Sys2Proof/Machine/LinkEvents.lean ====
section
/-! DEFINITION. The commands of the Base Link Unit (Chapter 1): HELLO, READY, BEACON, malformed messages,
ACCEPT, DEFER, the join and silence timers, and the retries of a head. -/

namespace Sys2Proof.Machine

open Sys2Proof

/-- A HELLO taken in ABSENT from an enabled base with capacity 1..8: JOINING, timers, SETUP (R8). -/
def State.joinLink (s : State) (b : BaseNo) (capacity : Nat) : State :=
  let n := min s.links[b].planCount capacity
  (s.updLink b fun l => { l with
    effCount := n
    service := .joining
    joinTimer := some (s.after s.plan.header.joinLimit)
    silenceTimer := some (s.after s.plan.header.silenceLimit) }).send b (.setup s.links[b].zone n 0)

/-- A HELLO whose base number matches, by the service state of its link (R8). -/
def State.takeHello (s : State) (b : BaseNo) (capacity : Nat) : State :=
  match s.service b with
  | .absent => if s.links[b].enabled && decide (0 < capacity) then s.joinLink b capacity else s.stopTransmit b
  | .joining => s.restartSilence b
  | .serving => s.baseLost b
  | .draining => s.baseLost b
  | .stopped => s.bump .stale

/-- HELLO (R6, R8). A capacity above 8 makes the message malformed; a base number that is not the
link's is counted malformed. -/
def execHello (b : BaseNo) (announced : ReportedBase) (capacity : Nat) (s : State) : Out :=
  s.whileServing fun t =>
    if 8 < capacity ∨ announced.val ≠ b.val then t.bump .malformed else t.takeHello b capacity

/-- A READY from an active link, whose silence timer has been restarted (R9). -/
def State.takeReadyMessage (s : State) (b : BaseNo) : State :=
  if s.service b = .joining then
    (s.updLink b fun l => { l with service := .serving, joinTimer := none }).pendBase b attnLink
  else s.bump .stale

/-- READY (R7, R9). -/
def execReady (b : BaseNo) (s : State) : Out := s.messageFrom b fun t => t.takeReadyMessage b

/-- BEACON (R7). -/
def execBeacon (b : BaseNo) (s : State) : Out := s.messageFrom b id

/-- A malformed message on any link: discarded and counted (R6). -/
def execMalformedMessage (_ : BaseNo) (s : State) : Out := s.whileServing fun t => t.bump .malformed

/-- An ACCEPT answers a head AWAITING ANSWER; otherwise it is disregarded (R14). -/
def State.takeAccept (s : State) (b : BaseNo) : State :=
  match s.links[b].head with
  | some ⟨.awaitingAnswer, _, _⟩ => s.dropHead b
  | _ => s

/-- ACCEPT (R7, R14). -/
def execAccept (b : BaseNo) (s : State) : Out := s.answerFrom b fun t => t.takeAccept b

/-- A DEFER answers a head AWAITING ANSWER; otherwise it is disregarded (R14, R15). -/
def State.takeDefer (s : State) (b : BaseNo) : State :=
  match s.links[b].head with
  | some ⟨.awaitingAnswer, n, f⟩ => s.deferHead b ⟨.awaitingAnswer, n, f⟩
  | _ => s

/-- DEFER (R7, R15, R16). -/
def execDefer (b : BaseNo) (s : State) : Out := s.answerFrom b fun t => t.takeDefer b

/-- The join timer of link `b` expires, where it is due: ABSENT, with no loss counted and no attention
(R9). -/
def State.takeJoinTimer (s : State) (b : BaseNo) : State :=
  if s.service b = .joining ∧ s.isDue s.links[b].joinTimer then
    (s.updLink b fun l => { l with service := .absent, joinTimer := none, silenceTimer := none }).emptyQueue b
  else s

/-- JOIN_TIMER_EXPIRY (R9). -/
def execJoinTimerExpiry (b : BaseNo) (s : State) : Out := s.whileServing fun t => t.takeJoinTimer b

/-- The silence timer of link `b` expires, where it is due: the base is lost (R10). -/
def State.takeSilenceTimer (s : State) (b : BaseNo) : State :=
  if linkActive (s.service b) ∧ s.isDue s.links[b].silenceTimer then s.baseLost b else s

/-- SILENCE_TIMER_EXPIRY (R10, R12). -/
def execSilenceTimerExpiry (b : BaseNo) (s : State) : Out := s.whileServing fun t => t.takeSilenceTimer b

/-- The head of link `b` was deferred in the frame before this one, so it is transmitted again (R15). -/
def State.takeRetransmit (s : State) (b : BaseNo) : State :=
  match s.links[b].head with
  | some ⟨.awaitingMark f, n, _⟩ =>
    if s.now = f + 1 then (s.setHead b ⟨.awaitingAnswer, n, s.now⟩).transmitHead b else s
  | _ => s

/-- HEAD_RETRANSMIT (R15). -/
def execHeadRetransmit (b : BaseNo) (s : State) : Out := s.whileServing fun t => t.takeRetransmit b

/-- The second frame mark after the head's transmission is reached without an answer (R15). -/
def State.takeAnswerTimeout (s : State) (b : BaseNo) : State :=
  match s.links[b].head with
  | some ⟨.awaitingAnswer, n, f⟩ => if s.now = f + 2 then s.expireHead b ⟨.awaitingAnswer, n, f⟩ else s
  | _ => s

/-- HEAD_ANSWER_TIMEOUT (R15, R16). -/
def execHeadAnswerTimeout (b : BaseNo) (s : State) : Out := s.whileServing fun t => t.takeAnswerTimeout b

end Sys2Proof.Machine
end

