-- ==== Sys2Proof/Machine/OrderEvents.lean ====
section
/-! DEFINITION. The commands of the Order Unit (Chapter 9): the intake and its reads, the writes of an
order's slot, CANCEL and AMEND PLAN. -/

namespace Sys2Proof.Machine

open Sys2Proof

/-! ### Intake (R150, R151) -/

/-- The intake at a frame mark: with the intake IDLE, the posted-order count is asked for (R151; log
entry 3). -/
def State.takeIntake (s : State) : State :=
  if s.oru.intakeDue then
    let t := s.updOru fun o => { o with intakeDue := false }
    if t.oru.intake = .idle then t.ask [.postedCount] else t
  else s

/-- ORDER_INTAKE (R151). -/
def execOrderIntake (s : State) : Out := s.whileServing fun t => t.takeIntake

/-- The posted-order count has been read in RUNNING: equal to the last-seen count it ends the intake,
else a scan of the owner bytes begins at slot 0. A scan already begun stands at slot 0 with that read
asked for, and goes on (R151; log entry 8). -/
def State.takePostedCount (s : State) (v : BitVec 32) : State :=
  if v = s.oru.lastSeen then s
  else
    let t := s.updOru fun o => { o with lastSeen := v }
    if t.oru.intake = .idle then (t.updOru fun o => { o with intake := .scanning 0 }).ask [.ownerByte 0] else t

/-- POSTED_COUNT_READ_DONE (R151); in STARTING the value read is the last-seen count, and the start count
is read next (R156, R160 steps 6 and 7). -/
def execPostedCountReadDone (count : BitVec 32) (s : State) : Out :=
  s.onAccess count fun t k =>
    match k with
    | .postedCount =>
      some (if t.serves then t.takePostedCount count
        else if t.regs.part = .starting then
          (t.updOru fun o => { o with lastSeen := count }).ask [.startCountRead]
        else t)
    | _ => none

/-- The owner byte of slot `i` has been read in a scan: POSTED (1) without an in-flight entry, the slot is
read whole and TAKEN written; otherwise it is passed over (R150, R151). -/
def State.takeOwnerByte (s : State) (i : SlotNo) (owner : Byte) : State :=
  if owner = 1 ∧ (s.inFlightAt i).isNone then s.ask [.slotRead i, .takenWrite i] else s.scanOn

/-- OWNER_BYTE_READ_DONE (R150, R151). -/
def execOwnerByteReadDone (owner : Byte) (s : State) : Out :=
  s.onAccess owner fun t k =>
    match k with
    | .ownerByte i => some (if t.serves then t.takeOwnerByte i owner else t)
    | _ => none

/-- Slot `i` has been read whole: an in-flight entry is created, and the order is dispatched or answered
FORM (R151, R152, R153). -/
def State.takeSlot (s : State) (i : SlotNo) (w : BitVec 512) : State :=
  let entry (b : Option Block) : InFlight := ⟨i, slotKind w, slotParams w, b, .carryingOut⟩
  match formCheck (slotKind w) (slotParams w) with
  | .ok o =>
    s.updOru fun u => { u with inFlight := u.inFlight ++ [entry (some (blockOf o))], dispatched := some (i, o) }
  | .error f =>
    ((s.updOru fun u => { u with inFlight := u.inFlight ++ [entry none] }).handBack i (plainResult (.form f) 0)).scanOn

/-- SLOT_READ_DONE (R151, R152). -/
def execSlotReadDone (slot : BitVec 512) (s : State) : Out :=
  s.onAccess slot fun t k =>
    match k with
    | .slotRead i => some (if t.serves then t.takeSlot i slot else t)
    | _ => none

/-! ### Writes to a slot (R150, R153) -/

/-- TAKEN_WRITE_DONE (R151). -/
def execTakenWriteDone (s : State) : Out :=
  s.onAccess (0 : BitVec 0) fun t k =>
    match k with
    | .takenWrite _ => some t
    | _ => none

/-- RESULT_WRITE_DONE (R153). -/
def execResultWriteDone (s : State) : Out :=
  s.onAccess (0 : BitVec 0) fun t k =>
    match k with
    | .resultWrite _ _ => some t
    | _ => none

/-- ANSWERED has been written to slot `i`: its attention bit is named and its entry removed (R153). -/
def State.takeAnswered (s : State) (i : SlotNo) : State :=
  (s.pendSlot i attnAnswered).updOru fun o => { o with inFlight := o.inFlight.filter fun e => e.slot != i }

/-- ANSWERED_WRITE_DONE (R153). -/
def execAnsweredWriteDone (s : State) : Out :=
  s.onAccess (0 : BitVec 0) fun t k =>
    match k with
    | .answeredWrite i => some (t.takeAnswered i)
    | _ => none

/-! ### CANCEL (R154) -/

/-- The kind codes of the orders that a CANCEL may name (Table 9-9). -/
def kindPage : Byte := 2
/-- FORCE MOVE (Table 9-9). -/
def kindForceMove : Byte := 5
/-- DRAIN BASE (Table 9-9). -/
def kindDrainBase : Byte := 6

/-- The page that the order of a slot started. -/
def State.pageBySlot (s : State) (slot : SlotNo) : Option PageRecord := s.pages.find? fun p => p.slot == slot

/-- The call whose handover record answers the order of a slot. -/
def State.moveBySlot (s : State) (slot : SlotNo) : Option CallNo :=
  lowestWhere s.calls fun e => match e.handover with | some r => r.slot == some slot | none => false

/-- The base whose drain record answers the order of a slot. -/
def State.drainBySlot (s : State) (slot : SlotNo) : Option BaseNo :=
  lowestWhere s.drains fun d => match d with | some r => r.slot == slot | none => false

/-- The answer of a CANCEL of a slot that names `target`: the detail is `target` (R154). -/
def State.answerCancel (s : State) (slot target : SlotNo) (v : Verdict) : State :=
  s.handBack slot (plainResult v target.val)

/-- A CANCEL of a FORCE MOVE with record `r` of call `c` (R129). -/
def State.cancelMove (s : State) (slot target : SlotNo) (c : CallNo) (r : Handover) : State :=
  if r.state = .switching then s.answerCancel slot target (.state .tooLate)
  else (s.attemptEnd c .cancelled).answerCancel slot target (.done .ok)

/-- A CANCEL of the drain of base `b` with record `d` (R138). -/
def State.cancelDrain (s : State) (slot target : SlotNo) (b : BaseNo) (d : DrainRecord) : State :=
  ((s.changeService b .serving).endDrain b d (.cancelled .cancel) 0).answerCancel slot target (.done .ok)

/-- A CANCEL whose named slot is in flight CARRYING OUT with a kind (R154). -/
def State.cancelKind (s : State) (slot target : SlotNo) (kind : Byte) : State :=
  if kind = kindPage then
    match s.pageBySlot target with
    | some p => (s.endPage p (.cancelled .cancel) 0 0).answerCancel slot target (.done .ok)
    | none => s.answerCancel slot target (.state .nothing)
  else if kind = kindForceMove then
    match s.moveBySlot target with
    | some c =>
      match s.calls[c].handover with
      | some r => s.cancelMove slot target c r
      | none => s.answerCancel slot target (.state .nothing)
    | none => s.answerCancel slot target (.state .nothing)
  else if kind = kindDrainBase then
    match s.drainBySlot target with
    | some b =>
      match s.drains[b] with
      | some d => s.cancelDrain slot target b d
      | none => s.answerCancel slot target (.state .nothing)
    | none => s.answerCancel slot target (.state .nothing)
  else s.answerCancel slot target (.state .nothing)

/-- The CANCEL order of a slot (R154). -/
def State.takeCancel (s : State) (slot target : SlotNo) : State :=
  match s.inFlightAt target with
  | some e =>
    if e.phase = .carryingOut then s.cancelKind slot target e.kind
    else s.answerCancel slot target (.state .nothing)
  | none => s.answerCancel slot target (.state .nothing)

/-- CANCEL (R154). -/
def execCancel (slot target : SlotNo) (s : State) : Out :=
  s.takeOrder slot (.cancel target) fun t => t.takeCancel slot target

/-! ### AMEND PLAN (R155) -/

/-- AMEND_PLAN: the record is asked for (R155). -/
def execAmendPlan (slot : SlotNo) (r : PlanRecord) (s : State) : Out :=
  s.takeOrder slot (.amendPlan r) fun t => t.ask [.planRead slot r]

/-- The zone record of zone `z` is applied (R77, R95, R111). -/
def State.applyZone (s : State) (z : ZoneNo) (p : ZoneParams) : State :=
  s.updPlan fun q => { q with zones := q.zones.set z p }

/-- The base record of base `b` is applied: the effective channel count follows it only where the link
is ABSENT or STOPPED (R2, R57, R76). -/
def State.applyBase (s : State) (b : BaseNo) (r : BaseRecord) : State :=
  (s.updLink b fun l => { l with
    enabled := r.enabled, zone := r.zone, planCount := r.count,
    effCount := if linkActive l.service then l.effCount else r.count }).updPlan fun q => { q with
      guards := q.guards.set b r.guard, offsets := q.offsets.set b r.offset }

/-- Whether a base record may not be applied in the link's state (R155). -/
def State.amendInService (s : State) (b : BaseNo) (r : BaseRecord) : Bool :=
  linkActive s.links[b].service && (r.zone != s.links[b].zone || r.count != s.links[b].planCount)

/-- PLAN_CLAMPED is raised where fields were clamped (R155). -/
def State.noteClamps (s : State) (n : Nat) : State := if 0 < n then s.pendDevice attnPlanClamped else s

/-- The record of an AMEND PLAN order of a slot has been read (R155). Detail 0 of a refusal IN_SERVICE is
the model's (log entry 24). -/
def State.takePlanRecord (s : State) (slot : SlotNo) (r : PlanRecord) (w : BitVec 256) : State :=
  match r with
  | .zone z =>
    ((s.applyZone z (zoneOf w)).noteClamps (zoneClamps w)).handBack slot (plainResult (.done .ok) (zoneClamps w))
  | .base b =>
    if s.amendInService b (baseOf w) then s.handBack slot (plainResult (.state .inService) 0)
    else
      ((s.applyBase b (baseOf w)).noteClamps (baseClamps w)).handBack slot (plainResult (.done .ok) (baseClamps w))

/-- PLAN_RECORD_READ_DONE (R155). At a halt the order applies nothing (R156). -/
def execPlanRecordReadDone (record : BitVec 256) (s : State) : Out :=
  s.onAccess record fun t k =>
    match k with
    | .planRead slot r => some (if t.serves then t.takePlanRecord slot r record else t)
    | _ => none

end Sys2Proof.Machine
end

