-- ==== Sys2Proof/Machine/PageEvents.lean ====
section
/-! DEFINITION. The commands of the Page Unit (Chapter 3): PAGE ANSWER, the round timer and PAGE. -/

namespace Sys2Proof.Machine

open Sys2Proof

/-- PAGE_ANSWER (R49). -/
def execPageAnswer (b : BaseNo) (h : HandsetNo) (s : State) : Out :=
  s.messageFrom b fun t => t.fromServing b fun u => u.pageAnswered b h

/-- ROUND_TIMER_EXPIRY (R47). -/
def execRoundTimerExpiry (h : HandsetNo) (s : State) : Out := s.whileServing fun t => t.takeRoundTimer h

/-- The PAGE order of a slot for handset `h` (R45). Detail 0 of a refusal is the model's (log entry 24). -/
def State.takePage (s : State) (slot : SlotNo) (h : HandsetNo) : State :=
  match s.pageRefusal h with
  | some c => s.handBack slot (plainResult (.state c) 0)
  | none => s.startPage slot h

/-- PAGE (R44 to R46). -/
def execPage (slot : SlotNo) (h : HandsetNo) (s : State) : Out :=
  s.takeOrder slot (.page h) fun t => t.takePage slot h

end Sys2Proof.Machine
end

