-- ==== Sys2Proof/Machine/RosterEvents.lean ====
section
/-! DEFINITION. The commands of the Roster Unit (Chapter 2): ATTACH, REFRESH, DETACH, the subscription
lookup, the lifetime timer and DEREGISTER. -/

namespace Sys2Proof.Machine

open Sys2Proof

/-- Steps 1 to 4 of a re-attach of handset `h` through base `b` (R24). -/
def State.reattachEntry (s : State) (b : BaseNo) (h : HandsetNo) : State :=
  ((((s.endCallOf h .reattach).locate h b).updEntry h fun e => { e with
    attachFrame := s.now, heardFrame := s.now }).renew h)

/-- A re-attach of handset `h`, with identity `i`, through base `b` (R24). -/
def State.reattach (s : State) (b : BaseNo) (h : HandsetNo) (i : Identity) : State :=
  match (s.reattachEntry b h).append b (.attachAnswer i (.accept h)) with
  | (t, true) => t.bump .accepted
  | (t, false) => t.bump .dropped

/-- The answering base of the pending record with identity `i` becomes `b` (R25). -/
def mergeAttach (i : Identity) (b : BaseNo) (l : List PendingAttach) : List PendingAttach :=
  l.map fun r => if r.identity = i then { r with base := b } else r

/-- An AGAIN answer, counted whether or not its append is taken (R26, R32). -/
def State.answerAgain (s : State) (b : BaseNo) (i : Identity) : State :=
  (s.send b (.attachAnswer i .again)).bump .again

/-- A pending record is appended, and its lookup begins where it is the first (R23 step 4, R27). -/
def State.appendAttach (s : State) (b : BaseNo) (i : Identity) : State :=
  s.setAttaches (s.attaches ++ [⟨i, b, s.now⟩]) (if s.attaches.isEmpty then some .count else s.lookup)

/-- An ATTACH taken from a base SERVING or DRAINING (R23). -/
def State.takeAttach (s : State) (b : BaseNo) (i : Identity) : State :=
  match s.registeredWith i with
  | some h => s.reattach b h i
  | none =>
    if s.attaches.any fun r => r.identity == i then s.setAttaches (mergeAttach i b s.attaches) s.lookup
    else if Config.pendingAttachMax ≤ s.attaches.length then s.answerAgain b i
    else s.appendAttach b i

/-- ATTACH (R22 to R26). -/
def execAttach (b : BaseNo) (i : Identity) (s : State) : Out :=
  s.messageFrom b fun t => t.fromServing b fun u => u.takeAttach b i

/-- An accepted REFRESH of handset `h` through base `b` (R32). -/
def State.refreshEntry (s : State) (b : BaseNo) (h : HandsetNo) : State :=
  let t := ((s.updEntry h fun e => { e with heardFrame := s.now }).renew h).markHandset h 0
  if s.roster[h].lastBase = b then t else t.locate h b

/-- A REFRESH taken from a base SERVING or DRAINING (R32). -/
def State.takeRefresh (s : State) (b : BaseNo) (h : HandsetNo) (check : BitVec 16) : State :=
  if s.roster[h].registered && s.roster[h].check == check then s.refreshEntry b h
  else s.answerAgain b (check.setWidth 40)

/-- REFRESH (R22, R32). -/
def execRefresh (b : BaseNo) (h : HandsetNo) (check : BitVec 16) (s : State) : Out :=
  s.messageFrom b fun t => t.fromServing b fun u => u.takeRefresh b h check

/-- A DETACH taken from a base SERVING or DRAINING (R39). -/
def State.takeDetach (s : State) (h : HandsetNo) : State :=
  if s.roster[h].registered then (s.freeEntry h .detached).bump .detaches else s.bump .stale

/-- DETACH (R22, R39). -/
def execDetach (b : BaseNo) (h : HandsetNo) (s : State) : Out :=
  s.messageFrom b fun t => t.fromServing b fun u => u.takeDetach h

/-- The lifetime timer of handset `h` expires, where it is due: `h` lapses (R38). An entry with a call
has no running timer. -/
def State.takeLifetime (s : State) (h : HandsetNo) : State :=
  if s.roster[h].registered ∧ s.isDue s.roster[h].expiry then (s.freeEntry h .detached).bump .lapses else s

/-- LIFETIME_EXPIRY (R38). -/
def execLifetimeExpiry (h : HandsetNo) (s : State) : Out := s.whileServing fun t => t.takeLifetime h

/-! ### The subscription lookup (R28 to R30) -/

/-- The entry that an accepted lookup creates (R30). -/
def admittedEntry (s : State) (r : PendingAttach) (b : BaseNo) (pos : Nat) (e : Subscription) : RosterEntry where
  registered  := true
  identity    := r.identity
  check       := r.identity.setWidth 16
  subIndex    := pos
  cls         := e.cls
  zoneMask    := e.zoneMask
  lastBase    := b
  lastZone    := s.links[b].zone
  attachFrame := r.arrival
  heardFrame  := s.now
  expiry      := some (s.after (s.lifetime e.cls))
  call        := none

/-- An ACCEPT for the lowest FREE handset number `h` (R30). -/
def State.registerHandset (s : State) (r : PendingAttach) (h : HandsetNo) (pos : Nat) (e : Subscription) : State :=
  match s.append r.base (.attachAnswer r.identity (.accept h)) with
  | (t, true) =>
    ((t.updEntry h fun _ => admittedEntry t r r.base pos e).markHandset h attnReg).bump .accepted
  | (t, false) => t.bump .dropped

/-- A rejection, counted whether or not its append is taken (R29). -/
def State.rejectAttach (s : State) (r : PendingAttach) (v : AttachVerdict) : State :=
  (s.send r.base (.attachAnswer r.identity v)).bump .rejected

/-- The checks at the end of a lookup whose answering base serves, in their order (R29). -/
def State.answerLookup (s : State) (r : PendingAttach) (found : Option (Nat × Subscription)) : State :=
  match found with
  | none => s.rejectAttach r .rejectUnknown
  | some (pos, e) =>
    if !e.enabled then s.rejectAttach r .rejectBarred
    else if !inMask e.zoneMask s.links[r.base].zone then s.rejectAttach r .rejectZone
    else
      match lowestWhere s.roster fun x => !x.registered with
      | none => s.rejectAttach r .rejectFull
      | some h => s.registerHandset r h pos e

/-- The lookup of the record at the head of the list ends: the record is removed, it is answered
through its base as that stands, and the next lookup begins (R27, R29). Only the service state at that
moment counts: a base that was lost or stopped meanwhile and is SERVING again answers (DESIGN CHOICE, log
entry 23). -/
def State.endLookup (s : State) (found : Option (Nat × Subscription)) : State :=
  match s.attaches with
  | [] => s.setAttaches [] none
  | r :: l =>
    let t := s.setAttaches l none
    (if s.service r.base = .serving ∨ s.service r.base = .draining then t.answerLookup r found
      else t.bump .dropped).startLookup

/-- The lookup goes on with bounds `lo` and `hi` (R28). -/
def State.searchBounds (s : State) (lo hi : Nat) : State := s.setAttaches s.attaches (some (.search lo hi))

/-- The count read of a lookup has returned a count (R28). -/
def State.takeSubCount (s : State) (count : Nat) : State :=
  let n := min count Config.subscriptionMax
  if n = 0 then s.endLookup none else s.searchBounds 0 (n - 1)

/-- An entry read of a lookup with bounds `lo`, `hi` for identity `i` has returned `e` (R28). -/
def State.takeSubEntry (s : State) (i : Identity) (lo hi : Nat) (e : Subscription) : State :=
  let mid := (lo + hi) / 2
  if e.identity = i then s.endLookup (some (mid, e))
  else if e.identity.toNat < i.toNat then
    if hi < mid + 1 then s.endLookup none else s.searchBounds (mid + 1) hi
  else if mid = 0 ∨ mid - 1 < lo then s.endLookup none
  else s.searchBounds lo (mid - 1)

/-- SUBSCRIPTION_COUNT_READ_DONE (R28). At a halt the result is not used (R161). -/
def execSubscriptionCountReadDone (count : BitVec 16) (s : State) : Out :=
  s.onAccess count fun t k =>
    match k with
    | .subCount =>
      some (match t.serves, t.lookup with
        | true, some .count => t.takeSubCount count.toNat
        | _, _ => t)
    | _ => none

/-- SUBSCRIPTION_ENTRY_READ_DONE (R28, R29). At a halt the result is not used (R161). -/
def execSubscriptionEntryReadDone (entry : BitVec 128) (s : State) : Out :=
  s.onAccess entry fun t k =>
    match k with
    | .subEntry _ =>
      some (match t.serves, t.lookup, t.attaches with
        | true, some (.search lo hi), r :: _ => t.takeSubEntry r.identity lo hi (subscriptionOf entry)
        | _, _, _ => t)
    | _ => none

/-! ### DEREGISTER (R40) -/

/-- The DEREGISTER order of a slot for handset `h` (R40). Detail 0 is the model's (log
entry 24). -/
def State.takeDeregister (s : State) (slot : SlotNo) (h : HandsetNo) : State :=
  if s.roster[h].registered then
    (((s.send s.roster[h].lastBase (.detach h)).freeEntry h .detached).bump .detaches).handBack slot
      (plainResult (.done .ok) 0)
  else s.handBack slot (plainResult (.state .notRegistered) 0)

/-- DEREGISTER (R40). -/
def execDeregister (slot : SlotNo) (h : HandsetNo) (s : State) : Out :=
  s.takeOrder slot (.deregister h) fun t => t.takeDeregister slot h

end Sys2Proof.Machine
end

