-- ==== Sys2Proof/Machine/ServiceEvents.lean ====
section
/-! DEFINITION. The commands of the base-service handling (Chapter 8): DRAIN BASE, the drain limit, STOP
BASE and START BASE. -/

namespace Sys2Proof.Machine

open Sys2Proof

/-! ### Draining (R133, R137) -/

/-- A new drain record (R133 step 1). -/
def State.newDrain (s : State) (slot : SlotNo) (limit : Nat) : DrainRecord where
  slot     := slot
  limit    := if 0 < limit then some (s.after limit) else none
  phase    := .active
  moved    := 0
  ended    := 0
  cleared  := 0
  attempts := 0

/-- Every CONNECTED call served by `b` is offered a drain move, in ascending order (R133 step 4). -/
def State.offerDrainMoves (s : State) (b : BaseNo) : State :=
  (s.servedBy b).foldl (fun t c => t.offerDrainMove c) s

/-- A drain of base `b` starts (R133). -/
def State.startDrain (s : State) (slot : SlotNo) (b : BaseNo) (limit : Nat) : State :=
  (((((s.setDrain b (some (s.newDrain slot limit))).changeService b .draining).drainStartNotice b).offerDrainMoves
    b).drainCheck b)

/-- The DRAIN BASE order of a slot (R133). -/
def State.takeDrainBase (s : State) (slot : SlotNo) (b : BaseNo) (limit : Nat) : State :=
  match s.service b with
  | .draining => s.handBack slot (plainResult (.state .busy) 0)
  | .serving => s.startDrain slot b limit
  | .absent => s.handBack slot (plainResult (.state .noService) 0)
  | .joining => s.handBack slot (plainResult (.state .noService) 0)
  | .stopped => s.handBack slot (plainResult (.state .noService) 0)

/-- DRAIN_BASE (R133). -/
def execDrainBase (slot : SlotNo) (b : BaseNo) (limit : BitVec 16) (s : State) : Out :=
  s.takeOrder slot (.drainBase b limit) fun t => t.takeDrainBase slot b limit.toNat

/-- The drain of base `b`, with record `d`, is cleared at its limit (R137). -/
def State.clearDrain (s : State) (b : BaseNo) (d : DrainRecord) : State :=
  let t := (s.setDrain b (some { d with phase := .clearing })).endServed b .drained
  match t.drains[b] with
  | some e => t.drainComplete b e e.cleared
  | none => t

/-- The limit timer of the drain of base `b` expires, where it is due (R137). -/
def State.takeDrainLimit (s : State) (b : BaseNo) : State :=
  match s.drains[b] with
  | some d => if s.isDue d.limit then s.clearDrain b d else s
  | none => s

/-- DRAIN_LIMIT_EXPIRY (R137). -/
def execDrainLimitExpiry (b : BaseNo) (s : State) : Out := s.whileServing fun t => t.takeDrainLimit b

/-! ### Stopping and starting (R140, R141) -/

/-- The STOP BASE order of a slot (R140). -/
def State.takeStopBase (s : State) (slot : SlotNo) (b : BaseNo) : State :=
  (((s.failDrain b .stopped).enterStopped b attnLink).withdraw b .stopped).handBack slot
    (plainResult (.done .ok) (s.servedBy b).length)

/-- STOP_BASE (R140). -/
def execStopBase (slot : SlotNo) (b : BaseNo) (s : State) : Out :=
  s.takeOrder slot (.stopBase b) fun t => t.takeStopBase slot b

/-- The START BASE order of a slot (R141). -/
def State.takeStartBase (s : State) (slot : SlotNo) (b : BaseNo) : State :=
  if s.service b = .stopped then (s.changeService b .absent).handBack slot (plainResult (.done .ok) 0)
  else s.handBack slot (plainResult (.state .notStopped) 0)

/-- START_BASE (R141). -/
def execStartBase (slot : SlotNo) (b : BaseNo) (s : State) : Out :=
  s.takeOrder slot (.startBase b) fun t => t.takeStartBase slot b

end Sys2Proof.Machine
end

