-- ==== Sys2Proof/Machine/ControlEvents.lean ====
section
/-! DEFINITION. The commands of the part as a whole (9.1, Chapter 10): the frame mark, bus errors, the
start-up sequence, the halt, RESTART, the RESET pin and the register window. -/

namespace Sys2Proof.Machine

open Sys2Proof

/-! ### The frame mark (R4, R5; log entry 3) -/

/-- The join and silence timers, retransmissions and answer timeouts due at the present frame count are
taken. -/
def State.dueLinks (s : State) : State :=
  let j := (indicesWhere s.links fun l => s.isDue l.joinTimer).foldl (fun t b => t.takeJoinTimer b) s
  let k := (indicesWhere j.links fun l => j.isDue l.silenceTimer).foldl (fun t b => t.takeSilenceTimer b) j
  let m := (indicesWhere k.links fun l => l.head.isSome).foldl (fun t b => t.takeRetransmit b) k
  (indicesWhere m.links fun l => l.head.isSome).foldl (fun t b => t.takeAnswerTimeout b) m

/-- The lifetimes and page rounds due at the present frame count are taken. -/
def State.dueRoster (s : State) : State :=
  let l := (indicesWhere s.roster fun e => s.isDue e.expiry).foldl (fun t h => t.takeLifetime h) s
  (l.pages.map (·.handset)).foldl (fun t h => t.takeRoundTimer h) l

/-- The reserve, arrival, settle and hold timers due at the present frame count are taken. -/
def State.dueCalls (s : State) : State :=
  let r := (s.handoversWhere fun q => s.isDue q.reserveTimer).foldl (fun t c => t.takeReserveTimer c) s
  let a := (r.handoversWhere fun q => r.isDue q.arrivalTimer).foldl (fun t c => t.takeArrivalTimer c) r
  let e := (indicesWhere a.calls fun q => a.isDue q.settle).foldl (fun t c => t.takeSettleTimer c) a
  (indicesWhere e.calls fun q => e.isDue q.hold).foldl (fun t c => t.takeHoldTimer c) e

/-- The switch batch and the drain limits due at the present frame count are taken. -/
def State.dueBatch (s : State) : State :=
  let d := s.deliverBatch
  (indicesWhere d.drains fun q => match q with | some r => d.isDue r.limit | none => false).foldl
    (fun t b => t.takeDrainLimit b) d

/-- All work of the present frame mark that no command has taken yet, in a fixed order. -/
def State.dueWork (s : State) : State := s.dueLinks.dueRoster.dueCalls.dueBatch.takeIntake

/-- The frame count increases by 1, wrapping past 2^32 − 1 to 0, and the intake of the mark is due where
the intake state is IDLE (R4, R151). -/
def State.advanceFrame (s : State) : State :=
  (s.updRegs fun r => { r with frame := r.frame + 1 }).updOru fun o => { o with intakeDue := o.intake == .idle }

/-- FRAME_MARK (R4). Work of the mark before that is still due is taken first, since every timer expires
at its own mark (R5). -/
def execFrameMark (s : State) : Out := s.whileServing fun t => t.dueWork.advanceFrame

/-! ### Bus errors (R148) -/

/-- ACCESS_TIMEOUT: the access in progress has not completed within 192000 reference periods (R148). -/
def execAccessTimeout (s : State) : Out :=
  .next (if s.port.access.isSome then s.faultWith .busError else s)

/-- BUS_ERROR: the static RAM bus reports an error for the access in progress (R148). -/
def execBusError (s : State) : Out :=
  .next (if s.port.access.isSome then s.faultWith .busError else s)

/-! ### Start-up (R160) -/

/-- STARTUP_HEADER_READ_DONE: a layout version other than 1 makes the part FAULTED (R160 step 2). -/
def execStartupHeaderReadDone (version : BitVec 16) (s : State) : Out :=
  s.onAccess version fun t k =>
    match k with
    | .startHeader => some (if version = Config.layoutVersion then t.ask [.startParams] else t.faultWith .layout)
    | _ => none

/-- A clamp of step 3 is noted for step 7 (R160). -/
def State.noteStartClamps (s : State) (n : Nat) : State :=
  s.updPlan fun p => { p with clamped := p.clamped || decide (0 < n) }

/-- The record after a record of step 3: zones 0..15, then bases 0..47 (R160). -/
def afterZone (z : ZoneNo) : AccessKind :=
  match finOf 16 (z.val + 1) with
  | some y => .startZone y
  | none => .startBase 0

/-- A base record read at start-up: the link record, guard count and level offset (R1, R2, R57, R76). -/
def State.loadBase (s : State) (b : BaseNo) (r : BaseRecord) : State :=
  ((s.updLink b fun _ => {
    service := if r.enabled then .absent else .stopped
    enabled := r.enabled, zone := r.zone, planCount := r.count, effCount := r.count
    joinTimer := none, silenceTimer := none, queue := [], head := none }).updPlan fun q => { q with
      guards := q.guards.set b r.guard, offsets := q.offsets.set b r.offset })

/-- All 768 records, in the order in which start-up marks them (R157). -/
def allRecords : List RecordRef := (List.finRange 512).map .handset ++ (List.finRange 256).map .call

/-- Step 4: every record is marked with no bits, the other tables stand at their start values, and the
zero writes begin (R157, R160 steps 4 and 5). -/
def State.startTables (s : State) : State :=
  s.updAcu fun a => { a with
    handsetMarks := .replicate 512 (some 0)
    callMarks := .replicate 256 (some 0)
    queue := allRecords
    job := some (.zero 0) }

/-- STARTUP_PLAN_READ_DONE: header parameters, a zone record or a base record (R160 steps 3 and 4). -/
def execStartupPlanReadDone (record : BitVec 256) (s : State) : Out :=
  s.onAccess record fun t k =>
    match k with
    | .startParams =>
      some (((t.updPlan fun p => { p with header := headerOf record }).noteStartClamps (headerClamps record)).ask
        [.startZone 0])
    | .startZone z =>
      some (((t.applyZone z (zoneOf record)).noteStartClamps (zoneClamps record)).ask [afterZone z])
    | .startBase b =>
      let u := (t.loadBase b (baseOf record)).noteStartClamps (baseClamps record)
      some (match finOf 48 (b.val + 1) with
        | some c => u.ask [.startBase c]
        | none => u.startTables)
    | _ => none

/-- STARTUP_ZERO_WRITE_DONE: after the last zero write the owner bytes are read (R160 steps 5 and 6). -/
def execStartupZeroWriteDone (s : State) : Out :=
  s.onAccess (0 : BitVec 0) fun t k =>
    match k with
    | .zeroWrite n =>
      some (if n + 1 < Config.zeroWrites then t.setJob (some (.zero (n + 1))) else (t.setJob none).ask [.scanOwner 0])
    | _ => none

/-- The accesses that follow the start-up read of slot `i`'s owner byte: a slot TAKEN (2) is answered
CANCELLED RESTART, and the next owner byte or the posted-order count is read (R156, R160 step 6). That a TAKEN
slot's two answer writes come before the next owner byte is read is DESIGN CHOICE, unsafe, log entry 26. -/
def afterScan (i : SlotNo) (owner : Byte) : List AccessKind :=
  (if owner = 2 then [.resultWrite i (plainResult (.cancelled .restart) 0), .answeredWrite i] else [])
    ++ [match nextSlot i with | some j => .scanOwner j | none => .postedCount]

/-- STARTUP_SLOT_SCAN_READ_DONE (R156, R160 step 6). -/
def execStartupSlotScanReadDone (owner : Byte) (s : State) : Out :=
  s.onAccess owner fun t k =>
    match k with
    | .scanOwner i => some (t.ask (afterScan i owner))
    | _ => none

/-- The part becomes RUNNING with frame count 0, RESTARTED pending, and PLAN_CLAMPED with it if start-up
clamped a field (R160 steps 7 and 8). -/
def State.enterRunning (s : State) : State :=
  (s.pendDevice (if s.plan.clamped then attnRestarted ||| attnPlanClamped else attnRestarted)).updRegs fun r =>
    { r with part := .running, frame := 0 }

/-- START_COUNT_ACCESS_DONE: the start count read, then written back increased by 1 (R160 steps 7 and
8). -/
def execStartCountAccessDone (count : BitVec 32) (s : State) : Out :=
  s.onAccess count fun t k =>
    match k with
    | .startCountRead => some (t.ask [.startCountWrite (count + 1)])
    | .startCountWrite _ => some t.enterRunning
    | _ => none

/-! ### The halt (R156, R161) -/

/-- The result that a halt hands to an order in flight, from its operation's record as it stands (R42,
R110, R132, R156). Where the order was read from its slot but not yet taken by its block, no record
stands: a PAGE or DRAIN BASE then has detail and counts 0, a FORCE MOVE the target base that it names
(DESIGN CHOICE, log entry 11). -/
def State.haltResult (s : State) (e : InFlight) : OrderResult :=
  let plain := plainResult (.cancelled .halt) 0
  if e.kind = kindPage then
    match s.pageBySlot e.slot with
    | some p => ⟨.cancelled .halt, 0, pageData p 0⟩
    | none => plain
  else if e.kind = kindForceMove then
    match (s.moveBySlot e.slot).bind fun c => s.calls[c].handover with
    | some r => ⟨.cancelled .halt, r.target.val, tagData r.tag⟩
    | none => plainResult (.cancelled .halt) (byteNat e.params 2)
  else if e.kind = kindDrainBase then
    match (s.drainBySlot e.slot).bind fun b => s.drains[b] with
    | some d => ⟨.cancelled .halt, 0, drainData d⟩
    | none => plain
  else plain

/-- The accesses of the ORU that a halt keeps: the answers handed back, and the TAKEN writes before them
(R153, R161). -/
def keptAtHalt (slots : List SlotNo) : AccessKind → Bool
  | .takenWrite i => slots.contains i
  | .resultWrite _ _ => true
  | .answeredWrite _ => true
  | _ => false

/-- Every in-flight order CARRYING OUT is handed its result (R156). The manual gives no order among the
answers; the order of the in-flight list, behind the answers already asked for, is DESIGN CHOICE (log
entry 19). -/
def State.haltAnswers (s : State) : State :=
  (s.oru.inFlight.filter fun e => e.phase == .carryingOut).foldl (fun t e => t.handBack e.slot (s.haltResult e)) s

/-- STOP is transmitted to every base JOINING, SERVING or DRAINING (R17, R19, R161 step 2). The manual gives
no order among the bases; ascending base number is DESIGN CHOICE (log entry 19). -/
def State.stopAll (s : State) : State :=
  (indicesWhere s.links fun l => linkActive l.service).foldl (fun t b => t.stopTransmit b) s

/-- Step 1: lookups, record write-backs and SNAPSHOTs are withdrawn, and the ORU makes no access but for
its answers (R156, R161). -/
def State.withdrawRequests (s : State) : State :=
  let slots := s.oru.inFlight.map (·.slot)
  (((s.updRegs fun r => { r with halting := true, haltSlots := slots }).setAttaches s.attaches none).updAcu fun a =>
    { a with job := none, snapshots := [] }).updOru fun o => { o with
      queue := o.queue.filter (keptAtHalt slots), dispatched := none, intake := .idle, intakeDue := false }

/-- Steps 1 to 3 of a halt begin; it ends when their accesses have been made (R161; log entry 11). -/
def State.beginHalt (s : State) : State := s.withdrawRequests.stopAll.haltAnswers

/-- RUN reads 0 (R145). -/
def State.clearRun (s : State) (attnEn : Bool) : State :=
  s.updRegs fun r => { r with run := false, attnEn := attnEn }

/-- The part becomes HALTED from STARTING, its tables cleared with no further write (R160). R147 names no start state
of the arbiter for this: that its holder, count and rotation return to their start values with the tables, and that
the access in progress is dropped, is DESIGN CHOICE, unsafe, log entry 27. -/
def State.abandonStart (s : State) : State :=
  (s.abandonAccess.clearTables).updRegs fun r => { r with part := .halted }

/-- CONTROL is written with RUN 0 (R160 to R162). -/
def State.writeRun0 (s : State) (attnEn : Bool) : State :=
  let t := s.clearRun attnEn
  match s.regs.part with
  | .halted => t
  | .starting => t.abandonStart
  | .running => if s.regs.halting then t else t.beginHalt
  | .faulted => t.updRegs fun r => { r with part := .halted }

/-- CONTROL is written with RUN 1: start-up begins in HALTED or FAULTED where RUN was 0 (R160, R162). -/
def State.writeRun1 (s : State) (attnEn : Bool) : State :=
  let t := s.updRegs fun r => { r with run := true, attnEn := attnEn }
  if s.regs.run = false ∧ (s.regs.part = .halted ∨ s.regs.part = .faulted) then t.beginStartup else t

/-- RESTART: every table is cleared, CONTROL, STATUS and ATTN are reset, XBASE is kept (R144, R161). -/
def State.writeRestart (s : State) : State :=
  (s.abandonAccess.clearTables).updRegs fun r => { Regs.start with xbase := r.xbase }

/-- RUN_SET (R145, R160, R162). -/
def execRunSet (attnEn : Bool) (s : State) : Out := settled (s.writeRun1 attnEn)

/-- RUN_CLEAR (R145, R160 to R162). -/
def execRunClear (attnEn : Bool) (s : State) : Out := settled (s.writeRun0 attnEn)

/-- RESTART (R161). -/
def execRestart (s : State) : Out := .next s.writeRestart

/-- RESET_PIN: as RESTART, and XBASE is reset too (R161). -/
def execResetPin (s : State) : Out := .next (s.abandonAccess.clearTables.updRegs fun _ => .start)

/-! ### The register window (R144, R145) -/

/-- XBASE is written: taken in HALTED and FAULTED (R145). -/
def State.writeXbase (s : State) (value : BitVec 32) : State :=
  if s.regs.part = .halted ∨ s.regs.part = .faulted then
    s.updRegs fun r => { r with xbase := value.extractLsb' 16 16 }
  else s

/-- PENDING is cleared (R145). -/
def State.clearPending (s : State) : State := s.updRegs fun r => { r with attnPending := false }

/-- XBASE_WRITE (R145). -/
def execXbaseWrite (value : BitVec 32) (s : State) : Out := .next (s.writeXbase value)

/-- ATTN_CLEAR (R145). -/
def execAttnClear (s : State) : Out := .next s.clearPending

/-- CONTROL is written with a word: RESTART in bit 1, RUN in bit 0, ATTN_EN in bit 2 (Table 9-1, R145,
R161). -/
def State.writeControl (s : State) (v : BitVec 32) : State :=
  if v.getLsbD 1 then s.writeRestart
  else if v.getLsbD 0 then (s.writeRun1 (v.getLsbD 2)).settle
  else (s.writeRun0 (v.getLsbD 2)).settle

/-- A word is written at an offset of the window (R144, R145). -/
def State.writeWindow (s : State) (offset : Nat) (v : BitVec 32) : State :=
  match offset with
  | 0x04 => s.writeControl v
  | 0x08 => s.writeXbase v
  | 0x10 => if v.getLsbD 0 then s.clearPending else s
  | _ => s

/-- REGISTER_WRITE (R144, R145). An offset that is no word of the window does not reach the part. -/
def execRegisterWrite (offset : Nat) (value : BitVec 32) (s : State) : Out :=
  if offset < 32 ∧ offset % 4 = 0 then .next (s.writeWindow offset value) else .fault .outsideWindow

end Sys2Proof.Machine
end

