-- ==== Sys2Proof/Machine/Dispatch.lean ====
section
/-! DEFINITION. The meaning of every command: one arm per constructor of Instr, each one direct call. -/

namespace Sys2Proof.Machine

open Sys2Proof

/-- What a command does to the state (all of it but the queue of waiting commands, which it keeps). -/
def exec (i : Instr) (s : State) : Host.Outcome State Fault Refusal :=
  match i with
  | .hello b announced capacity => Sys2Proof.Machine.execHello b announced capacity s
  | .ready b => Sys2Proof.Machine.execReady b s
  | .beacon b => Sys2Proof.Machine.execBeacon b s
  | .malformedMessage b => Sys2Proof.Machine.execMalformedMessage b s
  | .accept b => Sys2Proof.Machine.execAccept b s
  | .defer b => Sys2Proof.Machine.execDefer b s
  | .attach b n => Sys2Proof.Machine.execAttach b n s
  | .refresh b h check => Sys2Proof.Machine.execRefresh b h check s
  | .detach b h => Sys2Proof.Machine.execDetach b h s
  | .callRequest b h paged => Sys2Proof.Machine.execCallRequest b h paged s
  | .callEnd b k => Sys2Proof.Machine.execCallEnd b k s
  | .channelDropped b k => Sys2Proof.Machine.execChannelDropped b k s
  | .levelReport b k level errors pairs => Sys2Proof.Machine.execLevelReport b k level errors pairs s
  | .reserveAnswer b j c g v reason => Sys2Proof.Machine.execReserveAnswer b j c g v reason s
  | .arrived b j c g => Sys2Proof.Machine.execArrived b j c g s
  | .pageAnswer b h => Sys2Proof.Machine.execPageAnswer b h s
  | .frameMark => Sys2Proof.Machine.execFrameMark s
  | .joinTimerExpiry b => Sys2Proof.Machine.execJoinTimerExpiry b s
  | .silenceTimerExpiry b => Sys2Proof.Machine.execSilenceTimerExpiry b s
  | .headRetransmit b => Sys2Proof.Machine.execHeadRetransmit b s
  | .headAnswerTimeout b => Sys2Proof.Machine.execHeadAnswerTimeout b s
  | .lifetimeExpiry h => Sys2Proof.Machine.execLifetimeExpiry h s
  | .roundTimerExpiry h => Sys2Proof.Machine.execRoundTimerExpiry h s
  | .reserveTimerExpiry c => Sys2Proof.Machine.execReserveTimerExpiry c s
  | .arrivalTimerExpiry c => Sys2Proof.Machine.execArrivalTimerExpiry c s
  | .settleTimerExpiry c => Sys2Proof.Machine.execSettleTimerExpiry c s
  | .holdTimerExpiry c => Sys2Proof.Machine.execHoldTimerExpiry c s
  | .switchBatchDelivery => Sys2Proof.Machine.execSwitchBatchDelivery s
  | .drainLimitExpiry b => Sys2Proof.Machine.execDrainLimitExpiry b s
  | .orderIntake => Sys2Proof.Machine.execOrderIntake s
  | .accessTimeout => Sys2Proof.Machine.execAccessTimeout s
  | .busError => Sys2Proof.Machine.execBusError s
  | .subscriptionCountReadDone count => Sys2Proof.Machine.execSubscriptionCountReadDone count s
  | .subscriptionEntryReadDone entry => Sys2Proof.Machine.execSubscriptionEntryReadDone entry s
  | .postedCountReadDone count => Sys2Proof.Machine.execPostedCountReadDone count s
  | .ownerByteReadDone owner => Sys2Proof.Machine.execOwnerByteReadDone owner s
  | .slotReadDone slot => Sys2Proof.Machine.execSlotReadDone slot s
  | .takenWriteDone => Sys2Proof.Machine.execTakenWriteDone s
  | .resultWriteDone => Sys2Proof.Machine.execResultWriteDone s
  | .answeredWriteDone => Sys2Proof.Machine.execAnsweredWriteDone s
  | .planRecordReadDone record => Sys2Proof.Machine.execPlanRecordReadDone record s
  | .recordWriteDone => Sys2Proof.Machine.execRecordWriteDone s
  | .attentionByteAccessDone data => Sys2Proof.Machine.execAttentionByteAccessDone data s
  | .summaryByteAccessDone data => Sys2Proof.Machine.execSummaryByteAccessDone data s
  | .counterWriteDone => Sys2Proof.Machine.execCounterWriteDone s
  | .startupHeaderReadDone version => Sys2Proof.Machine.execStartupHeaderReadDone version s
  | .startupPlanReadDone record => Sys2Proof.Machine.execStartupPlanReadDone record s
  | .startupZeroWriteDone => Sys2Proof.Machine.execStartupZeroWriteDone s
  | .startupSlotScanReadDone owner => Sys2Proof.Machine.execStartupSlotScanReadDone owner s
  | .startCountAccessDone count => Sys2Proof.Machine.execStartCountAccessDone count s
  | .runSet attnEn => Sys2Proof.Machine.execRunSet attnEn s
  | .runClear attnEn => Sys2Proof.Machine.execRunClear attnEn s
  | .restart => Sys2Proof.Machine.execRestart s
  | .xbaseWrite value => Sys2Proof.Machine.execXbaseWrite value s
  | .attnClear => Sys2Proof.Machine.execAttnClear s
  | .registerWrite offset value => Sys2Proof.Machine.execRegisterWrite offset value s
  | .resetPin => Sys2Proof.Machine.execResetPin s
  | .deregister slot h => Sys2Proof.Machine.execDeregister slot h s
  | .page slot h => Sys2Proof.Machine.execPage slot h s
  | .cancel slot target => Sys2Proof.Machine.execCancel slot target s
  | .clearCall slot c => Sys2Proof.Machine.execClearCall slot c s
  | .forceMove slot c t => Sys2Proof.Machine.execForceMove slot c t s
  | .drainBase slot b limit => Sys2Proof.Machine.execDrainBase slot b limit s
  | .stopBase slot b => Sys2Proof.Machine.execStopBase slot b s
  | .startBase slot b => Sys2Proof.Machine.execStartBase slot b s
  | .blockChannel slot b k => Sys2Proof.Machine.execBlockChannel slot b k s
  | .unblockChannel slot b k => Sys2Proof.Machine.execUnblockChannel slot b k s
  | .amendPlan slot r => Sys2Proof.Machine.execAmendPlan slot r s
  | .snapshot slot clear => Sys2Proof.Machine.execSnapshot slot clear s

end Sys2Proof.Machine
end

