-- ==== Sys2Proof/Safety.lean ====
section
/-! DEFINITION. What counts as a safe state of the MC48: the laws of the device and the capacities of its
tables, in the terms that the statements use. -/

namespace Sys2Proof.Machine

open Sys2Proof

/-- The exchange memory stands in its canonical form: addresses rise strictly. -/
def State.memoryOk (s : State) : Prop := memWf s.mem = true

/-- The counters lie within 0..65535 (R159, a law of the device). -/
def State.countersOk (s : State) : Prop :=
  (∀ b k, s.baseCount b k ≤ Config.counterMax) ∧ ∀ k, s.globalCount k ≤ Config.counterMax

/-- A link record with its queue: at most 16 messages, head retry state exactly while a message stands in
the queue, and nothing running or queued where the link is ABSENT or STOPPED (1.5, R13, R90). -/
def Link.ok (l : Link) : Prop :=
  l.queue.length ≤ Config.queueDepth ∧ (l.head = none ↔ l.queue = []) ∧
    (linkActive l.service = false → l.queue = [] ∧ l.joinTimer = none ∧ l.silenceTimer = none)

/-- Every link record is in order. -/
def State.linksOk (s : State) : Prop := ∀ b : BaseNo, s.links[b].ok

/-- Every call's handset is REGISTERED and names that call (R58, a law of the device). -/
def State.callsOk (s : State) : Prop :=
  ∀ c : CallNo, callLive s.calls[c].state = true →
    s.roster[s.calls[c].handset].registered = true ∧ s.roster[s.calls[c].handset].call = some c

/-- A handover record exists only in a MOVING entry; the switch batch holds at most 32 entries, no call twice, and
only calls whose record is AWAIT_MARK (R58, R119). -/
def State.batchOk (s : State) : Prop :=
  (∀ c : CallNo, s.calls[c].state ≠ .moving → s.calls[c].handover = none) ∧ s.batch.length ≤ Config.batchMax ∧
    (s.batch.map (·.call)).Nodup ∧
    ∀ e ∈ s.batch, ∃ r, s.calls[e.call].handover = some r ∧ r.state = .awaitMark

/-- Filtered levels within 0..2032, at most 6 neighbours, leads within 0..15 (0.7, R75, R85, R102). -/
def Call.levelsOk (e : Call) : Prop :=
  (∀ f, e.filter = some f → f ≤ Config.filteredMax) ∧ e.neighbours.length ≤ Config.neighbourMax ∧
    ∀ n ∈ e.neighbours, n.level ≤ Config.filteredMax ∧ n.lead ≤ Config.leadMax

/-- The levels of every call are in order. -/
def State.levelsOk (s : State) : Prop := ∀ c : CallNo, s.calls[c].levelsOk

/-- At most 8 pending attaches and 16 pages, no handset in two page records (2.3, 3.1). -/
def State.tablesOk (s : State) : Prop :=
  s.attaches.length ≤ Config.pendingAttachMax ∧ s.pages.length ≤ Config.pageTableMax ∧
    (s.pages.map (·.handset)).Nodup

/-- No identity stands twice in the pending attach list, and none in it is also REGISTERED (2.3). -/
def State.attachesOk (s : State) : Prop :=
  (s.attaches.map (·.identity)).Nodup ∧
    ∀ r ∈ s.attaches, ∀ h : HandsetNo, s.roster[h].registered = true → s.roster[h].identity ≠ r.identity

/-- An entry FREE or ENDED has no serving filter and an empty neighbour set (R75); a neighbour set holds no base
twice and never the serving base, levels descending with ties to the lower base number (R87); the target of a
handover is not the serving base (R69). -/
def Call.neighboursOk (e : Call) : Prop :=
  (callLive e.state = false → e.filter = none ∧ e.neighbours = []) ∧
    (e.neighbours.map (·.base)).Nodup ∧ (∀ n ∈ e.neighbours, n.base ≠ e.base) ∧
    (e.neighbours.Pairwise fun m n => n.level < m.level ∨ (m.level = n.level ∧ m.base < n.base)) ∧
    ∀ r, e.handover = some r → r.target ≠ e.base

/-- The filters and neighbour sets of every call are in order. -/
def State.neighboursOk (s : State) : Prop := ∀ c : CallNo, s.calls[c].neighboursOk

/-- A base has a drain record exactly while its link is DRAINING; between two events every record is ACTIVE; and
outside RUNNING no link is DRAINING (R132). -/
def State.drainsOk (s : State) : Prop :=
  (∀ b : BaseNo, s.drains[b] ≠ none ↔ s.service b = .draining) ∧
    (∀ (b : BaseNo) (d : DrainRecord), s.drains[b] = some d → d.phase = .active) ∧
    (s.regs.part ≠ .running → ∀ b : BaseNo, s.service b ≠ .draining)

/-- The write-back queue lists every dirty record, once, and no other (10.1, R157). -/
def State.marksOk (s : State) : Prop :=
  s.acu.queue.Nodup ∧ (∀ h : HandsetNo, .handset h ∈ s.acu.queue ↔ s.acu.handsetMarks[h] ≠ none) ∧
    ∀ c : CallNo, .call c ∈ s.acu.queue ↔ s.acu.callMarks[c] ≠ none

/-- The slot that an access of an intake's scan examines: the read of its owner byte, or of the slot whole (R151). -/
def scanSlot : AccessKind → Option SlotNo
  | .ownerByte i => some i
  | .slotRead i => some i
  | _ => none

/-- The slots that an intake examines: the owner and slot reads in progress or asked for, and the order dispatched
and not yet taken by its block. -/
def State.scanSlots (s : State) : List SlotNo :=
  (s.accessKind.toList ++ s.oru.queue).filterMap scanSlot ++ s.oru.dispatched.toList.map (·.1)

/-- The in-flight order list has at most one entry a slot, and so at most 32 (9.4). While the part serves, an intake
examines one slot at a time, the one its state names, and none where it is IDLE; a slot is read whole only while it
has no entry. Otherwise the intake is IDLE with no order dispatched and no such read asked for (R150, R151, R156,
R161). -/
def State.ordersOk (s : State) : Prop :=
  (s.oru.inFlight.map (·.slot)).Nodup ∧
  (s.serves = true →
    s.scanSlots = (match s.oru.intake with | .idle => [] | .scanning i => [i]) ∧
      ∀ i : SlotNo, .slotRead i ∈ s.accessKind.toList ++ s.oru.queue → s.inFlightAt i = none) ∧
  (s.serves = false →
    s.oru.intake = .idle ∧ s.oru.dispatched = none ∧ ∀ k ∈ s.oru.queue, scanSlot k = none)

/-- No work of the present frame mark is left: no timer that runs expires at the present frame count, no head is
due for its retransmission or its answer timeout, no page round and no entry of the switch batch is due, and no
intake (R5, R9, R10, R15, R38, R47, R103, R104, R117, R120, R122, R137, R151). -/
def State.nothingDue (s : State) : Prop :=
  (∀ b : BaseNo,
    (s.service b = .joining → s.links[b].joinTimer ≠ some s.now) ∧
    (linkActive (s.service b) = true → s.links[b].silenceTimer ≠ some s.now) ∧
    (∀ f n g, s.links[b].head = some ⟨.awaitingMark f, n, g⟩ → s.now ≠ f + 1) ∧
    ∀ n f, s.links[b].head = some ⟨.awaitingAnswer, n, f⟩ → s.now ≠ f + 2) ∧
  (∀ h : HandsetNo, s.roster[h].registered = true → s.roster[h].expiry ≠ some s.now) ∧
  (∀ p ∈ s.pages, p.nextRound ≠ s.now) ∧
  (∀ c : CallNo, s.calls[c].settle ≠ some s.now ∧ s.calls[c].hold ≠ some s.now ∧
    ∀ r, s.calls[c].handover = some r →
      (r.state = .reserving → r.reserveTimer ≠ some s.now) ∧ (r.state = .switching → r.arrivalTimer ≠ some s.now)) ∧
  (∀ e ∈ s.batch, e.due ≠ s.now) ∧
  (∀ (b : BaseNo) (d : DrainRecord), s.drains[b] = some d → d.limit ≠ some s.now) ∧
  s.oru.intakeDue = false

/-- A base serves no call, is the target of no handover, stands in no neighbour set and holds no HELD,
RESERVED or LEAVING channel (R139, R90). -/
def State.withdrawn (s : State) (b : BaseNo) : Prop :=
  (∀ c : CallNo, ¬ (callLive s.calls[c].state = true ∧ s.calls[c].base = b)) ∧
    (∀ (c : CallNo) (r : Handover), s.calls[c].handover = some r → r.target ≠ b) ∧
    (∀ c : CallNo, hasNeighbour s.calls[c].neighbours b = false) ∧
    ∀ k : ChanNo, s.chan b k = .free ∨ s.chan b k = .blocked

/-- A base in service: SERVING or DRAINING. -/
def State.inService (s : State) (b : BaseNo) : Prop := s.service b = .serving ∨ s.service b = .draining

/-- A channel in use belongs to one call (R56): HELD or LEAVING, it is the serving channel of a call in
progress, LEAVING exactly while the call's record is SWITCHING; RESERVED, it is the channel that the
call's record names, with the record's tag. -/
def State.channelOk (s : State) (b : BaseNo) (k : ChanNo) : Prop :=
  match s.chan b k with
  | .free => True
  | .blocked => True
  | .held c =>
    callLive s.calls[c].state = true ∧ s.calls[c].base = b ∧ s.calls[c].channel = k ∧
      ∀ r, s.calls[c].handover = some r → r.state ≠ .switching
  | .leaving c =>
    callLive s.calls[c].state = true ∧ s.calls[c].base = b ∧ s.calls[c].channel = k ∧
      ∃ r, s.calls[c].handover = some r ∧ r.state = .switching
  | .reserved c g => ∃ r, s.calls[c].handover = some r ∧ r.target = b ∧ r.channel = some k ∧ r.tag = g

/-- The channel map, the calls and the neighbour sets agree, and name only bases in service: every channel
in use belongs to its call and lies within a base in service; every call in progress has its serving
channel HELD or LEAVING; only a MOVING call has a handover record, and the record's channel is RESERVED for
it; a neighbour set holds bases in service only (R56, R58, R90: laws of the device). -/
def State.channelsOk (s : State) : Prop :=
  (∀ (b : BaseNo) (k : ChanNo), s.channelOk b k ∧
    (chanInUse (s.chan b k) = true → k.val < s.links[b].effCount ∧ s.inService b)) ∧
  (∀ c : CallNo, callLive s.calls[c].state = true →
    s.chan s.calls[c].base s.calls[c].channel = .held c ∨ s.chan s.calls[c].base s.calls[c].channel = .leaving c) ∧
  (∀ (c : CallNo) (r : Handover), s.calls[c].handover = some r →
    s.calls[c].state = .moving ∧ ∃ j, r.channel = some j ∧ s.chan r.target j = .reserved c r.tag) ∧
  ∀ (c : CallNo) (n : Neighbour), n ∈ s.calls[c].neighbours → s.inService n.base

/-- An access of the start-up sequence that asks for the next one (R160); the posted-order count is one
while the part is STARTING. The zero writes follow from the ACU's work. -/
def startsUp (starting : Bool) : AccessKind → Bool
  | .startHeader => true
  | .startParams => true
  | .startZone _ => true
  | .startBase _ => true
  | .scanOwner _ => true
  | .startCountRead => true
  | .startCountWrite _ => true
  | .postedCount => starting
  | _ => false

/-- The ACU's work is the zero writes of start-up. -/
def zeroing : Option AcuJob → Nat
  | some (.zero _) => 1
  | _ => 0

/-- How many steps of the start-up sequence are under way: in progress or asked for, the zero writes
counting as one. -/
def State.startSteps (s : State) : Nat :=
  ((s.accessKind.toList ++ s.oru.queue).filter (startsUp (s.regs.part == .starting))).length + zeroing s.acu.job

/-- Outside RUNNING no call is in progress and no neighbour set holds a base; the steps of start-up are made
one at a time, in STARTING only, and a zero write is the ACU's work (R58, R75, R160). -/
def State.startOk (s : State) : Prop :=
  (s.regs.part ≠ .running → ∀ c : CallNo, callLive s.calls[c].state = false ∧ s.calls[c].neighbours = []) ∧
  s.startSteps ≤ (if s.regs.part = .starting then 1 else 0) ∧
  ∀ n, .zeroWrite n ∉ s.oru.queue ∧ (s.accessKind = some (.zeroWrite n) → s.acu.job = some (.zero n))

/-- A state in which every law of this file holds. -/
def State.safe (s : State) : Prop :=
  s.memoryOk ∧ s.countersOk ∧ s.linksOk ∧ s.callsOk ∧ s.batchOk ∧ s.levelsOk ∧ s.tablesOk ∧ s.channelsOk ∧
    s.startOk ∧ s.attachesOk ∧ s.neighboursOk ∧ s.drainsOk ∧ s.marksOk ∧ s.ordersOk

/-- The state with the dispatched order handed to its block. -/
def State.undispatched (s : State) : State := s.updOru fun u => { u with dispatched := none }

/-- An order of a slot may be taken: the part serves, and it is the order dispatched (R153). -/
def State.offers (s : State) (slot : SlotNo) (o : Order) : Prop :=
  s.serves = true ∧ s.oru.dispatched = some (slot, o)

/-- The part serves, and link `b` is SERVING or DRAINING: its traffic is taken by every block (R22, R60). -/
def State.carries (s : State) (b : BaseNo) : Prop :=
  s.serves = true ∧ (s.service b = .serving ∨ s.service b = .draining)

/-- The bases that a page round in zone `z` reaches: their queue takes the PAGE (R46). -/
def State.roundTaken (s : State) (z : ZoneNo) : List BaseNo := (s.roundBases z).filter s.appendTaken

/-- The bases that a page round in zone `z` skips: their queue refuses the PAGE (R46). -/
def State.roundSkipped (s : State) (z : ZoneNo) : List BaseNo := (s.roundBases z).filter fun b => !s.appendTaken b

/-- A count after `n` increments, each stopping at 65535 (0.7). -/
def countUp : (n : Nat) → Nat → Nat
  | 0, x => x
  | n + 1, x => satSucc (countUp n x)

/-- A page round of handset `h` in zone `z` leads from `s` to `u`, as far as links, counters and
transmissions go (R46): every SERVING base of the zone, and no other, is offered the PAGE with the handset's
identity; each refusal counts one discard of its base and one base skipped, and nothing else is counted; the
PAGE is transmitted at once to the bases whose queue was empty. -/
def State.pagedRound (s u : State) (h : HandsetNo) (z : ZoneNo) : Prop :=
  (∀ b : BaseNo,
    (s.service b = .serving ∧ s.links[b].zone = z →
      u.links[b] = (s.send b (.page h s.roster[h].identity)).links[b]) ∧
    (¬(s.service b = .serving ∧ s.links[b].zone = z) → u.links[b] = s.links[b]) ∧
    ∀ k : BaseCounter, u.baseCount b k =
      if s.service b = .serving ∧ s.links[b].zone = z ∧ s.appendTaken b = false ∧ k = .discards then
        satSucc (s.baseCount b k)
      else s.baseCount b k) ∧
  (∀ k : GlobalCounter, u.globalCount k =
    if k = .pageSkips then countUp (s.roundSkipped z).length (s.globalCount k) else s.globalCount k) ∧
  u.wire = s.wire ++ ((s.roundTaken z).filter fun b => s.links[b].queue.isEmpty).map fun b =>
    ⟨b, .page h s.roster[h].identity⟩

/-- What the start of a handover of call `c` with a try list does (R106, R112, R134): where the first
candidate is SERVING, is not the serving base, has a FREE channel and takes the RESERVE, the call is MOVING
with a fresh tag and a record RESERVING there, the lowest FREE channel is RESERVED for it and RESERVE is
sent; where no candidate has a FREE channel the attempt ends NO_CHANNEL at once, with no message sent. -/
def State.startsMove (s u : State) (c : CallNo) (kind : HandoverKind) (tries : List BaseNo) : Prop :=
  (∀ (t : BaseNo) (rest : List BaseNo) (j : ChanNo), tries = t :: rest → t ≠ s.calls[c].base →
    s.service t = .serving → s.holdsReserved c = false → (s.freeChannels t).head? = some j → s.appendTaken t = true →
    u.calls[c].state = .moving ∧ u.calls[c].tagCounter = nextTag s.calls[c].tagCounter ∧
    u.calls[c].handover = some {
      kind := kind, tryList := rest, target := t, channel := some j, tag := nextTag s.calls[c].tagCounter
      state := .reserving, reserveTimer := some (s.after (s.zoneAt t).reserveLimit), arrivalTimer := none
      oldDropped := false, lastFailure := none, slot := none } ∧
    u.chans = (s.setChan t j (.reserved c (nextTag s.calls[c].tagCounter))).chans ∧
    u.wire = (s.send t (.reserve j c s.roster[s.calls[c].handset].identity (nextTag s.calls[c].tagCounter))).wire) ∧
  (tries ≠ [] → (∀ t ∈ tries, s.freeChannels t = []) →
    u.calls[c].state = .connected ∧ u.calls[c].handover = none ∧ u.calls[c].lastAbort = some .noChannel ∧
      u.chans = s.chans ∧ u.wire = s.wire)

/-- The attempt tag after `n` further reserve requests (R112). -/
def tagAfter : (n : Nat) → AttemptTag → AttemptTag
  | 0, g => g
  | n + 1, g => nextTag (tagAfter n g)

/-- A reserve request for call `c` at base `t` is refused: `t` is not SERVING, is the call's serving base, or has
no FREE channel (R69, R112). -/
def State.refusesReserve (s : State) (c : CallNo) (t : BaseNo) : Prop :=
  s.service t ≠ .serving ∨ t = s.calls[c].base ∨ s.freeChannels t = []

/-- What a failed candidate leaves of the reservation of channel `j` that record `r` of call `c` held: the channel
is FREE and any batch entry gone, the target is offered a RELEASE with the tag unless it refused in RESERVING, and
one abort of the target is counted (R113 steps 2 and 3, R115). -/
def State.reservationLost (s : State) (c : CallNo) (r : Handover) (j : ChanNo) (a : AbortReason) : State :=
  ((((if a = .refused ∧ r.state = .reserving then s else s.send r.target (.release j r.tag)).bumpBase r.target
    .aborts).setChan r.target j .free).setBatch (s.batch.filter fun e => e.call != c))

/-- The attempt of record `r` of call `c` has ended with reason `a` after `n` further reserve requests, all
refused, the last at base `t` with tag `g`: `u` is what it leaves of `s`, with no message sent and nothing counted
(R113 step 5, R124, R128). -/
def State.attemptOver (s u : State) (c : CallNo) (r : Handover) (a : AbortReason) (n : Nat) (t : BaseNo)
    (g : AttemptTag) : Prop :=
  u.calls[c] = { s.calls[c] with
    state := .connected, tagCounter := tagAfter n s.calls[c].tagCounter, handover := none, lastAbort := some a
    hold := if r.kind = .decision ∧ 0 < (s.zoneAt s.calls[c].base).retryHold then
        some (s.after (s.zoneAt s.calls[c].base).retryHold)
      else s.calls[c].hold } ∧
  (∀ d : CallNo, d ≠ c → u.calls[d] = s.calls[d]) ∧
  u.oru = (match r.slot with
    | some i => (s.handBack i ⟨abortVerdict a, t.val, [0, g]⟩).oru
    | none => s.oru) ∧
  { u with calls := s.calls, acu := s.acu, oru := s.oru } = s

/-- The candidate of call `c`, whose record `r` holds channel `j` reserved, fails with a reason, and `u` follows
(R112, R113). The reservation is given up. The candidates left are tried in order, each with the next attempt tag:
those that refuse the reserve request fail NO_CHANNEL, and the first that does not has its lowest FREE channel
RESERVED, is sent RESERVE, and starts the reserve timer. Where its queue refuses the RESERVE and it is the last,
its channel is FREE again, with no RELEASE sent. With none left the attempt ends with the last failure. -/
def State.failsOver (s u : State) (c : CallNo) (r : Handover) (j : ChanNo) (a : AbortReason) : Prop :=
  ∀ g : State, g = s.reservationLost c r j a →
    ((∀ x ∈ r.tryList, g.refusesReserve c x) →
      g.attemptOver u c r (if r.tryList = [] then a else .noChannel) r.tryList.length (r.tryList.getLastD r.target)
        (if r.tryList = [] then r.tag else tagAfter r.tryList.length s.calls[c].tagCounter)) ∧
    ∀ (pre : List BaseNo) (t : BaseNo) (rest : List BaseNo) (k : ChanNo) (tag : AttemptTag),
      r.tryList = pre ++ t :: rest → (∀ x ∈ pre, g.refusesReserve c x) → g.service t = .serving →
      t ≠ s.calls[c].base → g.holdsReserved c = false → (g.freeChannels t).head? = some k →
      tag = tagAfter (pre.length + 1) s.calls[c].tagCounter →
      (g.appendTaken t = true →
        u.calls[c] = { s.calls[c] with
          tagCounter := tag
          handover := some { r with
            tryList := rest, target := t, channel := some k, tag := tag, state := .reserving
            reserveTimer := some (s.after (s.zoneAt t).reserveLimit)
            lastFailure := some (if pre = [] then a else .noChannel) } } ∧
        (∀ d : CallNo, d ≠ c → u.calls[d] = s.calls[d]) ∧
        { u with calls := s.calls, acu := s.acu } =
          (g.setChan t k (.reserved c tag)).send t (.reserve k c s.roster[s.calls[c].handset].identity tag)) ∧
      (g.appendTaken t = false → rest = [] →
        (g.bumpBase t .discards).attemptOver u c r .noChannel (pre.length + 1) t tag)

/-- The roster entry of handset `h` is freed, and `u` follows (R38, R48, R52): every field stands at its start
value and REG is raised; the handset's page is gone, answered FAILED NOT_REGISTERED with detail 0 and its counts,
and counted nowhere; a call of the handset has ended with a reason first; nothing else has changed. -/
def State.freesEntry (s u : State) (h : HandsetNo) (reason : EndReason) : Prop :=
  u.roster[h] = .free ∧ (∃ v, u.acu.handsetMarks[h] = some v ∧ v &&& attnReg = attnReg) ∧
  ∀ t : State,
    (s.roster[h].call = none ∧ t = s ∨
      ∃ c : CallNo, s.roster[h].call = some c ∧ callLive s.calls[c].state = true ∧ s.calls[c].handset = h ∧
        t = s.endCall c reason) →
    (∀ x : HandsetNo, x ≠ h → u.roster[x] = s.roster[x]) ∧ u.pages = s.pages.filter (fun p => p.handset != h) ∧
    (∀ c : CallNo, s.roster[h].call = some c →
      u.calls[c].state = .ended ∧ u.calls[c].endReason = some reason) ∧
    u.oru = (match s.pageOf h with
      | some p => (t.handBack p.slot ⟨.failed .notRegistered, 0, pageData p 0⟩).oru
      | none => t.oru) ∧
    { u with roster := s.roster, pages := s.pages, oru := s.oru } =
      { t.markHandset h attnReg with roster := s.roster, pages := s.pages, oru := s.oru }

/-- A field of `n` bytes at an offset of a record or result, least significant byte first (R146). -/
def fieldAt (l : List Byte) (offset n : Nat) : Nat :=
  ((l.drop offset).take n).foldr (fun b k => b.toNat + 256 * k) 0

/-- A parameter whose range is `lo..hi` is read as `v` where exchange memory gives `n`: the value itself within the
range, its nearest end outside it. -/
def readAs (lo hi n v : Nat) : Prop := (n < lo → v = lo) ∧ (lo ≤ n → n ≤ hi → v = n) ∧ (hi < n → v = hi)

/-- How many of the byte fields of a plan record lie outside their range, each field given by its offset and the
ends of its range. -/
def outOfRange (w : BitVec 256) (fields : List (Nat × Nat × Nat)) : Nat :=
  (fields.filter fun f => decide (byteNat w f.1 < f.2.1 ∨ f.2.2 < byteNat w f.1)).length

/-- The access in progress is of a kind. -/
def State.accessing (s : State) (k : AccessKind) : Prop := s.accessKind = some k

end Sys2Proof.Machine

namespace Sys2Proof

/-- A message, a timer's expiry, a frame mark with its work, or an order: what the part takes only in
RUNNING and outside a halt (R1, R4, R161). The other commands are completions of exchange-memory
accesses, bus errors, and writes of the register window. -/
def Instr.servingOnly : Instr → Bool
  | .hello _ _ _ | .ready _ | .beacon _ | .malformedMessage _ | .accept _ | .defer _ => true
  | .attach _ _ | .refresh _ _ _ | .detach _ _ | .callRequest _ _ _ | .callEnd _ _ | .channelDropped _ _ => true
  | .levelReport _ _ _ _ _ | .reserveAnswer _ _ _ _ _ _ | .arrived _ _ _ _ | .pageAnswer _ _ => true
  | .frameMark | .joinTimerExpiry _ | .silenceTimerExpiry _ | .headRetransmit _ | .headAnswerTimeout _ => true
  | .lifetimeExpiry _ | .roundTimerExpiry _ | .reserveTimerExpiry _ | .arrivalTimerExpiry _ => true
  | .settleTimerExpiry _ | .holdTimerExpiry _ | .switchBatchDelivery | .drainLimitExpiry _ | .orderIntake => true
  | .deregister _ _ | .page _ _ | .cancel _ _ | .clearCall _ _ | .forceMove _ _ _ | .drainBase _ _ _ => true
  | .stopBase _ _ | .startBase _ _ | .blockChannel _ _ _ | .unblockChannel _ _ _ | .amendPlan _ _ | .snapshot _ _ => true
  | .accessTimeout | .busError => false
  | .subscriptionCountReadDone _ | .subscriptionEntryReadDone _ | .postedCountReadDone _ | .ownerByteReadDone _ => false
  | .slotReadDone _ | .takenWriteDone | .resultWriteDone | .answeredWriteDone | .planRecordReadDone _ => false
  | .recordWriteDone | .attentionByteAccessDone _ | .summaryByteAccessDone _ | .counterWriteDone => false
  | .startupHeaderReadDone _ | .startupPlanReadDone _ | .startupZeroWriteDone | .startupSlotScanReadDone _ => false
  | .startCountAccessDone _ => false
  | .runSet _ | .runClear _ | .restart | .xbaseWrite _ | .attnClear | .registerWrite _ _ | .resetPin => false

end Sys2Proof
end

