-- ==== Sys2Proof/Certificates/Slice0/Obligations.lean ====
section
/-! DEFINITION. The statements about the MC48 for the provers. Each holds of every state, reached by a run
or not; the docstrings cite the rules of spec/ and name the log entry where a clause is the model's own
choice. -/

open Sys2Proof Sys2Proof.Machine

/-! ### The block as a whole -/

/-- A step takes the command at the front of the queue and runs it with the queue's rest; on an empty queue the block
idles. The queue is the model's (log entry 12). -/
def Obligations.StepTakesFrontCommand : Prop :=
  (∀ (c : Instr) (r : List Instr) (s : State), step (s.withPending (c :: r)) = exec c (s.withPending r)) ∧
    ∀ s : State, step (s.withPending []) = .next (s.withPending [])

/-- Every command completes in every state and leaves the commands that wait as they are, but for a write at an offset
that is no word of the register window (9.1). That a command whose condition does not hold completes without effect is
the model's choice (log entry 7), and so are the queue of waiting commands (log entry 12) and the fault (log entry
15). -/
def Obligations.EveryCommandCompletes : Prop :=
  ∀ (c : Instr) (s : State),
    (∃ t, exec c s = .next t ∧ t.pending = s.pending) ∨
      ∃ offset value, c = .registerWrite offset value ∧ ¬(offset < 32 ∧ offset % 4 = 0) ∧
        exec c s = .fault .outsideWindow

/-- No command makes the part transmit anything while it is HALTED, STARTING or FAULTED; and outside RUNNING, or
during a halt, a message, a timer's expiry, a frame mark or an order changes nothing: the event only lets the arbiter
and the halt go on (R1, R4, R161). The part serves exactly in RUNNING outside a halt. -/
def Obligations.NothingTakenOutsideRunning : Prop :=
  (∀ s : State, s.serves = true ↔ s.regs.part = .running ∧ s.regs.halting = false) ∧
  (∀ (c : Instr) (s t : State), s.regs.part ≠ .running → exec c s = .next t → t.wire = s.wire) ∧
  (∀ (c : Instr) (s : State), c.servingOnly = true → s.serves = false → exec c s = .next s.settle)

/-! ### Base links (Chapter 1) -/

/-- HELLO by the service state of its link (R8). In ABSENT the queue is empty (R13, Link.ok). -/
def Obligations.HelloActsByServiceState : Prop :=
  ∀ (b : BaseNo) (announced : ReportedBase) (capacity : Nat) (s : State), s.serves = true → capacity ≤ 8 →
    (announced.val ≠ b.val → exec (.hello b announced capacity) s = .next (s.bump .malformed).settle) ∧
    (announced.val = b.val →
      (s.service b = .absent → s.links[b].enabled = true → 1 ≤ capacity → s.links[b].queue = [] →
        exec (.hello b announced capacity) s =
          .next ((s.updLink b fun l => { l with
              service := .joining
              effCount := min l.planCount capacity
              joinTimer := some (s.after s.plan.header.joinLimit)
              silenceTimer := some (s.after s.plan.header.silenceLimit)
              queue := [.setup l.zone (min l.planCount capacity) 0]
              head := some ⟨.awaitingAnswer, 0, s.now⟩ }).transmit b
            (.setup s.links[b].zone (min s.links[b].planCount capacity) (s.now.setWidth 16))).settle) ∧
      (s.service b = .absent → s.links[b].enabled = false ∨ capacity = 0 →
        exec (.hello b announced capacity) s =
          .next ((s.updLink b fun l => { l with queue := [], head := none }).transmit b .stop).settle) ∧
      (s.service b = .joining →
        exec (.hello b announced capacity) s =
          .next (s.updLink b fun l => { l with silenceTimer := some (s.after s.plan.header.silenceLimit) }).settle) ∧
      (s.service b = .serving ∨ s.service b = .draining →
        exec (.hello b announced capacity) s = .next (s.baseLost b).settle) ∧
      (s.service b = .stopped → exec (.hello b announced capacity) s = .next (s.bump .stale).settle))

/-- READY makes a base JOINING SERVING and raises LINK; from one SERVING or DRAINING it restarts the silence timer and
is stale. BEACON restarts the silence timer and does nothing else. From a link ABSENT or STOPPED both are stale, and
so is every traffic message, which restarts no timer; from a link JOINING a REFRESH or DETACH restarts the silence
timer and is stale (R7, R22). A malformed message is counted and does nothing else; that a HELLO or LEVEL REPORT with
a field outside its range may come as its own command is the model's (log entry 13). (R6, R7, R9) -/
def Obligations.ReadyAndBeaconByServiceState : Prop :=
  (∀ (b : BaseNo) (s : State), s.restartSilence b =
      if linkActive (s.service b) then
        s.updLink b fun l => { l with silenceTimer := some (s.after s.plan.header.silenceLimit) }
      else s) ∧
  (∀ (b : BaseNo) (s : State), s.serves = true →
      (s.service b = .joining →
        exec (.ready b) s =
          .next ((s.updLink b fun l => { l with
            service := .serving, joinTimer := none
            silenceTimer := some (s.after s.plan.header.silenceLimit) }).pendBase b attnLink).settle) ∧
      (s.service b = .serving ∨ s.service b = .draining →
        exec (.ready b) s =
          .next ((s.updLink b fun l => { l with
            silenceTimer := some (s.after s.plan.header.silenceLimit) }).bump .stale).settle) ∧
      (s.service b = .absent ∨ s.service b = .stopped → exec (.ready b) s = .next (s.bump .stale).settle)) ∧
  (∀ (b : BaseNo) (s : State), s.serves = true →
      (linkActive (s.service b) = true →
        exec (.beacon b) s =
          .next (s.updLink b fun l => { l with silenceTimer := some (s.after s.plan.header.silenceLimit) }).settle) ∧
      (s.service b = .absent ∨ s.service b = .stopped → exec (.beacon b) s = .next (s.bump .stale).settle)) ∧
  (∀ (b : BaseNo) (s : State), s.serves = true → s.service b = .absent ∨ s.service b = .stopped →
      (∀ i, exec (.attach b i) s = .next (s.bump .stale).settle) ∧
      (∀ h check, exec (.refresh b h check) s = .next (s.bump .stale).settle) ∧
      (∀ h, exec (.detach b h) s = .next (s.bump .stale).settle) ∧
      (∀ h paged, exec (.callRequest b h paged) s = .next (s.bump .stale).settle) ∧
      (∀ k, exec (.callEnd b k) s = .next (s.bump .stale).settle) ∧
      (∀ k, exec (.channelDropped b k) s = .next (s.bump .stale).settle) ∧
      (∀ k level errors pairs, pairs.length ≤ 4 →
        exec (.levelReport b k level errors pairs) s = .next (s.bump .stale).settle) ∧
      (∀ j c g v reason, exec (.reserveAnswer b j c g v reason) s = .next (s.bump .stale).settle) ∧
      (∀ j c g, exec (.arrived b j c g) s = .next (s.bump .stale).settle) ∧
      ∀ h, exec (.pageAnswer b h) s = .next (s.bump .stale).settle) ∧
  (∀ (b : BaseNo) (s : State), s.serves = true → s.service b = .joining →
      (∀ h check, exec (.refresh b h check) s = .next ((s.restartSilence b).bump .stale).settle) ∧
      ∀ h, exec (.detach b h) s = .next ((s.restartSilence b).bump .stale).settle) ∧
  (∀ (b : BaseNo) (s : State), s.serves = true →
      exec (.malformedMessage b) s = .next (s.bump .malformed).settle ∧
      (∀ announced capacity, 8 < capacity →
        exec (.hello b announced capacity) s = .next (s.bump .malformed).settle) ∧
      ∀ k level errors pairs, 4 < pairs.length →
        exec (.levelReport b k level errors pairs) s = .next (s.bump .malformed).settle)

/-- An append is taken from a link that carries messages while its queue holds fewer than 16; into an empty queue it
becomes the head and is transmitted at once; a refused append is counted and not kept (R13). A SETUP goes out with the
low 16 bits of the frame count, any other message as it stands (R14). -/
def Obligations.AppendTakenOrRefused : Prop :=
  ([Service.absent, .joining, .serving, .draining, .stopped].map linkActive = [false, true, true, true, false]) ∧
  (∀ (now : FrameCount) (m : Downlink),
      (∀ z n f, m = .setup z n f → stampMessage now m = .setup z n (now.setWidth 16)) ∧
      ((∀ z n f, m ≠ .setup z n f) → stampMessage now m = m)) ∧
  (∀ (s : State) (b : BaseNo) (m : Downlink) (f : Link → Link),
      s.service b = s.links[b].service ∧ s.updLink b f = { s with links := s.links.set b (f s.links[b]) } ∧
      s.transmit b m = { s with wire := s.wire ++ [⟨b, m⟩] } ∧ s.send b m = (s.append b m).1 ∧
      (s.appendTaken b = true ↔ linkActive (s.service b) = true ∧ s.links[b].queue.length < 16)) ∧
  ∀ (s : State) (b : BaseNo) (m : Downlink),
    (linkActive (s.service b) = true → s.links[b].queue = [] →
      s.append b m =
        ((s.updLink b fun l => { l with queue := [m], head := some ⟨.awaitingAnswer, 0, s.now⟩ }).transmit b
          (stampMessage s.now m), true)) ∧
    (linkActive (s.service b) = true → s.links[b].queue ≠ [] → s.links[b].queue.length < 16 →
      s.append b m = (s.updLink b fun l => { l with queue := l.queue ++ [m] }, true)) ∧
    (linkActive (s.service b) = false ∨ 16 ≤ s.links[b].queue.length →
      s.append b m = (s.bumpBase b .discards, false))

/-- An ACCEPT of a head AWAITING ANSWER removes it, and the next message becomes the head and is transmitted with a
fresh retry state; an ACCEPT of anything else only restarts the silence timer; one from a link ABSENT or STOPPED is
disregarded (R7, R14). -/
def Obligations.AcceptRemovesTheHead : Prop :=
  ∀ (b : BaseNo) (s : State), s.serves = true →
    (linkActive (s.service b) = true → ∀ n f, s.links[b].head = some ⟨.awaitingAnswer, n, f⟩ →
      (∀ m, s.links[b].queue = [m] →
        exec (.accept b) s =
          .next (s.updLink b fun l => { l with
            silenceTimer := some (s.after s.plan.header.silenceLimit), queue := [], head := none }).settle) ∧
      ∀ m m' r, s.links[b].queue = m :: m' :: r →
        exec (.accept b) s =
          .next ((s.updLink b fun l => { l with
            silenceTimer := some (s.after s.plan.header.silenceLimit)
            queue := m' :: r
            head := some ⟨.awaitingAnswer, 0, s.now⟩ }).transmit b (stampMessage s.now m')).settle) ∧
    (linkActive (s.service b) = true →
      s.links[b].head = none ∨ (∃ f n g, s.links[b].head = some ⟨.awaitingMark f, n, g⟩) →
      exec (.accept b) s =
        .next (s.updLink b fun l => { l with silenceTimer := some (s.after s.plan.header.silenceLimit) }).settle) ∧
    (linkActive (s.service b) = false → exec (.accept b) s = .next s.settle)

/-- A DEFER, or a second mark without an answer, counts and uses up one retry; the head is transmitted again at the
next mark, or at that second mark; with no retry left the retry action applies: DISCARD drops the head, counts it and
transmits the next message as a fresh head, DECLARE LOST loses the base (R15, R16). The retry limits are 2, 4, 16 and
64 (R3). A DEFER that answers nothing only restarts the silence timer, and one from a link ABSENT or STOPPED is
disregarded (R7, R14). -/
def Obligations.DeferredHeadIsRetriedOrGivenUp : Prop :=
  (∀ (b : BaseNo) (s : State), s.serves = true →
      (linkActive (s.service b) = true →
        s.links[b].head = none ∨ (∃ f n g, s.links[b].head = some ⟨.awaitingMark f, n, g⟩) →
        exec (.defer b) s =
          .next (s.updLink b fun l => { l with silenceTimer := some (s.after s.plan.header.silenceLimit) }).settle) ∧
      (linkActive (s.service b) = false → exec (.defer b) s = .next s.settle)) ∧
  (∀ (b : BaseNo) (s : State), s.serves = true → linkActive (s.service b) = true →
      (∀ n f, s.links[b].head = some ⟨.awaitingAnswer, n, f⟩ →
        (n < retryLimit s.plan.header.retryCode →
          exec (.defer b) s =
            .next (((s.restartSilence b).bumpBase b .defers).updLink b fun l => { l with
              head := some ⟨.awaitingMark s.now, n + 1, f⟩ }).settle) ∧
        (retryLimit s.plan.header.retryCode ≤ n →
          exec (.defer b) s = .next (((s.restartSilence b).bumpBase b .defers).retryAction b).settle) ∧
        (s.now = f + 2 → n < retryLimit s.plan.header.retryCode → ∀ m r, s.links[b].queue = m :: r →
          exec (.headAnswerTimeout b) s =
            .next (((s.bumpBase b .defers).updLink b fun l => { l with
              head := some ⟨.awaitingAnswer, n + 1, s.now⟩ }).transmit b (stampMessage s.now m)).settle) ∧
        (s.now = f + 2 → retryLimit s.plan.header.retryCode ≤ n →
          exec (.headAnswerTimeout b) s = .next ((s.bumpBase b .defers).retryAction b).settle)) ∧
      (∀ f n g, s.links[b].head = some ⟨.awaitingMark f, n, g⟩ → s.now = f + 1 →
        ∀ m r, s.links[b].queue = m :: r →
          exec (.headRetransmit b) s =
            .next ((s.updLink b fun l => { l with
              head := some ⟨.awaitingAnswer, n, s.now⟩ }).transmit b (stampMessage s.now m)).settle)) ∧
  ((retryLimit 0 = 2 ∧ retryLimit 1 = 4 ∧ retryLimit 2 = 16 ∧ retryLimit 3 = 64) ∧
    ∀ (b : BaseNo) (s : State),
      (s.plan.header.retryAction = .discard →
        (∀ m, s.links[b].queue = [m] →
          s.retryAction b = (s.bumpBase b .discards).updLink b fun l => { l with queue := [], head := none }) ∧
        ∀ m m' r, s.links[b].queue = m :: m' :: r →
          s.retryAction b =
            ((s.bumpBase b .discards).updLink b fun l => { l with
              queue := m' :: r, head := some ⟨.awaitingAnswer, 0, s.now⟩ }).transmit b (stampMessage s.now m')) ∧
      (s.plan.header.retryAction = .declareLost → s.retryAction b = s.baseLost b))

/-- The join timer makes a base ABSENT with no loss counted and no attention; the silence timer loses the base; a loss
leaves the link ABSENT with its timers stopped and its queue empty, one more link loss and LINK raised, zone and
channel counts kept (R9, R10, R12). A drain in flight on the base is answered FAILED BASE_LOST with the number of
calls the loss ends and the record's counts, before any answer that the loss brings with it, and its record is gone
(R142). -/
def Obligations.LinkTimersExpireAndLossClosesTheLink : Prop :=
  (∀ (b : BaseNo) (s : State), s.serves = true →
      (s.service b = .joining → s.links[b].joinTimer = some s.now →
        exec (.joinTimerExpiry b) s =
          .next (s.updLink b fun l => { l with
            service := .absent, joinTimer := none, silenceTimer := none, queue := [], head := none }).settle) ∧
      (linkActive (s.service b) = true → s.links[b].silenceTimer = some s.now →
        exec (.silenceTimerExpiry b) s = .next (s.baseLost b).settle)) ∧
  (∀ (b : BaseNo) (s : State),
      (s.baseLost b).links[b] =
        { s.links[b] with service := .absent, joinTimer := none, silenceTimer := none, queue := [], head := none } ∧
      (s.baseLost b).baseCount b .losses = satSucc (s.baseCount b .losses) ∧
      (s.baseLost b).acu.basePending[b] &&& attnLink = attnLink ∧ (s.baseLost b).drains[b] = none ∧
      ∀ d, s.drains[b] = some d →
        ∃ l, (s.baseLost b).oru.queue =
          s.oru.queue ++ [.resultWrite d.slot ⟨.failed .baseLost, (s.servedBy b).length, drainData d⟩,
            .answeredWrite d.slot] ++ l)

/-! ### The roster (Chapter 2) -/

/-- A re-attach: the entry is located at the base, its attach and last-heard frames are now, its lifetime is renewed,
it keeps all else, and ACCEPT is appended and counted; where the queue refuses the ACCEPT it is omitted, the attach is
counted dropped, and the entry's changes stand. A call of the handset ends REATTACH first, and the entry then holds no
call; the ACCEPT follows the messages of that end (R24). -/
def Obligations.ReattachRenewsTheEntry : Prop :=
  ∀ (b : BaseNo) (i : Identity) (h : HandsetNo) (s : State), s.carries b → s.registeredWith i = some h →
    (s.roster[h].call = none →
      ∃ u : State, exec (.attach b i) s = .next u.settle ∧
        u.roster[h] = { s.roster[h] with
          lastBase := b, lastZone := s.links[b].zone, attachFrame := s.now, heardFrame := s.now
          expiry := some (s.after (s.lifetime s.roster[h].cls)) } ∧
        (∀ x : HandsetNo, x ≠ h → u.roster[x] = s.roster[x]) ∧
        u.acu.handsetMarks[h] =
          some (s.acu.handsetMarks[h].getD 0 ||| if s.roster[h].lastBase = b then 0 else attnLoc) ∧
        (s.appendTaken b = true →
          u.counters = (s.bump .accepted).counters ∧
          { u with roster := s.roster, counters := s.counters, acu := s.acu } =
            (s.restartSilence b).send b (.attachAnswer i (.accept h))) ∧
        (s.appendTaken b = false →
          u.counters = ((s.bumpBase b .discards).bump .dropped).counters ∧
          { u with roster := s.roster, counters := s.counters, acu := s.acu } = s.restartSilence b)) ∧
    ∀ c : CallNo, s.roster[h].call = some c → callLive s.calls[c].state = true → s.calls[c].handset = h →
      ∃ t u : State, t = (s.restartSilence b).endCall c .reattach ∧
        t.calls[c].state = .ended ∧ t.calls[c].endReason = some .reattach ∧
        u.roster[h] = { s.roster[h] with
          lastBase := b, lastZone := s.links[b].zone, attachFrame := s.now, heardFrame := s.now
          expiry := some (s.after (s.lifetime s.roster[h].cls)), call := none } ∧
        (∀ x : HandsetNo, x ≠ h → u.roster[x] = s.roster[x]) ∧
        (∃ v, u.acu.handsetMarks[h] = some v ∧ v &&& attnCall = attnCall ∧
          (s.roster[h].lastBase ≠ b → v &&& attnLoc = attnLoc)) ∧
        { u with roster := s.roster, acu := s.acu } = { t with roster := s.roster, acu := s.acu } ∧
        (u.appendTaken b = true →
          exec (.attach b i) s = .next ((u.send b (.attachAnswer i (.accept h))).bump .accepted).settle) ∧
        (u.appendTaken b = false →
          exec (.attach b i) s = .next ((u.bumpBase b .discards).bump .dropped).settle)

/-- An ATTACH for an identity not in the roster: it merges into its pending record, or is answered AGAIN where 8 are
pending, or joins the list, whose first record's lookup begins; from a base JOINING it is stale (R22, R23, R25 to
R27). The roster search compares the identities of REGISTERED entries only. -/
def Obligations.AttachOfAnUnknownHandset : Prop :=
  (∀ (s : State) (i : Identity),
      (∀ h, s.registeredWith i = some h → s.roster[h].registered = true ∧ s.roster[h].identity = i) ∧
      (s.registeredWith i = none ↔ ∀ h : HandsetNo, s.roster[h].registered = true → s.roster[h].identity ≠ i)) ∧
  ∀ (b : BaseNo) (i : Identity) (s : State), s.serves = true →
    (s.service b = .joining → exec (.attach b i) s = .next ((s.restartSilence b).bump .stale).settle) ∧
    (s.carries b → s.registeredWith i = none →
      ((∃ r ∈ s.attaches, r.identity = i) →
        exec (.attach b i) s =
          .next ((s.restartSilence b).setAttaches
            (s.attaches.map fun r => if r.identity = i then ⟨i, b, r.arrival⟩ else r) s.lookup).settle) ∧
      ((∀ r ∈ s.attaches, r.identity ≠ i) → 8 ≤ s.attaches.length →
        exec (.attach b i) s =
          .next (((s.restartSilence b).send b (.attachAnswer i .again)).bump .again).settle) ∧
      ((∀ r ∈ s.attaches, r.identity ≠ i) → 0 < s.attaches.length → s.attaches.length < 8 →
        exec (.attach b i) s =
          .next ((s.restartSilence b).setAttaches (s.attaches ++ [⟨i, b, s.now⟩]) s.lookup).settle) ∧
      (s.attaches = [] →
        exec (.attach b i) s = .next ((s.restartSilence b).setAttaches [⟨i, b, s.now⟩] (some .count)).settle))

/-- A REFRESH whose check agrees renews the entry and locates it; any other is answered AGAIN with the check in the
low 16 bits of its identity (R32). -/
def Obligations.RefreshRenewsOrAnswersAgain : Prop :=
  ∀ (b : BaseNo) (h : HandsetNo) (check : BitVec 16) (s : State), s.carries b →
    (s.roster[h].registered = true → s.roster[h].check = check →
      ∃ u : State, exec (.refresh b h check) s = .next u.settle ∧
        u.roster[h] = { s.roster[h] with
          heardFrame := s.now
          expiry := if s.roster[h].call.isSome then none else some (s.after (s.lifetime s.roster[h].cls))
          lastBase := b
          lastZone := if s.roster[h].lastBase = b then s.roster[h].lastZone else s.links[b].zone } ∧
        (∀ x : HandsetNo, x ≠ h → u.roster[x] = s.roster[x]) ∧
        u.acu.handsetMarks[h] =
          some (s.acu.handsetMarks[h].getD 0 ||| if s.roster[h].lastBase = b then 0 else attnLoc) ∧
        { u with roster := s.roster, acu := s.acu } = s.restartSilence b) ∧
    (s.roster[h].registered = false ∨ s.roster[h].check ≠ check →
      exec (.refresh b h check) s =
        .next (((s.restartSilence b).send b (.attachAnswer (check.setWidth 40) .again)).bump .again).settle)

/-- DETACH and the lifetime's expiry free the entry: every field at its start value, no page left, REG raised, one
more detach or lapse; nothing else of the roster changes, nor any call, where the handset has no call (R38, R39). A
page of the handset is answered FAILED NOT_REGISTERED with detail 0 and its counts, and counted neither found nor not
found (R48, R52); a call of the handset ends DETACHED first (R39). A DETACH of a FREE entry is stale. -/
def Obligations.DetachAndLapseFreeTheEntry : Prop :=
  ∀ (h : HandsetNo) (s : State), s.serves = true →
    (s.roster[h].registered = true → s.roster[h].expiry = some s.now → s.roster[h].call = none →
      ∃ u : State, exec (.lifetimeExpiry h) s = .next u.settle ∧
        u.roster[h] = RosterEntry.free ∧ (∀ x : HandsetNo, x ≠ h → u.roster[x] = s.roster[x]) ∧
        (∀ p : PageRecord, p ∈ u.pages → p.handset ≠ h) ∧
        u.counters = (s.bump .lapses).counters ∧
        (∃ v, u.acu.handsetMarks[h] = some v ∧ v &&& attnReg = attnReg) ∧
        { u with roster := s.roster, pages := s.pages, counters := s.counters, acu := s.acu, oru := s.oru } = s ∧
        ∃ v : State, u = v.bump .lapses ∧ s.freesEntry v h .detached) ∧
    ∀ b : BaseNo, s.carries b →
      (s.roster[h].registered = true →
        ∃ u : State, exec (.detach b h) s = .next u.settle ∧
          u.roster[h] = RosterEntry.free ∧ (∀ p : PageRecord, p ∈ u.pages → p.handset ≠ h) ∧
          u.globalCount .detaches = satSucc (s.globalCount .detaches) ∧
          (∃ v, u.acu.handsetMarks[h] = some v ∧ v &&& attnReg = attnReg) ∧
          (s.roster[h].call = none →
            (∀ x : HandsetNo, x ≠ h → u.roster[x] = s.roster[x]) ∧
              u.counters = (s.bump .detaches).counters ∧
              { u with roster := s.roster, pages := s.pages, counters := s.counters, acu := s.acu, oru := s.oru } =
                s.restartSilence b) ∧
          ∃ v : State, u = v.bump .detaches ∧ (s.restartSilence b).freesEntry v h .detached) ∧
      (s.roster[h].registered = false →
        exec (.detach b h) s = .next ((s.restartSilence b).bump .stale).settle)

/-- DEREGISTER: of a FREE entry it is refused NOT_REGISTERED; of a REGISTERED one it offers a DETACH to the last base,
frees the entry, counts a detach and is answered DONE (R40). The freeing ends any call DETACHED and answers any page
FAILED NOT_REGISTERED (R38, R48, R52). Detail 0 of DEREGISTER's answers is the model's choice (log entry 24). -/
def Obligations.DeregisterFreesTheEntry : Prop :=
  ∀ (slot : SlotNo) (h : HandsetNo) (s : State), s.offers slot (.deregister h) →
    (s.roster[h].registered = false →
      exec (.deregister slot h) s =
        .next ((s.undispatched.handBack slot ⟨.state .notRegistered, 0, []⟩).scanOn).settle) ∧
    (s.roster[h].registered = true →
      exec (.deregister slot h) s =
        .next (((((s.undispatched.send s.roster[h].lastBase (.detach h)).freeEntry h .detached).bump
          .detaches).handBack slot ⟨.done .ok, 0, []⟩).scanOn).settle ∧
      ((s.undispatched.send s.roster[h].lastBase (.detach h)).freeEntry h .detached).roster[h] = .free ∧
      (s.undispatched.send s.roster[h].lastBase (.detach h)).freesEntry
        ((s.undispatched.send s.roster[h].lastBase (.detach h)).freeEntry h .detached) h .detached)

/-- The subscription search: the RSU reads the subscription count, then the entry at floor((lo + hi) / 2), whole; the
count read sets the bounds, clamped to 2048; each entry read moves one bound past the middle; a count of 0, bounds
that cross, and an equal identity end the lookup (R28). The fields of an entry (Table 9-5), with enabled any value but
0 and PRIORITY class 1 alone (R29). -/
def Obligations.LookupNarrowsItsBounds : Prop :=
  (∀ e : BitVec 128,
      (subscriptionOf e).identity.toNat =
        byteNat e 0 + 256 * byteNat e 1 + 256 ^ 2 * byteNat e 2 + 256 ^ 3 * byteNat e 3 + 256 ^ 4 * byteNat e 4 ∧
      ((subscriptionOf e).enabled = true ↔ byteNat e 5 ≠ 0) ∧
      ((subscriptionOf e).cls = .priority ↔ byteNat e 6 = 1) ∧
      (subscriptionOf e).zoneMask.toNat = byteNat e 8 + 256 * byteNat e 9 ∧
      ∀ z : ZoneNo, inMask (subscriptionOf e).zoneMask z = true ↔
        (byteNat e 8 + 256 * byteNat e 9) / 2 ^ z.val % 2 = 1) ∧
  (∀ s : State,
      (s.serves = true → s.lookup = some .count →
        ∃ t, s.beginFor .rsu = some t ∧ t.port.access = some ⟨.subCount, 0x0002, 2, none⟩ ∧
          { t with port := s.port } = s) ∧
      (s.serves = true → ∀ lo hi, s.lookup = some (.search lo hi) →
        ∃ t, s.beginFor .rsu = some t ∧
          t.port.access = some ⟨.subEntry ((lo + hi) / 2), 0x8000 + 16 * ((lo + hi) / 2), 16, none⟩ ∧
          { t with port := s.port } = s) ∧
      (s.serves = false ∨ s.lookup = none → s.beginFor .rsu = none)) ∧
  ∀ (s : State) (r : PendingAttach) (l : List PendingAttach), s.serves = true → s.attaches = r :: l →
    (s.accessing .subCount → s.lookup = some .count →
      (exec (.subscriptionCountReadDone 0) s =
        .next ((s.completeAccess (0 : BitVec 16)).endLookup none).settle) ∧
      ∀ count : BitVec 16, count ≠ 0 →
        exec (.subscriptionCountReadDone count) s =
          .next ((s.completeAccess count).setAttaches s.attaches (some (.search 0 (min count.toNat 2048 - 1)))).settle) ∧
    ∀ (lo hi pos : Nat) (entry : BitVec 128), s.accessing (.subEntry pos) → s.lookup = some (.search lo hi) →
      ((subscriptionOf entry).identity = r.identity →
        exec (.subscriptionEntryReadDone entry) s =
          .next ((s.completeAccess entry).endLookup (some ((lo + hi) / 2, subscriptionOf entry))).settle) ∧
      ((subscriptionOf entry).identity.toNat < r.identity.toNat →
        ((lo + hi) / 2 + 1 ≤ hi →
          exec (.subscriptionEntryReadDone entry) s =
            .next ((s.completeAccess entry).setAttaches s.attaches (some (.search ((lo + hi) / 2 + 1) hi))).settle) ∧
        (hi < (lo + hi) / 2 + 1 →
          exec (.subscriptionEntryReadDone entry) s = .next ((s.completeAccess entry).endLookup none).settle)) ∧
      (r.identity.toNat < (subscriptionOf entry).identity.toNat →
        (lo + 1 ≤ (lo + hi) / 2 →
          exec (.subscriptionEntryReadDone entry) s =
            .next ((s.completeAccess entry).setAttaches s.attaches (some (.search lo ((lo + hi) / 2 - 1)))).settle) ∧
        ((lo + hi) / 2 < lo + 1 →
          exec (.subscriptionEntryReadDone entry) s = .next ((s.completeAccess entry).endLookup none).settle))

/-- The end of a lookup: its record leaves the list and the next lookup begins; by the first condition that applies it
is dropped, rejected with its reason, or accepted under the lowest FREE number with the entry of R30; a refused ACCEPT
creates nothing (R27, R29, R30). That a base SERVING at the end answers although it was lost or stopped meanwhile is
the model's choice (log entry 23). -/
def Obligations.LookupEndAnswersOnce : Prop :=
  ∀ (s : State) (r : PendingAttach) (l : List PendingAttach), s.attaches = r :: l →
    (s.service r.base ≠ .serving → s.service r.base ≠ .draining → ∀ f,
      s.endLookup f = (s.bump .dropped).setAttaches l (if l = [] then none else some .count)) ∧
    (s.service r.base = .serving ∨ s.service r.base = .draining →
      (s.endLookup none =
        ((s.send r.base (.attachAnswer r.identity .rejectUnknown)).bump .rejected).setAttaches l
          (if l = [] then none else some .count)) ∧
      ∀ (pos : Nat) (e : Subscription),
        (e.enabled = false →
          s.endLookup (some (pos, e)) =
            ((s.send r.base (.attachAnswer r.identity .rejectBarred)).bump .rejected).setAttaches l
              (if l = [] then none else some .count)) ∧
        (e.enabled = true → inMask e.zoneMask s.links[r.base].zone = false →
          s.endLookup (some (pos, e)) =
            ((s.send r.base (.attachAnswer r.identity .rejectZone)).bump .rejected).setAttaches l
              (if l = [] then none else some .count)) ∧
        (e.enabled = true → inMask e.zoneMask s.links[r.base].zone = true →
          ((∀ x : HandsetNo, s.roster[x].registered = true) →
            s.endLookup (some (pos, e)) =
              ((s.send r.base (.attachAnswer r.identity .rejectFull)).bump .rejected).setAttaches l
                (if l = [] then none else some .count)) ∧
          ∀ h : HandsetNo, s.roster[h].registered = false → (∀ x < h, s.roster[x].registered = true) →
            (s.appendTaken r.base = true →
              s.endLookup (some (pos, e)) =
                (((((s.send r.base (.attachAnswer r.identity (.accept h))).updEntry h fun _ => {
                  registered := true, identity := r.identity, check := r.identity.setWidth 16, subIndex := pos
                  cls := e.cls, zoneMask := e.zoneMask, lastBase := r.base, lastZone := s.links[r.base].zone
                  attachFrame := r.arrival, heardFrame := s.now
                  expiry := some (s.after (s.lifetime e.cls)), call := none }).markHandset h attnReg).bump
                    .accepted).setAttaches l (if l = [] then none else some .count))) ∧
            (s.appendTaken r.base = false →
              s.endLookup (some (pos, e)) =
                ((s.bumpBase r.base .discards).bump .dropped).setAttaches l (if l = [] then none else some .count))))

/-- The requests of other blocks to the roster: location, heard, call bind and call unbind, with what each refuses or
disregards (R33, R34, R36, R37). The lifetime of a handset is its class's lifetime code times 1000 frames (R21), and a
timer of L frames expires L marks after the present frame count, modulo 2^32 (R5). -/
def Obligations.RosterRequests : Prop :=
  (∀ s : State,
      s.lifetime .standard = s.plan.header.standardLife * 1000 ∧
      s.lifetime .priority = s.plan.header.priorityLife * 1000 ∧
      s.now = s.regs.frame ∧ ∀ l : Nat, (s.after l).toNat = (s.now.toNat + l) % 2 ^ 32) ∧
  (∀ (s : State) (h : HandsetNo) (f : RosterEntry → RosterEntry) (l : List PendingAttach) (k : Option Lookup),
      s.updEntry h f = { s with roster := s.roster.set h (f s.roster[h]) } ∧
      s.setAttaches l k = { s with attaches := l, lookup := k }) ∧
  ∀ (s : State) (h : HandsetNo),
    (s.roster[h].registered = true →
      (∀ b : BaseNo, s.locate h b =
        (s.updEntry h fun e => { e with lastBase := b, lastZone := s.links[b].zone }).markHandset h
          (if s.roster[h].lastBase = b then 0 else attnLoc)) ∧
      s.heard h = (s.updEntry h fun e => { e with heardFrame := s.now }).markHandset h 0 ∧
      (s.roster[h].call = none → s.unbindCall h = s ∧ ∀ c : CallNo,
        s.bindCall h c = (s.updEntry h fun e => { e with call := some c, expiry := none }).markHandset h attnCall) ∧
      ∀ c : CallNo, s.roster[h].call = some c →
        s.unbindCall h =
          (s.updEntry h fun e => { e with call := none, expiry := some (s.after (s.lifetime e.cls)) }).markHandset h
            attnCall ∧
        ∀ d : CallNo, s.bindCall h d = s) ∧
    (s.roster[h].registered = false →
      s.heard h = s ∧ s.unbindCall h = s ∧ (∀ b : BaseNo, s.locate h b = s) ∧ ∀ c : CallNo, s.bindCall h c = s)

/-! ### Paging (Chapter 3) -/

/-- A PAGE order: refused by the first check of R45 that applies (detail 0 is the model's choice, log entry 24);
otherwise one record is created and its first round made at once: every SERVING base of the first zone, in ascending
order, is offered the PAGE and counted as appended or skipped (R44 to R46). -/
def Obligations.PageOrderStartsOrIsRefused : Prop :=
  (∀ (s : State) (h : HandsetNo) (l : List PageRecord),
      s.pageOf h = (s.pages.find? fun p => p.handset == h) ∧ s.setPages l = { s with pages := l }) ∧
  ∀ (slot : SlotNo) (h : HandsetNo) (s : State), s.offers slot (.page h) →
    (s.roster[h].registered = false →
      exec (.page slot h) s = .next ((s.undispatched.handBack slot ⟨.state .notRegistered, 0, []⟩).scanOn).settle) ∧
    (s.roster[h].registered = true →
      (s.roster[h].call.isSome = true →
        exec (.page slot h) s = .next ((s.undispatched.handBack slot ⟨.state .inCall, 0, []⟩).scanOn).settle) ∧
      (s.roster[h].call = none →
        ((∃ p ∈ s.pages, p.handset = h) →
          exec (.page slot h) s = .next ((s.undispatched.handBack slot ⟨.state .busy, 0, []⟩).scanOn).settle) ∧
        ((∀ p : PageRecord, p ∈ s.pages → p.handset ≠ h) →
          (16 ≤ s.pages.length →
            exec (.page slot h) s =
              .next ((s.undispatched.handBack slot ⟨.state .congested, 0, []⟩).scanOn).settle) ∧
          (s.pages.length < 16 →
            (s.zoneSequence h = [] →
              exec (.page slot h) s =
                .next ((s.undispatched.handBack slot ⟨.state .noService, 0, []⟩).scanOn).settle) ∧
            ∀ z r, s.zoneSequence h = z :: r →
              ∃ (u : State) (p : PageRecord), exec (.page slot h) s = .next u.scanOn.settle ∧
                u.pages = s.pages ++ [p] ∧ p.handset = h ∧ p.slot = slot ∧ p.zones = z :: r ∧
                p.roundsLeft = (if z = s.roster[h].lastZone then s.plan.header.homeRounds - 1 else 0) ∧
                p.nextRound = s.after s.plan.header.pageSpacing ∧ p.roundsMade = 1 ∧
                p.appended + p.skipped = (s.roundBases z).length ∧
                p.appended = (s.roundTaken z).length ∧ p.skipped = (s.roundSkipped z).length ∧
                (∀ b, b ∈ s.roundBases z ↔ s.service b = .serving ∧ s.links[b].zone = z) ∧
                (s.roundBases z).Pairwise (· < ·) ∧ s.pagedRound u h z ∧
                { u with pages := s.pages, links := s.links, counters := s.counters, wire := s.wire } =
                  s.undispatched))))

/-- The zones of a page: those of the handset's mask with a SERVING base, each once, from the home zone upward and
round (R44). -/
def Obligations.ZoneSequenceFromHome : Prop :=
  ∀ (s : State) (h : HandsetNo),
    (∀ z, z ∈ s.zoneSequence h ↔
      inMask s.roster[h].zoneMask z = true ∧ ∃ b : BaseNo, s.service b = .serving ∧ s.links[b].zone = z) ∧
    (s.zoneSequence h).Pairwise fun x y =>
      (x.val + 16 - s.roster[h].lastZone.val) % 16 < (y.val + 16 - s.roster[h].lastZone.val) % 16

/-- The round timer of a page: a further round in the zone while rounds are left, then a round in the next zone, then
the end NOT_FOUND (R47, R48). A round offers the PAGE to the SERVING bases of its zone and adds to the record's counts
of pages appended and bases skipped, also where the zone has no such base left (R46). -/
def Obligations.RoundTimerPagesOn : Prop :=
  ∀ (h : HandsetNo) (s : State) (p : PageRecord) (z : ZoneNo) (r : List ZoneNo), s.serves = true →
    s.pageOf h = some p → p.nextRound = s.now → p.zones = z :: r →
    (0 < p.roundsLeft →
      ∃ u : State, exec (.roundTimerExpiry h) s = .next u.settle ∧
        (∃ q, u.pageOf h = some q ∧ q.zones = z :: r ∧ q.roundsLeft = p.roundsLeft - 1 ∧
          q.roundsMade = p.roundsMade + 1 ∧ q.slot = p.slot ∧ q.nextRound = s.after s.plan.header.pageSpacing ∧
          q.appended = countUp (s.roundTaken z).length p.appended ∧
          q.skipped = countUp (s.roundSkipped z).length p.skipped) ∧
        s.pagedRound u h z ∧
        { u with pages := s.pages, links := s.links, counters := s.counters, wire := s.wire } = s) ∧
    (p.roundsLeft = 0 →
      (∀ y l, r = y :: l →
        ∃ u : State, exec (.roundTimerExpiry h) s = .next u.settle ∧
          (∃ q, u.pageOf h = some q ∧ q.zones = y :: l ∧ q.roundsLeft = 0 ∧ q.roundsMade = p.roundsMade + 1 ∧
            q.slot = p.slot ∧ q.nextRound = s.after s.plan.header.pageSpacing ∧
            q.appended = countUp (s.roundTaken y).length p.appended ∧
            q.skipped = countUp (s.roundSkipped y).length p.skipped) ∧
          s.pagedRound u h y ∧
          { u with pages := s.pages, links := s.links, counters := s.counters, wire := s.wire } = s) ∧
      (r = [] →
        exec (.roundTimerExpiry h) s =
          .next (((s.handBack p.slot ⟨.failed .notFound, 0, pageData p 0⟩).setPages
            (s.pages.filter fun q => q.handset != h)).bump .pagesNotFound).settle))

/-- A PAGE ANSWER by the first case that applies: stale from a base JOINING or for a FREE entry; with a page, the
handset is located, its lifetime renewed and the page ends DONE ANSWERED; without one, it is located and nothing more.
The last-heard frame is not set (R49). -/
def Obligations.PageAnswerLocatesTheHandset : Prop :=
  ∀ (b : BaseNo) (h : HandsetNo) (s : State), s.serves = true →
    (s.service b = .joining → exec (.pageAnswer b h) s = .next ((s.restartSilence b).bump .stale).settle) ∧
    (s.carries b →
      (s.roster[h].registered = false →
        exec (.pageAnswer b h) s = .next ((s.restartSilence b).bump .stale).settle) ∧
      (s.roster[h].registered = true →
        (∀ p, s.pageOf h = some p →
          ∃ u : State, exec (.pageAnswer b h) s = .next u.settle ∧
            u.roster[h] = { s.roster[h] with
              lastBase := b, lastZone := s.links[b].zone
              expiry := if s.roster[h].call.isSome then none else some (s.after (s.lifetime s.roster[h].cls)) } ∧
            (∀ x : HandsetNo, x ≠ h → u.roster[x] = s.roster[x]) ∧
            u.acu.handsetMarks[h] =
              some (s.acu.handsetMarks[h].getD 0 ||| if s.roster[h].lastBase = b then 0 else attnLoc) ∧
            u.oru = (s.handBack p.slot ⟨.done .answered, b.val, pageData p s.links[b].zone.val⟩).oru ∧
            u.counters = (s.bump .pagesFound).counters ∧
            { u with roster := s.roster, acu := s.acu, oru := s.oru, counters := s.counters } =
              (s.restartSilence b).setPages (s.pages.filter fun q => q.handset != h)) ∧
        (s.pageOf h = none →
          exec (.pageAnswer b h) s =
            .next (((s.restartSilence b).updEntry h fun e => { e with
              lastBase := b, lastZone := s.links[b].zone }).markHandset h
                (if s.roster[h].lastBase = b then 0 else attnLoc)).settle)))

/-! ### Calls and channels (Chapter 4) -/

/-- A CALL REQUEST from a SERVING base that passes every check and whose grant is appended: any page of the handset
ends DONE FOUND, the lowest FREE channel becomes HELD by the lowest FREE call number, the entry is CONNECTED, the
handset is bound to it and located, and the grant is sent (R50, R60, R62). A call of class STANDARD is admitted to a
base only when the base then has more FREE channels than its guard count (R62). -/
def Obligations.CallRequestAdmitsACall : Prop :=
  (∀ s : State,
      (∀ b : BaseNo,
        (∀ k, k ∈ s.freeChannels b ↔ s.chan b k = .free ∧ k.val < s.links[b].effCount) ∧
        (s.freeChannels b).Pairwise (· < ·)) ∧
      (∀ c, s.freeCall = some c → s.calls[c].state = .free ∧ ∀ d < c, s.calls[d].state ≠ .free) ∧
      (s.freeCall = none ↔ ∀ c : CallNo, s.calls[c].state ≠ .free)) ∧
  (∀ (b : BaseNo) (h : HandsetNo) (paged : Bool) (k : ChanNo) (c : CallNo) (s : State), s.serves = true →
      s.service b = .serving → s.roster[h].registered = true → s.roster[h].call = none →
      (s.freeChannels b).head? = some k → s.freeCall = some c →
      (s.roster[h].cls = .standard → s.plan.guards[b] < (s.freeChannels b).length) → s.appendTaken b = true →
      ∃ u : State, exec (.callRequest b h paged) s = .next u.settle ∧
        s.chan b k = .free ∧ k.val < s.links[b].effCount ∧ s.calls[c].state = .free ∧
        u.chans = (s.setChan b k (.held c)).chans ∧
        u.calls[c] = { s.calls[c] with
          state := .connected, handset := h, base := b, channel := k
          origin := if paged then .paged else .local
          setupFrame := s.now, handoverCount := 0, endReason := none, lastAbort := none } ∧
        (∀ d : CallNo, d ≠ c → u.calls[d] = s.calls[d]) ∧
        u.roster[h] = { s.roster[h] with
          call := some c, expiry := none, lastBase := b, lastZone := s.links[b].zone } ∧
        (∀ x : HandsetNo, x ≠ h → u.roster[x] = s.roster[x]) ∧
        u.pages = s.pages.filter (fun p => p.handset != h) ∧
        u.oru = (match s.pageOf h with
          | some p => (s.handBack p.slot ⟨.done .found, b.val, pageData p s.links[b].zone.val⟩).oru
          | none => s.oru) ∧
        u.counters = ((match s.pageOf h with
          | some _ => s.bump .pagesFound
          | none => s).bumpBase b .admitted).counters ∧
        (∃ v, u.acu.handsetMarks[h] = some v ∧ v &&& attnCall = attnCall) ∧
        (∃ v, u.acu.callMarks[c] = some v ∧ v &&& attnState = attnState) ∧
        { u with chans := s.chans, calls := s.calls, roster := s.roster, pages := s.pages, oru := s.oru
                 acu := s.acu, counters := s.counters } =
          (s.restartSilence b).send b (.channelGrant h k c)) ∧
  (∀ (b : BaseNo) (h : HandsetNo) (paged : Bool) (c : CallNo) (s t : State), s.serves = true →
      s.roster[h].cls = .standard → s.roster[h].call = none →
      exec (.callRequest b h paged) s = .next t → t.roster[h].call = some c →
      s.service b = .serving ∧ s.plan.guards[b] < (s.freeChannels b).length)

/-- A CALL REQUEST is refused by the first check of R60 that applies: after any page of a REGISTERED handset has ended
DONE FOUND (R50), CALL REFUSED is offered to the base and the refusal counted, and nothing else changes (R61); where
the grant itself is refused, only the counters change; from a base JOINING it is stale. -/
def Obligations.CallRequestRefused : Prop :=
  (∀ (s : State) (h : HandsetNo) (b : BaseNo),
      (s.pageOf h = none → s.pageCallNotice h b = s) ∧
      ∀ p, s.pageOf h = some p →
        s.pageCallNotice h b =
          ((s.handBack p.slot ⟨.done .found, b.val, pageData p s.links[b].zone.val⟩).setPages
            (s.pages.filter fun q => q.handset != h)).bump .pagesFound) ∧
  ∀ (b : BaseNo) (h : HandsetNo) (paged : Bool) (s t : State), s.serves = true →
    (s.service b = .joining → exec (.callRequest b h paged) s = .next ((s.restartSilence b).bump .stale).settle) ∧
    (t = (if s.roster[h].registered then (s.restartSilence b).pageCallNotice h b else s.restartSilence b) →
      (s.service b = .draining →
        exec (.callRequest b h paged) s = .next ((t.send b (.callRefused h .noService)).bumpBase b .refused).settle) ∧
      (s.service b = .serving →
        (s.roster[h].registered = false →
          exec (.callRequest b h paged) s = .next ((t.send b (.callRefused h .unknown)).bumpBase b .refused).settle) ∧
        (s.roster[h].registered = true →
          (s.roster[h].call.isSome = true →
            exec (.callRequest b h paged) s =
              .next ((t.send b (.callRefused h .inCall)).bumpBase b .refused).settle) ∧
          (s.roster[h].call = none →
            (s.freeCall = none ∨ s.freeChannels b = [] ∨
                (s.roster[h].cls = .standard ∧ (s.freeChannels b).length ≤ s.plan.guards[b]) →
              exec (.callRequest b h paged) s =
                .next ((t.send b (.callRefused h .congested)).bumpBase b .refused).settle) ∧
            (s.freeCall ≠ none → s.freeChannels b ≠ [] →
              (s.roster[h].cls = .standard → s.plan.guards[b] < (s.freeChannels b).length) →
              s.appendTaken b = false →
              exec (.callRequest b h paged) s = .next ((t.bumpBase b .discards).bumpBase b .refused).settle)))))

/-- CALL END: a HELD channel below the effective channel count, or a LEAVING one, ends its call HANGUP; any other is
stale (R64). CHANNEL DROPPED by the channel's state and, for a channel of a handover, by the side and the record's
state (R65). -/
def Obligations.CallEndAndChannelDropped : Prop :=
  (∀ (b : BaseNo) (k : ChanNo) (s : State), s.serves = true → linkActive (s.service b) = true →
      (k.val < s.links[b].effCount → ∀ c, s.chan b k = .held c ∨ s.chan b k = .leaving c →
        exec (.callEnd b k) s = .next ((s.restartSilence b).endCall c .hangup).settle) ∧
      (s.chan b k = .free ∨ (∃ c g, s.chan b k = .reserved c g) ∨ s.chan b k = .blocked ∨
          s.links[b].effCount ≤ k.val →
        exec (.callEnd b k) s = .next ((s.restartSilence b).bump .stale).settle)) ∧
  (∀ (b : BaseNo) (k : ChanNo) (s : State), s.serves = true → linkActive (s.service b) = true →
      (s.chan b k = .free ∨ s.chan b k = .blocked ∨ s.links[b].effCount ≤ k.val →
        exec (.channelDropped b k) s = .next ((s.restartSilence b).bump .stale).settle) ∧
      (k.val < s.links[b].effCount → ∀ c : CallNo,
        (s.chan b k = .held c →
          exec (.channelDropped b k) s = .next ((s.restartSilence b).endCall c .radioLost).settle) ∧
        ∀ r, s.calls[c].handover = some r →
          (s.chan b k = .leaving c → r.state = .switching →
            (r.oldDropped = false →
              exec (.channelDropped b k) s =
                .next (((s.restartSilence b).updCall c fun e => { e with
                  handover := some { r with oldDropped := true } }).markCall c 0).settle) ∧
            (r.oldDropped = true →
              exec (.channelDropped b k) s = .next ((s.restartSilence b).bump .stale).settle)) ∧
          (s.chan b k = .reserved c r.tag → r.target = b → r.channel = some k →
            (r.state = .reserving ∨ r.state = .awaitMark →
              exec (.channelDropped b k) s = .next ((s.restartSilence b).candidateFail c .targetDrop).settle) ∧
            (r.state = .switching →
              (r.oldDropped = false →
                exec (.channelDropped b k) s = .next ((s.restartSilence b).attemptEnd c .targetDrop).settle) ∧
              (r.oldDropped = true →
                exec (.channelDropped b k) s = .next ((s.restartSilence b).endCall c .radioLost).settle)))))

/-- The call-end actions: the entry is ENDED with its reason and keeps where it was served, its handover record,
filter, neighbours, watch and timers are gone, no channel names it, its handset is unbound with a full lifetime, and a
lost call is counted; an end of a call that is not CONNECTED or MOVING changes nothing (R66, R67). A record's target
is offered a RELEASE with the attempt tag and counts an abort, a FORCE MOVE is answered FAILED CALL_ENDED, and for
CLEARED, REATTACH, DETACHED and DRAINED the serving base is offered a RELEASE with tag 0 after it; no other message is
offered (R66, R125). -/
def Obligations.CallEndActionsClearTheCall : Prop :=
  ([CallState.free, .connected, .moving, .ended].map callLive = [false, true, true, false]) ∧
  (∀ (c d : CallNo) (g : AttemptTag),
      (chanNames c (.held d) = true ↔ d = c) ∧ (chanNames c (.reserved d g) = true ↔ d = c) ∧
      (chanNames c (.leaving d) = true ↔ d = c) ∧ chanNames c .free = false ∧ chanNames c .blocked = false) ∧
  ∀ (c : CallNo) (reason : EndReason) (s : State),
    (callLive s.calls[c].state = false → s.endCall c reason = s) ∧
    (callLive s.calls[c].state = true →
      s.endCall c reason =
        (if s.service s.calls[c].base = .draining then (s.callEndActions c reason).callEndNotice s.calls[c].base
         else s.callEndActions c reason)) ∧
    ((s.callEndActions c reason).calls[c] = { s.calls[c] with
        state := .ended, endReason := some reason, filter := none, neighbours := [], watch := .normal
        watchCount := 0, settle := none, hold := none, handover := none
        lastAbort := if s.calls[c].handover = none then s.calls[c].lastAbort else some .callEnded } ∧
      (∀ d : CallNo, d ≠ c → (s.callEndActions c reason).calls[d] = s.calls[d]) ∧
      (∀ b k, (s.callEndActions c reason).chan b k = if chanNames c (s.chan b k) then .free else s.chan b k) ∧
      (∀ e ∈ (s.callEndActions c reason).batch, s.calls[c].handover ≠ none → e.call ≠ c) ∧
      (s.roster[s.calls[c].handset].registered = true → s.roster[s.calls[c].handset].call.isSome = true →
        (s.callEndActions c reason).roster[s.calls[c].handset] = { s.roster[s.calls[c].handset] with
          call := none
          expiry := some (s.after (s.lifetime s.roster[s.calls[c].handset].cls)) }) ∧
      (∀ x : HandsetNo, x ≠ s.calls[c].handset → (s.callEndActions c reason).roster[x] = s.roster[x]) ∧
      (s.callEndActions c reason).globalCount .callsLost =
        (if reason = .radioLost ∨ reason = .baseLost then satSucc (s.globalCount .callsLost)
         else s.globalCount .callsLost)) ∧
    (∀ t : State,
      t = (match s.calls[c].handover with
        | some r => (match r.channel with
          | some j => s.send r.target (.release j r.tag)
          | none => s)
        | none => s) →
      (reason = .cleared ∨ reason = .reattach ∨ reason = .detached ∨ reason = .drained →
        (s.callEndActions c reason).links = (t.send s.calls[c].base (.release s.calls[c].channel 0)).links ∧
        (s.callEndActions c reason).wire = (t.send s.calls[c].base (.release s.calls[c].channel 0)).wire) ∧
      (reason = .hangup ∨ reason = .radioLost ∨ reason = .stopped ∨ reason = .baseLost →
        (s.callEndActions c reason).links = t.links ∧ (s.callEndActions c reason).wire = t.wire)) ∧
    (s.calls[c].handover = none → (s.callEndActions c reason).oru = s.oru) ∧
    ∀ r : Handover, s.calls[c].handover = some r →
      (∀ j, r.channel = some j →
        (s.callEndActions c reason).baseCount r.target .aborts = satSucc (s.baseCount r.target .aborts)) ∧
      (r.slot = none → (s.callEndActions c reason).oru = s.oru) ∧
      ∀ i, r.slot = some i →
        (s.callEndActions c reason).oru = (s.handBack i ⟨.failed .callEnded, r.target.val, [0, r.tag]⟩).oru

/-- CLEAR CALL ends the call CLEARED and is answered DONE with the serving base and channel, and with no call in
progress is refused NO_CALL (R68). BLOCK CHANNEL takes a FREE position and refuses every other IN_USE (R73). UNBLOCK
CHANNEL frees a BLOCKED position, leaves a FREE one, and refuses one in use (R74). Detail 0 of the answers, but for
CLEAR CALL's DONE, is the model's choice (log entry 24). -/
def Obligations.ClearBlockAndUnblockOrders : Prop :=
  (∀ (d : CallNo) (g : AttemptTag),
      chanInUse (.held d) = true ∧ chanInUse (.reserved d g) = true ∧ chanInUse (.leaving d) = true ∧
      chanInUse .free = false ∧ chanInUse .blocked = false) ∧
  (∀ (s : State) (b : BaseNo) (k : ChanNo) (v : Chan) (c : CallNo) (f : Call → Call),
      s.chan b k = s.chans[b][k] ∧ s.setChan b k v = { s with chans := s.chans.set b (s.chans[b].set k v) } ∧
      s.updCall c f = { s with calls := s.calls.set c (f s.calls[c]) }) ∧
  (∀ (slot : SlotNo) (c : CallNo) (s : State), s.offers slot (.clearCall c) →
      (callLive s.calls[c].state = true →
        exec (.clearCall slot c) s =
          .next (((s.undispatched.endCall c .cleared).handBack slot
            ⟨.done .ok, s.calls[c].base.val, [BitVec.ofNat 8 s.calls[c].channel.val]⟩).scanOn).settle) ∧
      (s.calls[c].state = .free ∨ s.calls[c].state = .ended →
        exec (.clearCall slot c) s = .next ((s.undispatched.handBack slot ⟨.state .noCall, 0, []⟩).scanOn).settle)) ∧
  (∀ (slot : SlotNo) (b : BaseNo) (k : ChanNo) (s : State),
      (s.offers slot (.blockChannel b k) →
        (s.chan b k = .free →
          exec (.blockChannel slot b k) s =
            .next (((s.undispatched.setChan b k .blocked).handBack slot ⟨.done .ok, 0, []⟩).scanOn).settle) ∧
        (s.chan b k ≠ .free →
          exec (.blockChannel slot b k) s =
            .next ((s.undispatched.handBack slot ⟨.state .inUse, 0, []⟩).scanOn).settle)) ∧
      (s.offers slot (.unblockChannel b k) →
        (s.chan b k = .blocked →
          exec (.unblockChannel slot b k) s =
            .next (((s.undispatched.setChan b k .free).handBack slot ⟨.done .ok, 0, []⟩).scanOn).settle) ∧
        (s.chan b k = .free →
          exec (.unblockChannel slot b k) s = .next ((s.undispatched.handBack slot ⟨.done .ok, 0, []⟩).scanOn).settle) ∧
        (chanInUse (s.chan b k) = true →
          exec (.unblockChannel slot b k) s =
            .next ((s.undispatched.handBack slot ⟨.state .inUse, 0, []⟩).scanOn).settle)))

/-! ### Level filtering and decision (Chapters 5 and 6) -/

/-- The averaging of a filtered level: with shift 0 the target; with shift 1..5 the difference divided by 2^k and
rounded to the nearest integer, exact halves up. The new level lies between the old one and the target, and stays put
exactly when the difference lies in −2^(k−1)..2^(k−1)−1. A sample's target is the level code with its base's offset,
clamped to 0..127 before it is multiplied by 16 (R78 to R80). -/
def Obligations.FilterArithmetic : Prop :=
  (∀ (f t : Nat), average 0 f t = t ∧
      ∀ k, 1 ≤ k → k ≤ 5 →
        (average k f t : Int) = f + ((t : Int) - f + 2 ^ (k - 1)) / 2 ^ k ∧
        (f ≤ t → f ≤ average k f t ∧ average k f t ≤ t) ∧ (t ≤ f → t ≤ average k f t ∧ average k f t ≤ f) ∧
        (average k f t = f ↔ -(2 ^ (k - 1) : Int) ≤ (t : Int) - f ∧ (t : Int) - f ≤ 2 ^ (k - 1) - 1)) ∧
  (∀ (code : LevelCode) (offset : Int),
      ((code.val : Int) + offset < 0 → sampleTarget code offset = 0) ∧
      (127 < (code.val : Int) + offset → sampleTarget code offset = 2032) ∧
      (0 ≤ (code.val : Int) + offset → (code.val : Int) + offset ≤ 127 →
        (sampleTarget code offset : Int) = ((code.val : Int) + offset) * 16))

/-- The insertion rule: a set of fewer than 6 takes the new base; a set of 6 takes it only in place of its last entry,
lowest in level and then highest in base number, and only where it is strictly above (R85). The set's order keeps the
same entries, filtered levels descending, ties to the lower base number (R87). The pairs of a report are taken in
their order: one that names no base in service, the serving base or a base named before is ignored; any other updates
its base's entry or is inserted (R83, R84). Then every entry not named ages by 1, and entries whose age reaches the
limit leave the set (R86). -/
def Obligations.NeighbourSetRules : Prop :=
  (∀ l : List Neighbour, (rankNeighbours l).Perm l ∧
      (rankNeighbours l).Pairwise fun a b => b.level < a.level ∨ (a.level = b.level ∧ a.base ≤ b.base)) ∧
  (∀ (set : List Neighbour) (b : BaseNo) (level : Nat),
      (set.length < 6 → insertNeighbour set b level = set ++ [⟨b, level, 0, 0⟩]) ∧
      (set.length = 6 → (set.map (·.base)).Nodup →
        ∃ last ∈ set, (∀ n ∈ set, last.level < n.level ∨ (n.level = last.level ∧ n.base ≤ last.base)) ∧
          (last.level < level → insertNeighbour set b level = set.erase last ++ [⟨b, level, 0, 0⟩]) ∧
          (level ≤ last.level → insertNeighbour set b level = set))) ∧
  (∀ (s : State) (b : BaseNo) (k : Nat) (p : PairScan) (e : ReportedBase × LevelCode),
      ((∀ x : BaseNo, x.val = e.1.val → ¬s.inService x ∨ x = b ∨ e.1 ∈ p.seen) →
        s.takePair b k p e = { p with seen := p.seen ++ [e.1], ignored := p.ignored + 1 }) ∧
      ∀ x : BaseNo, x.val = e.1.val → s.inService x → x ≠ b → e.1 ∉ p.seen →
        ((∃ n ∈ p.set, n.base = x) →
          s.takePair b k p e = {
            set := p.set.map fun n =>
              if n.base = x then
                { n with level := average k n.level (sampleTarget e.2 s.plan.offsets[x]), age := 0 }
              else n
            seen := p.seen ++ [e.1], named := p.named ++ [x], ignored := p.ignored }) ∧
        ((∀ n ∈ p.set, n.base ≠ x) →
          s.takePair b k p e = {
            set := insertNeighbour p.set x (sampleTarget e.2 s.plan.offsets[x])
            seen := p.seen ++ [e.1], named := p.named ++ [x], ignored := p.ignored })) ∧
  (∀ (s : State) (b : BaseNo) (k : Nat) (set : List Neighbour) (l : List (ReportedBase × LevelCode))
      (e : ReportedBase × LevelCode),
      s.takePairs b k set [] = ⟨set, [], [], 0⟩ ∧
        s.takePairs b k set (l ++ [e]) = s.takePair b k (s.takePairs b k set l) e) ∧
  (∀ (limit : Nat) (named : List BaseNo) (set : List Neighbour),
      ((ageNeighbours limit named set).map (·.base)).Sublist (set.map (·.base)) ∧
      ∀ n, n ∈ ageNeighbours limit named set ↔
        n.age < limit ∧ ∃ m ∈ set, (m.base ∈ named → n = m) ∧ (m.base ∉ named → n = { m with age := m.age + 1 }))

/-- When a report is weak and when it meets the recovery condition (R97), and how the watch moves on it, as Table 6-3
shows (R98). The attention bits of a watch change by the notice mode (R99). A neighbour's score is its level less the
bias for each channel in use (R100); it qualifies where the score reaches the serving filter by the effective margin,
its base is SERVING and its zone allowed (R101); its lead counts the hand-offs in a row in which it qualifies, up to
15 (R102). -/
def Obligations.WatchFollowsTheReports : Prop :=
  (∀ before after : Watch,
      watchBits .off before after = 0 ∧
      (before ≠ .weak → after = .weak → watchBits .edge before after = attnWeak) ∧
      (before = .weak → after ≠ .weak → watchBits .edge before after = attnRecovered) ∧
      ((before = .weak ↔ after = .weak) → watchBits .edge before after = 0) ∧
      (after = .weak → watchBits .level before after = attnWeak) ∧
      (after ≠ .weak → watchBits .level before after = 0)) ∧
  (∀ (s : State) (z : ZoneParams) (c : CallNo) (n : Neighbour) (f m : Nat),
      s.zoneAt n.base = s.plan.zones[s.links[n.base].zone] ∧
      (z.biasCode = 0 → s.score z n = n.level) ∧
      (z.biasCode = 1 → s.score z n = (n.level : Int) - 4 * s.occupancy n.base) ∧
      (z.biasCode = 2 → s.score z n = (n.level : Int) - 8 * s.occupancy n.base) ∧
      (z.biasCode = 3 → s.score z n = (n.level : Int) - 16 * s.occupancy n.base) ∧
      s.occupancy n.base =
        ((List.finRange 8).filter fun k => decide (k.val < s.links[n.base].effCount) && chanInUse (s.chan n.base k)).length ∧
      (s.qualifies c z f m n = true ↔
        (f : Int) + 16 * m ≤ s.score z n ∧ s.service n.base = .serving ∧
          inMask s.roster[s.calls[c].handset].zoneMask s.links[n.base].zone = true)) ∧
  (∀ (z : ZoneParams) (w : Watch) (lead : Nat),
      (w = .weak → effectiveMargin z w = z.weakMargin ∧ requiredLead z w = 1) ∧
      (w ≠ .weak → effectiveMargin z w = z.margin ∧ requiredLead z w = z.leadCount) ∧
      leadAfter true lead = min (lead + 1) 15 ∧ leadAfter false lead = 0) ∧
  ∀ (z : ZoneParams) (f errors count : Nat),
    (reportWeak z f errors = true ↔
      (0 < z.weak ∧ f < z.weak * 16) ∨ (0 < z.errorLimit ∧ z.errorLimit ≤ errors)) ∧
    (reportRecovers z f errors = true ↔
      z.recovery * 16 ≤ f ∧ (z.errorLimit = 0 ∨ errors < z.errorLimit)) ∧
    (∀ w, w ≠ Watch.weak →
      (reportWeak z f errors = false → watchAfter z f errors w count = (.normal, 0)) ∧
      (reportWeak z f errors = true →
        (count + 1 < z.watchLimit → watchAfter z f errors w count = (.suspect, count + 1)) ∧
        (z.watchLimit ≤ count + 1 → watchAfter z f errors w count = (.weak, min (count + 1) 8)))) ∧
    (reportRecovers z f errors = true → watchAfter z f errors .weak count = (.normal, 0)) ∧
    (reportRecovers z f errors = false → watchAfter z f errors .weak count = (.weak, count))

/-- A LEVEL REPORT on a HELD or LEAVING channel updates the serving filter of its call, moves its watch, raises the
bits of the notice mode, keeps its neighbours ranked and at most 6, hears its handset, and changes no other call and
no other roster entry; on any other channel it is stale (R81, R82, R85, R87, R88, R98, R99). Its pairs are taken and
its entries aged as the neighbour set's rules say, each ignored pair counted once, and every entry then has its lead
written by whether it qualifies (R83, R86, R102). -/
def Obligations.LevelReportUpdatesItsCall : Prop :=
  ∀ (b : BaseNo) (k : ChanNo) (level : LevelCode) (errors : Fin 16) (pairs : List (ReportedBase × LevelCode))
    (s : State), s.serves = true → linkActive (s.service b) = true → pairs.length ≤ 4 →
    (s.chan b k = .free ∨ (∃ c g, s.chan b k = .reserved c g) ∨ s.chan b k = .blocked ∨
        s.links[b].effCount ≤ k.val →
      exec (.levelReport b k level errors pairs) s = .next ((s.restartSilence b).bump .stale).settle) ∧
    (k.val < s.links[b].effCount → ∀ c : CallNo, s.chan b k = .held c ∨ s.chan b k = .leaving c →
      s.calls[c].base = b → s.roster[s.calls[c].handset].registered = true →
      ∃ u : State, exec (.levelReport b k level errors pairs) s = .next u.settle ∧
        u.calls[c].filter =
          some (match s.calls[c].filter with
            | none => sampleTarget level s.plan.offsets[b]
            | some f => average (s.zoneAt b).shift f (sampleTarget level s.plan.offsets[b])) ∧
        (∀ f, u.calls[c].filter = some f →
          (u.calls[c].watch, u.calls[c].watchCount) =
            watchAfter (s.zoneAt b) f errors.val s.calls[c].watch s.calls[c].watchCount) ∧
        (s.calls[c].neighbours.length ≤ 6 → u.calls[c].neighbours.length ≤ 6) ∧
        (u.calls[c].neighbours.Pairwise fun x y => y.level < x.level ∨ (x.level = y.level ∧ x.base ≤ y.base)) ∧
        u.roster[s.calls[c].handset] = { s.roster[s.calls[c].handset] with heardFrame := s.now } ∧
        (∀ h : HandsetNo, h ≠ s.calls[c].handset → u.roster[h] = s.roster[h]) ∧
        (∀ d : CallNo, d ≠ c → u.calls[d] = s.calls[d]) ∧ u.pages = s.pages ∧
        (∃ v, u.acu.callMarks[c] = some v ∧
          v &&& watchBits (s.zoneAt b).notice s.calls[c].watch u.calls[c].watch =
            watchBits (s.zoneAt b).notice s.calls[c].watch u.calls[c].watch) ∧
        ∀ p : PairScan, p = s.takePairs b (s.zoneAt b).shift s.calls[c].neighbours pairs →
          u.globalCount .ignoredPairs = countUp p.ignored (s.globalCount .ignoredPairs) ∧
          ∀ f, u.calls[c].filter = some f →
            u.calls[c].neighbours =
              (rankNeighbours (ageNeighbours (s.zoneAt b).staleLimit p.named p.set)).map fun n => { n with
                lead := leadAfter
                  (s.qualifies c (s.zoneAt b) f (effectiveMargin (s.zoneAt b) u.calls[c].watch) n) n.lead })

/-- While a call's settle or hold timer runs, or while it is MOVING, a LEVEL REPORT of its SERVING base starts no
handover and leaves any record as it is (R105). Of a CONNECTED call with both timers stopped it starts a DECISION
handover where an entry's lead reaches the required lead: the try list holds those entries' bases by score, ties to
the lower base number, at most 3 (R105, R106). Where the base is DRAINING a CONNECTED call is offered a drain move, to
the SERVING bases of its set that its zone mask allows, in the set's order, at most 3, and the drain's attempts are
counted; a MOVING call is left as it is (R107, R134). A DRAIN BASE offers the same move to a call that is the only one
the base serves (R133). -/
def Obligations.NoDecisionWhileATimerRuns : Prop :=
  (∀ (b : BaseNo) (k : ChanNo) (level : LevelCode) (errors : Fin 16) (pairs : List (ReportedBase × LevelCode))
      (c : CallNo) (s t : State), s.serves = true → s.service b = .serving →
      s.chan b k = .held c ∨ s.chan b k = .leaving c → s.calls[c].base = b →
      s.calls[c].state = .moving ∨ s.calls[c].settle ≠ none ∨ s.calls[c].hold ≠ none →
      exec (.levelReport b k level errors pairs) s = .next t →
      t.calls[c].handover = s.calls[c].handover ∧ t.calls[c].state = s.calls[c].state ∧ t.chans = s.chans ∧
        t.wire = s.wire) ∧
  (∀ (b : BaseNo) (k : ChanNo) (level : LevelCode) (errors : Fin 16) (pairs : List (ReportedBase × LevelCode))
      (c : CallNo) (s : State), s.serves = true → pairs.length ≤ 4 → k.val < s.links[b].effCount →
      s.chan b k = .held c ∨ s.chan b k = .leaving c → s.calls[c].base = b → s.calls[c].state = .connected →
      (s.service b = .serving → s.calls[c].settle = none → s.calls[c].hold = none →
        ∃ (u : State) (ranked : List Neighbour),
          exec (.levelReport b k level errors pairs) s = .next u.settle ∧
          ranked.Perm (u.calls[c].neighbours.filter fun n =>
            decide (requiredLead (s.zoneAt b) u.calls[c].watch ≤ n.lead)) ∧
          (ranked.Pairwise fun x y => s.score (s.zoneAt b) y < s.score (s.zoneAt b) x ∨
            (s.score (s.zoneAt b) x = s.score (s.zoneAt b) y ∧ x.base ≤ y.base)) ∧
          (ranked = [] → u.calls[c].handover = s.calls[c].handover ∧ u.calls[c].state = .connected ∧
            u.chans = s.chans ∧ u.wire = s.wire) ∧
          s.startsMove u c .decision ((ranked.map (·.base)).take 3)) ∧
      (s.service b = .draining → ∀ d, s.drains[b] = some d →
        ∃ (u : State) (tries : List BaseNo),
          exec (.levelReport b k level errors pairs) s = .next u.settle ∧
          tries = ((u.calls[c].neighbours.map (·.base)).filter fun x => decide (s.service x = .serving) &&
            inMask s.roster[s.calls[c].handset].zoneMask s.links[x].zone).take 3 ∧
          (tries = [] → u.drains = s.drains ∧ u.calls[c].handover = s.calls[c].handover ∧
            u.calls[c].state = .connected ∧ u.chans = s.chans ∧ u.wire = s.wire) ∧
          (tries ≠ [] → u.drains = s.drains.set b (some { d with attempts := satSucc d.attempts })) ∧
          s.startsMove u c .drain tries)) ∧
  (∀ (b : BaseNo) (k : ChanNo) (level : LevelCode) (errors : Fin 16) (pairs : List (ReportedBase × LevelCode))
      (c : CallNo) (s : State), s.serves = true → pairs.length ≤ 4 → s.service b = .draining →
      k.val < s.links[b].effCount → s.chan b k = .held c ∨ s.chan b k = .leaving c → s.calls[c].base = b →
      s.calls[c].state = .moving →
      ∃ u : State, exec (.levelReport b k level errors pairs) s = .next u.settle ∧ u.drains = s.drains ∧
        u.calls[c].handover = s.calls[c].handover ∧ u.calls[c].state = .moving ∧ u.chans = s.chans ∧
        u.wire = s.wire) ∧
  ∀ (slot : SlotNo) (b : BaseNo) (limit : BitVec 16) (c : CallNo) (s : State), s.offers slot (.drainBase b limit) →
    s.service b = .serving → s.servedBy b = [c] → s.calls[c].state = .connected →
    (∀ (d : CallNo) (r : Handover), s.calls[d].handover = some r → r.target ≠ b) →
    ∃ (u : State) (tries : List BaseNo), exec (.drainBase slot b limit) s = .next u.scanOn.settle ∧
      tries = ((s.calls[c].neighbours.map (·.base)).filter fun x => decide (x ≠ b ∧ s.service x = .serving) &&
        inMask s.roster[s.calls[c].handset].zoneMask s.links[x].zone).take 3 ∧
      u.service b = .draining ∧
      (∃ d, u.drains[b] = some d ∧ d.slot = slot ∧ d.attempts = if tries = [] then 0 else 1) ∧
      (tries = [] → u.calls[c] = s.calls[c] ∧ u.chans = s.chans ∧ u.wire = s.wire) ∧
      s.startsMove u c .drain tries

/-! ### The handover exchange (Chapter 7) -/

/-- The settle and hold timers stop at their expiry, which does nothing else. The reserve timer fails the candidate:
its reservation is given up, the target is offered a RELEASE with the tag and an abort of it is counted, and the next
candidate is tried with a fresh tag; with none left to try the attempt ends NO_ANSWER, or NO_CHANNEL where every
further candidate failed (R112, R113). The arrival timer ends the attempt NO_ARRIVAL, or the call RADIO_LOST where the
old side has dropped (R103, R104, R117, R122). -/
def Obligations.CallTimersExpire : Prop :=
  (∀ (c : CallNo) (s : State), s.serves = true →
      (s.calls[c].settle = some s.now →
        exec (.settleTimerExpiry c) s = .next (s.updCall c fun e => { e with settle := none }).settle) ∧
      (s.calls[c].hold = some s.now →
        exec (.holdTimerExpiry c) s = .next (s.updCall c fun e => { e with hold := none }).settle)) ∧
  (∀ (c : CallNo) (r : Handover) (s : State), s.serves = true → s.calls[c].handover = some r →
      (r.state = .reserving → r.reserveTimer = some s.now →
        exec (.reserveTimerExpiry c) s = .next (s.candidateFail c .noAnswer).settle ∧
        (∀ j, r.channel = some j → s.calls[c].state = .moving → s.chan r.target j = .reserved c r.tag →
          s.failsOver (s.candidateFail c .noAnswer) c r j .noAnswer) ∧
        (∀ j, r.tryList = [] → r.channel = some j → s.calls[c].state = .moving →
          s.chan r.target j = .reserved c r.tag →
          (s.candidateFail c .noAnswer).calls[c].handover = none ∧
          (s.candidateFail c .noAnswer).calls[c].state = .connected ∧
          (s.candidateFail c .noAnswer).calls[c].lastAbort = some .noAnswer ∧
          (s.candidateFail c .noAnswer).chan r.target j = .free ∧
          (s.candidateFail c .noAnswer).baseCount r.target .aborts = satSucc (s.baseCount r.target .aborts))) ∧
      (r.state = .switching → r.arrivalTimer = some s.now →
        exec (.arrivalTimerExpiry c) s =
          .next (if r.oldDropped then s.endCall c .radioLost else s.attemptEnd c .noArrival).settle))

/-- FORCE MOVE: refused by the first check of R108 that applies; otherwise the call is MOVING with a FORCED record
that carries the order's slot and a fresh tag, the lowest FREE channel of the target is RESERVED for it, RESERVE is
sent and the reserve timer runs; a target without a FREE channel ends it FAILED NO_CHANNEL at once, and so does a
target whose queue refuses the RESERVE: the channel is FREE again, no RELEASE is sent, and no abort is counted.
Attempt tags run from 1 to 255 and start again at 1 (R108, R112). Detail 0 of the refusals is the model's choice (log
entry 24). -/
def Obligations.ForceMoveOrder : Prop :=
  (∀ (s : State) (c : CallNo), s.holdsReserved c = true ↔ ∃ b k g, s.chan b k = .reserved c g) ∧
  (∀ (slot : SlotNo) (c : CallNo) (t : BaseNo) (s : State), s.offers slot (.forceMove c t) →
      (callLive s.calls[c].state = false →
        exec (.forceMove slot c t) s = .next ((s.undispatched.handBack slot ⟨.state .noCall, 0, []⟩).scanOn).settle) ∧
      (callLive s.calls[c].state = true →
        (s.calls[c].handover.isSome = true →
          exec (.forceMove slot c t) s = .next ((s.undispatched.handBack slot ⟨.state .busy, 0, []⟩).scanOn).settle) ∧
        (s.calls[c].handover = none →
          (s.service t ≠ .serving →
            exec (.forceMove slot c t) s =
              .next ((s.undispatched.handBack slot ⟨.state .noService, 0, []⟩).scanOn).settle) ∧
          (s.service t = .serving →
            (t = s.calls[c].base →
              exec (.forceMove slot c t) s =
                .next ((s.undispatched.handBack slot ⟨.state .same, 0, []⟩).scanOn).settle) ∧
            (t ≠ s.calls[c].base →
              (inMask s.roster[s.calls[c].handset].zoneMask s.links[t].zone = false →
                exec (.forceMove slot c t) s =
                  .next ((s.undispatched.handBack slot ⟨.state .zone, 0, []⟩).scanOn).settle) ∧
              (inMask s.roster[s.calls[c].handset].zoneMask s.links[t].zone = true →
                s.holdsReserved c = false → ∀ j, (s.freeChannels t).head? = some j → s.appendTaken t = true →
                ∃ u : State, exec (.forceMove slot c t) s = .next u.scanOn.settle ∧
                  u.calls[c] = { s.calls[c] with
                    state := .moving
                    tagCounter := nextTag s.calls[c].tagCounter
                    handover := some {
                      kind := .forced, tryList := [], target := t, channel := some j
                      tag := nextTag s.calls[c].tagCounter, state := .reserving
                      reserveTimer := some (s.after (s.zoneAt t).reserveLimit)
                      arrivalTimer := none, oldDropped := false, lastFailure := none, slot := some slot } } ∧
                  (∀ d : CallNo, d ≠ c → u.calls[d] = s.calls[d]) ∧
                  u.chans = (s.setChan t j (.reserved c (nextTag s.calls[c].tagCounter))).chans ∧
                  { u with calls := s.calls, chans := s.chans, acu := s.acu } =
                    s.undispatched.send t (.reserve j c s.roster[s.calls[c].handset].identity
                      (nextTag s.calls[c].tagCounter))) ∧
              (inMask s.roster[s.calls[c].handset].zoneMask s.links[t].zone = true → s.freeChannels t = [] →
                ∃ u : State, exec (.forceMove slot c t) s = .next u.scanOn.settle ∧
                  u.calls[c] = { s.calls[c] with
                    state := .connected, tagCounter := nextTag s.calls[c].tagCounter, lastAbort := some .noChannel } ∧
                  (∀ d : CallNo, d ≠ c → u.calls[d] = s.calls[d]) ∧ u.chans = s.chans ∧ u.wire = s.wire ∧
                  u.oru = (s.undispatched.handBack slot
                    ⟨.failed .noChannel, t.val, [0, nextTag s.calls[c].tagCounter]⟩).oru) ∧
              (inMask s.roster[s.calls[c].handset].zoneMask s.links[t].zone = true →
                s.holdsReserved c = false → ∀ j, (s.freeChannels t).head? = some j → s.appendTaken t = false →
                ∃ u : State, exec (.forceMove slot c t) s = .next u.scanOn.settle ∧
                  u.calls[c] = { s.calls[c] with
                    state := .connected, tagCounter := nextTag s.calls[c].tagCounter, lastAbort := some .noChannel } ∧
                  (∀ d : CallNo, d ≠ c → u.calls[d] = s.calls[d]) ∧
                  u.oru = (s.undispatched.handBack slot
                    ⟨.failed .noChannel, t.val, [0, nextTag s.calls[c].tagCounter]⟩).oru ∧
                  { u with calls := s.calls, acu := s.acu, oru := s.oru } =
                    (s.bumpBase t .discards).setBatch (s.batch.filter fun e => e.call != c))))))) ∧
  (∀ t : AttemptTag, nextTag t ≠ 0 ∧ (t ≠ 255 → nextTag t = t + 1) ∧ nextTag 255 = 1)

/-- An answer matches by base, channel, call and tag. One that does not is stale, and a READY or ARRIVED with a tag
other than 0 earns a RELEASE, unless another call has that channel reserved with that tag (R114). -/
def Obligations.StaleAnswersEarnARelease : Prop :=
  ∀ (b : BaseNo) (j : ChanNo) (c : CallNo) (g : AttemptTag) (reason : Byte) (s : State), s.serves = true →
    linkActive (s.service b) = true →
    (¬∃ r, s.calls[c].handover = some r ∧ r.target = b ∧ r.channel = some j ∧ r.tag = g) →
    exec (.reserveAnswer b j c g .refused reason) s = .next ((s.restartSilence b).bump .stale).settle ∧
    (g ≠ 0 → (∀ d, d ≠ c → s.chan b j ≠ .reserved d g) →
      exec (.reserveAnswer b j c g .ready reason) s =
        .next (((s.restartSilence b).bump .stale).send b (.release j g)).settle ∧
      exec (.arrived b j c g) s = .next (((s.restartSilence b).bump .stale).send b (.release j g)).settle) ∧
    (g = 0 ∨ (∃ d, d ≠ c ∧ s.chan b j = .reserved d g) →
      exec (.reserveAnswer b j c g .ready reason) s = .next ((s.restartSilence b).bump .stale).settle ∧
      exec (.arrived b j c g) s = .next ((s.restartSilence b).bump .stale).settle)

/-- A matching RESERVE ANSWER by verdict and state. READY in RESERVING sends the switch at once, or joins the batch in
a MARKED zone while it holds fewer than 32 entries; a repeated READY is stale; REFUSED fails the candidate, in
RESERVING with reason REFUSED and no RELEASE sent, in AWAIT_MARK with reason TARGET_DROP, its batch entry removed and
a RELEASE sent, and in SWITCHING is a drop of the target (R115, R116). The next candidate is then tried, or the
attempt ends, as R112 and R113 say. -/
def Obligations.ReserveAnswerByState : Prop :=
  ∀ (b : BaseNo) (j : ChanNo) (c : CallNo) (g : AttemptTag) (reason : Byte) (r : Handover) (s : State),
    s.serves = true → linkActive (s.service b) = true → s.calls[c].handover = some r → r.target = b →
    r.channel = some j → r.tag = g →
    (r.state = .reserving →
      exec (.reserveAnswer b j c g .refused reason) s = .next ((s.restartSilence b).candidateFail c .refused).settle ∧
      (s.calls[c].state = .moving → s.chan b j = .reserved c g →
        (s.restartSilence b).failsOver ((s.restartSilence b).candidateFail c .refused) c r j .refused) ∧
      ((s.zoneAt b).switchMode = .immediate →
        exec (.reserveAnswer b j c g .ready reason) s =
          .next (((s.restartSilence b).updCall c fun e => { e with
            handover := some { r with reserveTimer := none } }).sendSwitchList s.calls[c].base [c]).settle) ∧
      ((s.zoneAt b).switchMode = .marked →
        (s.batch.length < 32 →
          exec (.reserveAnswer b j c g .ready reason) s =
            .next ((((s.restartSilence b).setBatch
              (s.batch ++ [⟨c, dueFrame s.now (markSpacing (s.zoneAt b).spacingCode)⟩])).updCall c fun e => { e with
                handover := some { r with reserveTimer := none, state := .awaitMark } }).markCall c 0).settle) ∧
        (32 ≤ s.batch.length →
          exec (.reserveAnswer b j c g .ready reason) s =
            .next ((((s.restartSilence b).updCall c fun e => { e with
              handover := some { r with reserveTimer := none } }).bump .batchFull).sendSwitchList s.calls[c].base
                [c]).settle))) ∧
    (r.state = .awaitMark →
      exec (.reserveAnswer b j c g .ready reason) s = .next ((s.restartSilence b).bump .stale).settle ∧
      exec (.reserveAnswer b j c g .refused reason) s =
        .next ((s.restartSilence b).candidateFail c .targetDrop).settle ∧
      (s.calls[c].state = .moving → s.chan b j = .reserved c g →
        (s.restartSilence b).failsOver ((s.restartSilence b).candidateFail c .targetDrop) c r j .targetDrop)) ∧
    (r.state = .switching →
      exec (.reserveAnswer b j c g .ready reason) s = .next ((s.restartSilence b).bump .stale).settle ∧
      exec (.reserveAnswer b j c g .refused reason) s =
        .next (if r.oldDropped then (s.restartSilence b).endCall c .radioLost
          else (s.restartSilence b).attemptEnd c .targetDrop).settle)

/-- A batch entry's due frame is the smallest count after the present one that is a multiple of the mark spacing, also
where the count wraps (R119); the spacings of the codes 0 to 3 are 1, 2, 4 and 8 (R111). The switch of one call: a
SWITCH LIST appended to its serving base, its channel LEAVING, the arrival timer running, SWITCHING; a refused append
ends the attempt NO_LINK_ROOM (R118). The delivery of the batch: exactly the due entries leave it, and the SWITCH
LISTs that are offered hold every due call once, each under its serving base, at most 8 to a list; the lists of one
base hold its calls in batch order, and every list of a base but its last is full (R120). Where a list is refused
every one of its calls ends its attempt; that the calls of a list are switched, or end their attempts, in list order
is the model's choice (log entry 19). -/
def Obligations.SwitchListsAndTheBatch : Prop :=
  (markSpacing 0 = 1 ∧ markSpacing 1 = 2 ∧ markSpacing 2 = 4 ∧ markSpacing 3 = 8) ∧
  (∀ (s : State) (q : List BatchEntry), s.setBatch q = { s with batch := q }) ∧
  (∀ (now : FrameCount) (code : Nat), code ≤ 3 →
      (dueFrame now (markSpacing code)).toNat % markSpacing code = 0 ∧
      0 < (dueFrame now (markSpacing code) - now).toNat ∧
      (dueFrame now (markSpacing code) - now).toNat ≤ markSpacing code ∧
      ∀ n, 0 < n → n < (dueFrame now (markSpacing code) - now).toNat → (now.toNat + n) % markSpacing code ≠ 0) ∧
  (∀ (c : CallNo) (r : Handover) (j : ChanNo) (s : State), s.calls[c].handover = some r → r.channel = some j →
      (s.appendTaken s.calls[c].base = true → s.chan s.calls[c].base s.calls[c].channel = .held c →
        s.chan r.target j = .reserved c r.tag →
        ∃ u : State, s.sendSwitchList s.calls[c].base [c] = u ∧
          u.chan s.calls[c].base s.calls[c].channel = .leaving c ∧
          (∀ x k, (x ≠ s.calls[c].base ∨ k ≠ s.calls[c].channel) → u.chan x k = s.chan x k) ∧
          u.calls[c] = { s.calls[c] with handover := some { r with
            state := .switching, reserveTimer := none
            arrivalTimer := some (s.after (s.zoneAt r.target).arrivalLimit) } } ∧
          (∀ d : CallNo, d ≠ c → u.calls[d] = s.calls[d]) ∧
          { u with calls := s.calls, chans := s.chans, acu := s.acu } =
            s.send s.calls[c].base (.switchList [⟨s.calls[c].channel, r.target, j, r.tag⟩])) ∧
      (s.appendTaken s.calls[c].base = false →
        s.sendSwitchList s.calls[c].base [c] =
          (s.bumpBase s.calls[c].base .discards).attemptEnd c .noLinkRoom)) ∧
  (∀ (s : State) (b : BaseNo) (cs : List CallNo),
      (s.appendTaken b = true →
        s.sendSwitchList b cs =
          cs.foldl (fun u c => u.beginSwitch c) (s.send b (.switchList (cs.filterMap s.switchEntry)))) ∧
      (s.appendTaken b = false →
        s.sendSwitchList b cs = cs.foldl (fun u c => u.attemptEnd c .noLinkRoom) (s.bumpBase b .discards))) ∧
  (∀ s : State, s.serves = true →
      ∃ (u : State) (lists : List (BaseNo × List CallNo)), exec .switchBatchDelivery s = .next u.settle ∧
        u = lists.foldl (fun t p => t.sendSwitchList p.1 p.2) (s.setBatch (s.batch.filter fun e => e.due != s.now)) ∧
        (lists.flatMap (·.2)).Perm ((s.batch.filter fun e => e.due == s.now).map (·.call)) ∧
        (∀ p ∈ lists, 1 ≤ p.2.length ∧ p.2.length ≤ 8 ∧ ∀ c ∈ p.2, s.calls[c].base = p.1) ∧
        (∀ b : BaseNo,
          (lists.filter fun p => p.1 == b).flatMap (·.2) =
            ((s.batch.filter fun e => e.due == s.now).map (·.call)).filter (fun c => s.calls[c].base == b) ∧
          ∀ p ∈ (lists.filter fun p => p.1 == b).dropLast, p.2.length = 8) ∧
        ((s.batch.map (·.call)).Nodup → u.batch = s.batch.filter fun e => e.due != s.now))

/-- An attempt that ends while its call goes on: the record and any batch entry are gone, the call is CONNECTED, its
last abort reason is set and ABORT raised, the reservation is given up — in SWITCHING the call is back on its old
channel — and an abort of the target is counted; the hold timer starts for a DECISION only; a FORCE MOVE is answered
FAILED with the reason's code, or CANCELLED CANCEL where the reason is CANCELLED (R104, R124, R128). The target is
offered a RELEASE with the tag, and in SWITCHING the serving base a STAY after it. A record that holds no reservation
gives none up: no message is offered and no abort counted (R124). -/
def Obligations.AttemptEndsAndTheCallGoesOn : Prop :=
  ([AbortReason.refused, .noAnswer, .noChannel, .targetDrop, .noArrival, .noLinkRoom, .drain, .targetLost, .callEnded,
      .cancelled].map abortVerdict =
    [.failed .refused, .failed .noAnswer, .failed .noChannel, .failed .targetDrop, .failed .noArrival,
      .failed .noLinkRoom, .failed .drain, .failed .targetLost, .failed .callEnded, .cancelled .cancel]) ∧
  ∀ (c : CallNo) (a : AbortReason) (r : Handover) (s : State), s.calls[c].handover = some r →
    s.calls[c].state = .moving →
    (∀ j, r.channel = some j → s.chan r.target j = .reserved c r.tag →
      (r.state = .switching → s.chan s.calls[c].base s.calls[c].channel = .leaving c) →
      ∃ u : State, s.attemptEnd c a = u ∧
        u.calls[c] = { s.calls[c] with
          state := .connected, handover := none, lastAbort := some a
          hold := if r.kind = .decision ∧ 0 < (s.zoneAt s.calls[c].base).retryHold then
              some (s.after (s.zoneAt s.calls[c].base).retryHold)
            else s.calls[c].hold } ∧
        (∀ d : CallNo, d ≠ c → u.calls[d] = s.calls[d]) ∧
        (∀ x k, u.chan x k =
          if x = r.target ∧ k = j then .free
          else if r.state = .switching ∧ x = s.calls[c].base ∧ k = s.calls[c].channel then .held c
          else s.chan x k) ∧
        u.batch = s.batch.filter (fun e => e.call != c) ∧
        u.baseCount r.target .aborts = satSucc (s.baseCount r.target .aborts) ∧
        (∃ v, u.acu.callMarks[c] = some v ∧ v &&& attnAbort = attnAbort) ∧
        (∀ i, r.slot = some i → u.oru = (s.handBack i ⟨abortVerdict a, r.target.val, [0, r.tag]⟩).oru) ∧
        (r.slot = none → u.oru = s.oru) ∧ u.roster = s.roster ∧ u.pages = s.pages ∧
        (r.state ≠ .switching →
          u.links = (s.send r.target (.release j r.tag)).links ∧ u.wire = (s.send r.target (.release j r.tag)).wire) ∧
        (r.state = .switching →
          u.links =
            ((s.send r.target (.release j r.tag)).send s.calls[c].base (.stay s.calls[c].channel)).links ∧
          u.wire =
            ((s.send r.target (.release j r.tag)).send s.calls[c].base (.stay s.calls[c].channel)).wire)) ∧
    (r.channel = none →
      ∃ u : State, s.attemptEnd c a = u ∧
        u.calls[c] = { s.calls[c] with
          state := .connected, handover := none, lastAbort := some a
          hold := if r.kind = .decision ∧ 0 < (s.zoneAt s.calls[c].base).retryHold then
              some (s.after (s.zoneAt s.calls[c].base).retryHold)
            else s.calls[c].hold } ∧
        (∀ d : CallNo, d ≠ c → u.calls[d] = s.calls[d]) ∧
        (∀ i, r.slot = some i → u.oru = (s.handBack i ⟨abortVerdict a, r.target.val, [0, r.tag]⟩).oru) ∧
        (r.slot = none → u.oru = s.oru) ∧ u.chans = s.chans ∧ u.links = s.links ∧ u.wire = s.wire ∧
        u.counters = s.counters ∧ u.batch = s.batch.filter (fun e => e.call != c) ∧ u.roster = s.roster ∧
        u.pages = s.pages)

/-- A matching ARRIVED in SWITCHING completes the move: the old channel is FREE, the target's is HELD, the call is
CONNECTED there with the target's filtered level as its serving filter, its watch NORMAL, its hold timer stopped and
its settle timer started, its handset located; one move in and one out are counted and MOVED is raised. In another
state it is stale (R70, R89, R103, R121). The old base, while in service and with a serving filter to give it, joins
the neighbour set by the insertion rule, and every lead is 0 (R89). A FORCE MOVE is answered DONE with the new base,
its channel, the tag and the handover count (R128). The notice to a DRAINING old base counts a call moved, a call's
end there counts a call ended or, while clearing, a call cleared, and the drain completes with detail 0 once the base
serves no call, but never while clearing (R135). -/
def Obligations.ArrivedCompletesTheMove : Prop :=
  (∀ (set : List Neighbour) (t : BaseNo), levelOf set t = (set.find? fun n => n.base == t).map (·.level)) ∧
  (∀ (s : State) (b : BaseNo), s.drains[b] = none → s.callLeftNotice b = s ∧ s.callEndNotice b = s) ∧
  (∀ (b : BaseNo) (d : DrainRecord) (s : State), s.drains[b] = some d →
      (d.phase = .active →
        (s.servedBy b ≠ [] →
          s.callLeftNotice b = s.setDrain b (some { d with moved := satSucc d.moved }) ∧
          s.callEndNotice b = s.setDrain b (some { d with ended := satSucc d.ended })) ∧
        (s.servedBy b = [] →
          s.callLeftNotice b =
            (s.setDrain b (some { d with moved := satSucc d.moved })).drainComplete b
              { d with moved := satSucc d.moved } 0 ∧
          s.callEndNotice b =
            (s.setDrain b (some { d with ended := satSucc d.ended })).drainComplete b
              { d with ended := satSucc d.ended } 0)) ∧
      (d.phase = .clearing →
        s.callLeftNotice b = s ∧ s.callEndNotice b = s.setDrain b (some { d with cleared := satSucc d.cleared }))) ∧
  ∀ (b : BaseNo) (j : ChanNo) (c : CallNo) (g : AttemptTag) (r : Handover) (s : State), s.serves = true →
    linkActive (s.service b) = true → s.calls[c].handover = some r → r.target = b → r.channel = some j → r.tag = g →
    (r.state ≠ .switching → exec (.arrived b j c g) s = .next ((s.restartSilence b).bump .stale).settle) ∧
    (r.state = .switching → s.calls[c].state = .moving →
      s.chan s.calls[c].base s.calls[c].channel = .leaving c → s.chan b j = .reserved c g →
      s.roster[s.calls[c].handset].registered = true →
      ∃ u : State,
        exec (.arrived b j c g) s =
          .next (if s.service s.calls[c].base = .draining then u.callLeftNotice s.calls[c].base else u).settle ∧
        (∀ x k, u.chan x k =
          if x = b ∧ k = j then .held c
          else if x = s.calls[c].base ∧ k = s.calls[c].channel then .free
          else s.chan x k) ∧
        u.calls[c].state = .connected ∧ u.calls[c].base = b ∧ u.calls[c].channel = j ∧
        u.calls[c].handover = none ∧ u.calls[c].handoverCount = min (s.calls[c].handoverCount + 1) 255 ∧
        u.calls[c].filter = levelOf s.calls[c].neighbours b ∧
        (∀ n ∈ u.calls[c].neighbours, n.lead = 0 ∧ (s.calls[c].base ≠ b → n.base ≠ b)) ∧
        u.calls[c].watch = .normal ∧ u.calls[c].watchCount = 0 ∧ u.calls[c].hold = none ∧
        u.calls[c].settle =
          (if 0 < (s.zoneAt b).settleFrames then some (s.after (s.zoneAt b).settleFrames) else none) ∧
        (∀ d : CallNo, d ≠ c → u.calls[d] = s.calls[d]) ∧
        u.roster[s.calls[c].handset] =
          { s.roster[s.calls[c].handset] with lastBase := b, lastZone := s.links[b].zone } ∧
        (∀ h : HandsetNo, h ≠ s.calls[c].handset → u.roster[h] = s.roster[h]) ∧
        u.baseCount b .handoversIn = satSucc (s.baseCount b .handoversIn) ∧
        u.baseCount s.calls[c].base .handoversOut = satSucc (s.baseCount s.calls[c].base .handoversOut) ∧
        (∃ v, u.acu.callMarks[c] = some v ∧ v &&& attnMoved = attnMoved) ∧
        u.links = (s.restartSilence b).links ∧ u.wire = s.wire ∧ u.batch = s.batch ∧
        (∀ f, s.calls[c].filter = some f → s.inService s.calls[c].base →
          u.calls[c].neighbours =
            rankNeighbours ((insertNeighbour (s.calls[c].neighbours.filter fun n => n.base != b) s.calls[c].base f).map
              fun n => { n with lead := 0 })) ∧
        (s.calls[c].filter = none ∨ ¬s.inService s.calls[c].base →
          u.calls[c].neighbours =
            rankNeighbours ((s.calls[c].neighbours.filter fun n => n.base != b).map fun n => { n with lead := 0 })) ∧
        (r.slot = none → u.oru = s.oru) ∧
        ∀ i, r.slot = some i →
          u.oru = (s.handBack i ⟨.done .ok, b.val,
            [BitVec.ofNat 8 j.val, g, BitVec.ofNat 8 (min (s.calls[c].handoverCount + 1) 255)]⟩).oru)

/-! ### Base service (Chapter 8) -/

/-- DRAIN BASE: BUSY where a drain is in flight, NO_SERVICE where the base is not SERVING. A drain of a base that
serves calls makes it DRAINING with a fresh ACTIVE record, and handovers into it that are not yet switching end with
reason DRAIN, their calls of other bases left without a record; one of a base that serves none completes at once: the
base is STOPPED and withdrawn, and the order is answered DONE with detail 0. The drain limit clears the base: its
calls end DRAINED, it is STOPPED and withdrawn, its drain record is gone and its order answered DONE with the number
of calls cleared (R126, R133, R136, R137). The start of a drain raises LINK; its completion empties the queue,
transmits STOP and raises LINK and DRAINED. -/
def Obligations.DrainOfABase : Prop :=
  (∀ (s : State) (b : BaseNo) (d : Option DrainRecord), s.setDrain b d = { s with drains := s.drains.set b d }) ∧
  (∀ (s : State) (b : BaseNo),
      (∀ c, c ∈ s.servedBy b ↔ callLive s.calls[c].state = true ∧ s.calls[c].base = b) ∧
      (s.servedBy b).Pairwise (· < ·)) ∧
  (∀ (b : BaseNo) (d : DrainRecord) (n : Nat) (s u : State), u = s.drainComplete b d n →
      u.links[b] =
        { s.links[b] with service := .stopped, joinTimer := none, silenceTimer := none, queue := [], head := none } ∧
      u.drains[b] = none ∧ ⟨b, .stop⟩ ∈ u.wire ∧
      u.acu.basePending[b] &&& (attnLink ||| attnDrained) = attnLink ||| attnDrained ∧
      (s.servedBy b = [] → u.withdrawn b) ∧
      ∃ l, u.oru.queue = l ++ [.resultWrite d.slot ⟨.done .ok, n, drainData d⟩, .answeredWrite d.slot]) ∧
  (∀ (slot : SlotNo) (b : BaseNo) (limit : BitVec 16) (s : State), s.offers slot (.drainBase b limit) →
      (s.service b = .draining →
        exec (.drainBase slot b limit) s = .next ((s.undispatched.handBack slot ⟨.state .busy, 0, []⟩).scanOn).settle) ∧
      (s.service b ≠ .draining → s.service b ≠ .serving →
        exec (.drainBase slot b limit) s =
          .next ((s.undispatched.handBack slot ⟨.state .noService, 0, []⟩).scanOn).settle) ∧
      (s.service b = .serving →
        ∃ u : State, exec (.drainBase slot b limit) s = .next u.scanOn.settle ∧
          (∀ (c : CallNo) (r : Handover), s.calls[c].handover = some r → r.target = b → r.state ≠ .switching →
            s.calls[c].base ≠ b → u.calls[c].handover = none ∧ u.calls[c].lastAbort = some .drain) ∧
          ((∃ c : CallNo, callLive s.calls[c].state = true ∧ s.calls[c].base = b) →
            u.service b = .draining ∧ u.acu.basePending[b] &&& attnLink = attnLink ∧
            (∃ d, u.drains[b] = some d ∧ d.slot = slot ∧ d.phase = .active ∧ d.moved = 0 ∧ d.ended = 0 ∧
              d.cleared = 0 ∧ d.limit = if limit = 0 then none else some (s.after limit.toNat)) ∧
            ∀ x : BaseNo, x ≠ b → u.service x = s.service x) ∧
          ((∀ c : CallNo, ¬(callLive s.calls[c].state = true ∧ s.calls[c].base = b)) →
            u.service b = .stopped ∧ u.drains[b] = none ∧ u.withdrawn b ∧ ⟨b, .stop⟩ ∈ u.wire ∧
            u.acu.basePending[b] &&& (attnLink ||| attnDrained) = attnLink ||| attnDrained ∧
            ∃ l, u.oru.queue =
              l ++ [.resultWrite slot ⟨.done .ok, 0, [0, 0, 0, 0, 0, 0, 0, 0]⟩, .answeredWrite slot]))) ∧
  (∀ (b : BaseNo) (d : DrainRecord) (s : State), s.serves = true → s.drains[b] = some d → d.limit = some s.now →
      ∃ u : State, exec (.drainLimitExpiry b) s = .next u.settle ∧
        u.service b = .stopped ∧ u.drains[b] = none ∧ u.withdrawn b ∧ ⟨b, .stop⟩ ∈ u.wire ∧
        u.acu.basePending[b] &&& (attnLink ||| attnDrained) = attnLink ||| attnDrained ∧
        (∀ c : CallNo, callLive s.calls[c].state = true → s.calls[c].base = b →
          u.calls[c].state = .ended ∧ u.calls[c].endReason = some .drained) ∧
        ∃ l n, u.oru.queue = l ++ [.resultWrite d.slot ⟨.done .ok, n, drainData { d with cleared := n }⟩,
          .answeredWrite d.slot] ∧
          (s.service b = .draining → d.cleared = 0 → n = (s.servedBy b).length))

/-- START BASE makes a STOPPED base ABSENT with LINK raised and is answered DONE, and is refused NOT_STOPPED in any
other state (R141). STOP BASE, in every link state: the base is STOPPED with a STOP transmitted and LINK raised, and
withdrawn, its calls end STOPPED, and the order is answered DONE with the number of calls ended; a drain in flight on
it is answered FAILED STOPPED first, with the same number and the record's counts (R139, R140). -/
def Obligations.StopAndStartBaseOrders : Prop :=
  ∀ (slot : SlotNo) (b : BaseNo) (s : State),
    (s.offers slot (.stopBase b) →
      ∃ u : State, exec (.stopBase slot b) s = .next u.scanOn.settle ∧
        u.service b = .stopped ∧ u.drains[b] = none ∧ u.withdrawn b ∧
        (∀ c : CallNo, callLive s.calls[c].state = true → s.calls[c].base = b →
          u.calls[c].state = .ended ∧ u.calls[c].endReason = some .stopped) ∧
        ⟨b, .stop⟩ ∈ u.wire ∧ u.acu.basePending[b] &&& attnLink = attnLink ∧
        (∃ l, u.oru.queue = l ++ [.resultWrite slot ⟨.done .ok, (s.servedBy b).length, []⟩, .answeredWrite slot]) ∧
        ∀ d, s.drains[b] = some d →
          ∃ l, u.oru.queue =
            s.oru.queue ++ [.resultWrite d.slot ⟨.failed .stopped, (s.servedBy b).length, drainData d⟩,
              .answeredWrite d.slot] ++ l) ∧
    (s.offers slot (.startBase b) →
      (s.service b = .stopped →
        exec (.startBase slot b) s =
          .next ((((s.undispatched.updLink b fun l => { l with service := .absent }).pendBase b attnLink).handBack slot
            ⟨.done .ok, 0, []⟩).scanOn).settle) ∧
      (s.service b ≠ .stopped →
        exec (.startBase slot b) s =
          .next ((s.undispatched.handBack slot ⟨.state .notStopped, 0, []⟩).scanOn).settle))

/-- Every command keeps the channel map, the calls, the handover records and the neighbour sets in agreement, and
naming only bases in service as serving bases, targets and neighbours (R56, R58, R90); with it every command keeps the
law that outside RUNNING there is no call and that the steps of start-up come one at a time, in STARTING only (R160),
without which a base record read by start-up could take a base out of service under a call. A base that leaves service
leaves it by a withdrawal: after one, in whatever state it is taken, the base serves no call, is the target of no
handover, stands in no neighbour set and holds no HELD, RESERVED or LEAVING channel, and the calls it served have
ended with the reason given (R139). Try lists and the roster may still name the base. -/
def Obligations.WithdrawalClearsTheBase : Prop :=
  (∀ (b : BaseNo) (reason : EndReason) (s : State), (s.withdraw b reason).withdrawn b ∧
    ∀ c : CallNo, callLive s.calls[c].state = true → s.calls[c].base = b →
      (s.withdraw b reason).calls[c].state = .ended ∧ (s.withdraw b reason).calls[c].endReason = some reason) ∧
  ∀ (c : Instr) (s t : State), s.channelsOk → s.startOk → exec c s = .next t → t.channelsOk ∧ t.startOk

/-! ### Orders and exchange memory (Chapter 9) -/

/-- A frame mark first takes the work of the mark before that no command has taken; then it increases the frame count
by 1, past 2^32 − 1 to 0, and makes an intake due exactly where the intake is IDLE. That work changes no register, no
plan copy, no exchange memory, neither the port nor the intake state; each piece is what its own command does; and
where none is left the mark changes the frame count and `intakeDue` alone. The intake reads the posted-order count; a
changed count becomes the last-seen count and starts the scan at slot 0; an unchanged one ends the intake; a slot
POSTED and not in flight is read whole and TAKEN written, any other is passed over (R4, R150, R151). That the work and
the intake of a mark are commands of their own, and what a mark does with work still due, are the model's reading (log
entry 3). -/
def Obligations.MarksAndTheIntake : Prop :=
  (∀ (s j k m l r a e d : State),
      (∀ t, s.isDue t = true ↔ t = some s.now) ∧
      (∀ p, s.handoversWhere p = indicesWhere s.calls fun q => match q.handover with | some r => p r | none => false) ∧
      (j = (indicesWhere s.links fun q => s.isDue q.joinTimer).foldl (fun t b => t.takeJoinTimer b) s →
        k = (indicesWhere j.links fun q => j.isDue q.silenceTimer).foldl (fun t b => t.takeSilenceTimer b) j →
        m = (indicesWhere k.links fun q => q.head.isSome).foldl (fun t b => t.takeRetransmit b) k →
        s.dueLinks = (indicesWhere m.links fun q => q.head.isSome).foldl (fun t b => t.takeAnswerTimeout b) m) ∧
      (l = (indicesWhere s.roster fun q => s.isDue q.expiry).foldl (fun t h => t.takeLifetime h) s →
        s.dueRoster = (l.pages.map (·.handset)).foldl (fun t h => t.takeRoundTimer h) l) ∧
      (r = (s.handoversWhere fun q => s.isDue q.reserveTimer).foldl (fun t c => t.takeReserveTimer c) s →
        a = (r.handoversWhere fun q => r.isDue q.arrivalTimer).foldl (fun t c => t.takeArrivalTimer c) r →
        e = (indicesWhere a.calls fun q => a.isDue q.settle).foldl (fun t c => t.takeSettleTimer c) a →
        s.dueCalls = (indicesWhere e.calls fun q => e.isDue q.hold).foldl (fun t c => t.takeHoldTimer c) e) ∧
      (d = s.deliverBatch →
        s.dueBatch =
          (indicesWhere d.drains fun q => match q with | some x => d.isDue x.limit | none => false).foldl
            (fun t b => t.takeDrainLimit b) d)) ∧
  (∀ s : State,
      (s.oru.intake = .idle → s.scanOn = s) ∧
      (s.oru.intake = .scanning 31 → s.scanOn = s.updOru fun o => { o with intake := .idle }) ∧
      ∀ i j : SlotNo, s.oru.intake = .scanning i → j.val = i.val + 1 →
        s.scanOn = s.updOru fun o => { o with intake := .scanning j, queue := o.queue ++ [.ownerByte j] }) ∧
  (∀ s : State, s.serves = true →
      exec .frameMark s =
        .next ((s.dueWork.updRegs fun r => { r with frame := s.regs.frame + 1 }).updOru fun o => { o with
          intakeDue := s.oru.intake == .idle }).settle ∧
      s.dueWork.regs = s.regs ∧ s.dueWork.oru.intake = s.oru.intake ∧ s.dueWork.plan = s.plan ∧
      s.dueWork.port = s.port ∧ s.dueWork.mem = s.mem ∧ s.dueWork.oru.intakeDue = false ∧
      (s.nothingDue → s.dueWork = s)) ∧
  (∀ s : State, s.serves = true →
      (s.dueWork = s.dueLinks.dueRoster.dueCalls.dueBatch.takeIntake ∧
        exec .orderIntake s = .next s.takeIntake.settle ∧ exec .switchBatchDelivery s = .next s.deliverBatch.settle) ∧
      (∀ b : BaseNo,
        exec (.joinTimerExpiry b) s = .next (s.takeJoinTimer b).settle ∧
        exec (.silenceTimerExpiry b) s = .next (s.takeSilenceTimer b).settle ∧
        exec (.headRetransmit b) s = .next (s.takeRetransmit b).settle ∧
        exec (.headAnswerTimeout b) s = .next (s.takeAnswerTimeout b).settle ∧
        exec (.drainLimitExpiry b) s = .next (s.takeDrainLimit b).settle) ∧
      (∀ h : HandsetNo,
        exec (.lifetimeExpiry h) s = .next (s.takeLifetime h).settle ∧
        exec (.roundTimerExpiry h) s = .next (s.takeRoundTimer h).settle) ∧
      ∀ c : CallNo,
        exec (.reserveTimerExpiry c) s = .next (s.takeReserveTimer c).settle ∧
        exec (.arrivalTimerExpiry c) s = .next (s.takeArrivalTimer c).settle ∧
        exec (.settleTimerExpiry c) s = .next (s.takeSettleTimer c).settle ∧
        exec (.holdTimerExpiry c) s = .next (s.takeHoldTimer c).settle) ∧
  (∀ s : State, s.serves = true →
      (s.oru.intakeDue = true → s.oru.intake = .idle →
        exec .orderIntake s =
          .next (s.updOru fun o => { o with intakeDue := false, queue := o.queue ++ [.postedCount] }).settle) ∧
      (s.accessing .postedCount → s.oru.intake = .idle → ∀ count : BitVec 32,
        (count = s.oru.lastSeen → exec (.postedCountReadDone count) s = .next (s.completeAccess count).settle) ∧
        (count ≠ s.oru.lastSeen →
          exec (.postedCountReadDone count) s =
            .next ((s.completeAccess count).updOru fun o => { o with
              lastSeen := count, intake := .scanning 0, queue := o.queue ++ [.ownerByte 0] }).settle)) ∧
      ∀ (i : SlotNo) (owner : Byte), s.accessing (.ownerByte i) → s.oru.intake = .scanning i →
        (owner = 1 → s.inFlightAt i = none →
          exec (.ownerByteReadDone owner) s =
            .next ((s.completeAccess owner).updOru fun o => { o with
              queue := o.queue ++ [.slotRead i, .takenWrite i] }).settle) ∧
        (owner ≠ 1 ∨ s.inFlightAt i ≠ none →
          (∀ j : SlotNo, j.val = i.val + 1 →
            exec (.ownerByteReadDone owner) s =
              .next ((s.completeAccess owner).updOru fun o => { o with
                intake := .scanning j, queue := o.queue ++ [.ownerByte j] }).settle) ∧
          (i = 31 →
            exec (.ownerByteReadDone owner) s =
              .next ((s.completeAccess owner).updOru fun o => { o with intake := .idle }).settle)))

/-- The form checks in their order: a kind outside 1..12, a reserved parameter byte that is not 0, a number out of its
range. The places of kind and parameters in a slot (Table 9-6); the order that each kind code and its parameter bytes
spell, the bytes it occupies, and the block it is dispatched to (Table 9-9). A slot read whole with an order of good
form is in flight, CARRYING OUT, and dispatched; one of bad form is in flight, answered FORM with its code and detail
0, counted and not dispatched, and the scan goes on (R152). That a dispatched order waits, in `dispatched`, for a
command of its own is the model's reading (log entry 4). -/
def Obligations.FormChecksAndTheSlotRead : Prop :=
  (∀ (s : State) (f : Oru → Oru), s.updOru f = { s with oru := f s.oru } ∧
      s.undispatched = s.updOru fun o => { o with dispatched := none }) ∧
  (∀ (n : Nat) (w : BitVec n) (i : Nat), byteNat w i = w.toNat / 256 ^ i % 256) ∧
  (∀ w : BitVec 512, (slotKind w).toNat = byteNat w 1 ∧ ∀ i, i < 24 → byteNat (slotParams w) i = byteNat w (8 + i)) ∧
  (([1, 2, 3, 4, 5, 6, 7, 8, 9, 10, 11, 12] : List Nat).map occupiedBytes =
    [[0, 1], [0, 1], [0], [0, 1], [0, 1, 2], [0, 2, 3], [0], [0], [0, 1], [0, 1], [0, 1], [0]]) ∧
  (∀ (kind : Byte) (p : BitVec 192), (∀ i, i < 24 → i ∉ occupiedBytes kind.toNat → byteNat p i = 0) →
      (∀ h : HandsetNo, byteNat p 0 + 256 * byteNat p 1 = h.val →
        (kind = 1 → formCheck kind p = .ok (.deregister h)) ∧ (kind = 2 → formCheck kind p = .ok (.page h))) ∧
      (∀ i : SlotNo, byteNat p 0 = i.val → kind = 3 → formCheck kind p = .ok (.cancel i)) ∧
      (∀ c : CallNo, byteNat p 0 + 256 * byteNat p 1 = c.val →
        (kind = 4 → formCheck kind p = .ok (.clearCall c)) ∧
        ∀ b : BaseNo, byteNat p 2 = b.val → kind = 5 → formCheck kind p = .ok (.forceMove c b)) ∧
      (∀ b : BaseNo, byteNat p 0 = b.val →
        (∀ limit : BitVec 16, byteNat p 2 + 256 * byteNat p 3 = limit.toNat →
          kind = 6 → formCheck kind p = .ok (.drainBase b limit)) ∧
        (kind = 7 → formCheck kind p = .ok (.stopBase b)) ∧ (kind = 8 → formCheck kind p = .ok (.startBase b)) ∧
        ∀ k : ChanNo, byteNat p 1 = k.val →
          (kind = 9 → formCheck kind p = .ok (.blockChannel b k)) ∧
          (kind = 10 → formCheck kind p = .ok (.unblockChannel b k))) ∧
      (∀ z : ZoneNo, byteNat p 0 = 0 → byteNat p 1 = z.val → kind = 11 → formCheck kind p = .ok (.amendPlan (.zone z))) ∧
      (∀ b : BaseNo, byteNat p 0 = 1 → byteNat p 1 = b.val → kind = 11 → formCheck kind p = .ok (.amendPlan (.base b))) ∧
      ∀ clear : Bool, byteNat p 0 = clear.toNat → kind = 12 → formCheck kind p = .ok (.snapshot clear)) ∧
  (∀ (h : HandsetNo) (i : SlotNo) (c : CallNo) (b : BaseNo) (k : ChanNo) (l : BitVec 16) (r : PlanRecord) (clear : Bool),
      blockOf (.deregister h) = .rsu ∧ blockOf (.page h) = .pgu ∧ blockOf (.cancel i) = .oru ∧
      blockOf (.clearCall c) = .ccu ∧ blockOf (.forceMove c b) = .hoe ∧ blockOf (.drainBase b l) = .baseService ∧
      blockOf (.stopBase b) = .baseService ∧ blockOf (.startBase b) = .baseService ∧
      blockOf (.blockChannel b k) = .ccu ∧ blockOf (.unblockChannel b k) = .ccu ∧
      blockOf (.amendPlan r) = .oru ∧ blockOf (.snapshot clear) = .acu) ∧
  (∀ (kind : Byte) (p : BitVec 192),
      (formCheck kind p = .error .badKind ↔ kind.toNat = 0 ∨ 12 < kind.toNat) ∧
      (formCheck kind p = .error .badReserved ↔
        1 ≤ kind.toNat ∧ kind.toNat ≤ 12 ∧
          ∃ i, i < 24 ∧ i ∉ occupiedBytes kind.toNat ∧ byteNat p i ≠ 0) ∧
      (formCheck kind p = .error .badNumber ↔
        1 ≤ kind.toNat ∧ kind.toNat ≤ 12 ∧ (∀ i, i < 24 → i ∉ occupiedBytes kind.toNat → byteNat p i = 0) ∧
          ((kind = 1 ∨ kind = 2) ∧ 511 < (p.extractLsb' 0 16).toNat ∨
            (kind = 4 ∨ kind = 5) ∧ 255 < (p.extractLsb' 0 16).toNat ∨
            kind = 5 ∧ 47 < byteNat p 2 ∨
            (kind = 6 ∨ kind = 7 ∨ kind = 8 ∨ kind = 9 ∨ kind = 10) ∧ 47 < byteNat p 0 ∨
            (kind = 9 ∨ kind = 10) ∧ 7 < byteNat p 1 ∨
            kind = 3 ∧ 31 < byteNat p 0 ∨
            kind = 11 ∧ (1 < byteNat p 0 ∨ byteNat p 0 = 0 ∧ 15 < byteNat p 1 ∨ byteNat p 0 = 1 ∧ 47 < byteNat p 1) ∨
            kind = 12 ∧ 1 < byteNat p 0))) ∧
  (∀ (i : SlotNo) (w : BitVec 512) (s : State), s.serves = true → s.accessing (.slotRead i) →
      (∀ o, formCheck (slotKind w) (slotParams w) = .ok o →
        exec (.slotReadDone w) s =
          .next ((s.completeAccess w).updOru fun u => { u with
            inFlight := u.inFlight ++ [⟨i, slotKind w, slotParams w, some (blockOf o), .carryingOut⟩]
            dispatched := some (i, o) }).settle) ∧
      (∀ f, formCheck (slotKind w) (slotParams w) = .error f →
        exec (.slotReadDone w) s =
          .next (((((s.completeAccess w).updOru fun u => { u with
            inFlight := enterAnswering i (u.inFlight ++ [⟨i, slotKind w, slotParams w, none, .carryingOut⟩])
            queue := u.queue ++ [.resultWrite i ⟨.form f, 0, []⟩, .answeredWrite i] }).bump .refusedForm)).scanOn).settle))

/-- A result handed back puts its order in phase ANSWERING, counts a refusal and asks for the two writes of the answer
in their order. The three writes of an order's life put TAKEN, the 20 result bytes and ANSWERED into its slot, and no
other byte changes in the model's record of exchange memory, which holds what the part last wrote or read and not what
the host may have written since (log entry 2); ANSWERED raises the slot's attention bit and ends the order's flight
(R150, R153, Table 9-6). The result bytes are class, code, detail and 16 bytes of result data, those not given 0, with
the codes and the data of Tables 9-6 and 9-10. -/
def Obligations.SlotWritesReachTheSlotOnly : Prop :=
  (∀ (s t : State) (i : SlotNo) (r : OrderResult),
      t = (s.updOru fun o => { o with
        inFlight := enterAnswering i o.inFlight, queue := o.queue ++ [.resultWrite i r, .answeredWrite i] }) →
      s.handBack i r =
        (match r.verdict with
          | .state _ => t.bump .refusedState | .form _ => t.bump .refusedForm | _ => t)) ∧
  (∀ (s : State) (i : SlotNo) (l : List InFlight) (offset : Nat),
      enterAnswering i l = (l.map fun e => if e.slot = i then { e with phase := .answering } else e) ∧
      s.inFlightAt i = (s.oru.inFlight.find? fun e => e.slot == i) ∧
      s.address offset = 65536 * s.regs.xbase.toNat + offset ∧ s.exchangeByte offset = memRead s.mem (s.address offset)) ∧
  (∀ r : OrderResult,
      (resultBytes r).length = 20 ∧
      fieldAt (resultBytes r) 0 1 =
        (match r.verdict with
          | .done _ => 0 | .form _ => 1 | .state _ => 2 | .failed _ => 3 | .cancelled _ => 4) ∧
      fieldAt (resultBytes r) 1 1 = verdictCode r.verdict ∧
      fieldAt (resultBytes r) 2 2 = r.detail % 65536 ∧
      ∀ i, i < 16 → fieldAt (resultBytes r) (4 + i) 1 = (r.data[i]?.getD 0).toNat) ∧
  ([DoneCode.ok, .answered, .found].map (fun c => verdictCode (.done c)) = [0, 1, 2] ∧
    [FormCode.badKind, .badReserved, .badNumber].map (fun c => verdictCode (.form c)) = [1, 2, 3] ∧
    [StateCode.notRegistered, .inCall, .busy, .congested, .noService, .noCall, .same, .zone, .inUse, .nothing,
      .tooLate, .notStopped, .inService].map (fun c => verdictCode (.state c)) =
        [1, 2, 3, 4, 5, 6, 7, 8, 9, 10, 11, 12, 13] ∧
    [FailCode.notFound, .notRegistered, .refused, .noAnswer, .noChannel, .targetDrop, .noArrival, .noLinkRoom, .drain,
      .targetLost, .callEnded, .stopped, .baseLost].map (fun c => verdictCode (.failed c)) =
        [1, 2, 3, 4, 5, 6, 7, 8, 9, 10, 11, 12, 13] ∧
    [CancelCode.cancel, .halt, .restart].map (fun c => verdictCode (.cancelled c)) = [1, 2, 3]) ∧
  (∀ (p : PageRecord) (z : Nat),
      fieldAt (pageData p z) 0 1 = p.roundsMade % 256 ∧ fieldAt (pageData p z) 1 1 = z % 256 ∧
      fieldAt (pageData p z) 2 2 = p.appended % 65536 ∧ fieldAt (pageData p z) 4 2 = p.skipped % 65536) ∧
  (∀ d : DrainRecord,
      fieldAt (drainData d) 0 2 = d.moved % 65536 ∧ fieldAt (drainData d) 2 2 = d.ended % 65536 ∧
      fieldAt (drainData d) 4 2 = d.cleared % 65536 ∧ fieldAt (drainData d) 6 2 = d.attempts % 65536) ∧
  ∀ (i : SlotNo) (result : OrderResult) (s : State),
    (s.port.access = some ⟨.takenWrite i, 0x0800 + 64 * i.val, 1, some [2]⟩ →
      ∃ u : State, exec .takenWriteDone s = .next u.settle ∧ u.exchangeByte (0x0800 + 64 * i.val) = some 2 ∧
        (∀ a, a ≠ s.address (0x0800 + 64 * i.val) → memRead u.mem a = memRead s.mem a) ∧
        { u with mem := s.mem, port := s.port } = s) ∧
    (s.port.access = some ⟨.resultWrite i result, 0x0800 + 64 * i.val + 32, 20, some (resultBytes result)⟩ →
      ∃ u : State, exec .resultWriteDone s = .next u.settle ∧
        (∀ n, n < 20 → u.exchangeByte (0x0800 + 64 * i.val + 32 + n) = (resultBytes result)[n]?) ∧
        (∀ a, a < s.address (0x0800 + 64 * i.val + 32) ∨ s.address (0x0800 + 64 * i.val + 32) + 20 ≤ a →
          memRead u.mem a = memRead s.mem a) ∧
        { u with mem := s.mem, port := s.port } = s) ∧
    (s.port.access = some ⟨.answeredWrite i, 0x0800 + 64 * i.val, 1, some [3]⟩ →
      ∃ u : State, exec .answeredWriteDone s = .next u.settle ∧ u.exchangeByte (0x0800 + 64 * i.val) = some 3 ∧
        (∀ a, a ≠ s.address (0x0800 + 64 * i.val) → memRead u.mem a = memRead s.mem a) ∧
        u.acu.slotPending[i] = s.acu.slotPending[i] ||| attnAnswered ∧ u.inFlightAt i = none ∧
        (∀ j : SlotNo, j ≠ i → u.inFlightAt j = s.inFlightAt j) ∧
        { u with mem := s.mem, port := s.port, acu := s.acu, oru := s.oru } = s)

/-- CANCEL acts on an order in flight and CARRYING OUT in the named slot: a page ends CANCELLED, a FORCE MOVE before
SWITCHING ends CANCELLED and after it is TOO_LATE, a drain is cancelled and its base SERVING again; any other slot is
refused NOTHING (R154). The kinds that may be cancelled are 2, 5 and 6 (Table 9-9), and the page, move or drain is the
one that carries the slot. That the detail of the refusals NOTHING and TOO_LATE is the slot named, too, is the model's
reading (log entry 17). -/
def Obligations.CancelOrder : Prop :=
  (kindPage = 2 ∧ kindForceMove = 5 ∧ kindDrainBase = 6) ∧
  (∀ (s : State) (i : SlotNo),
      s.pageBySlot i = (s.pages.find? fun p => p.slot == i) ∧
      (∀ c, s.moveBySlot i = some c → ∃ r, s.calls[c].handover = some r ∧ r.slot = some i) ∧
      (s.moveBySlot i = none → ∀ (c : CallNo) (r : Handover), s.calls[c].handover = some r → r.slot ≠ some i) ∧
      (∀ b, s.drainBySlot i = some b → ∃ d, s.drains[b] = some d ∧ d.slot = i) ∧
      (s.drainBySlot i = none → ∀ (b : BaseNo) (d : DrainRecord), s.drains[b] = some d → d.slot ≠ i)) ∧
  ∀ (slot target : SlotNo) (s : State), s.offers slot (.cancel target) →
    ((∀ e, s.inFlightAt target = some e →
        e.phase = .answering ∨ (e.kind ≠ kindPage ∧ e.kind ≠ kindForceMove ∧ e.kind ≠ kindDrainBase)) →
      exec (.cancel slot target) s =
        .next ((s.undispatched.handBack slot ⟨.state .nothing, target.val, []⟩).scanOn).settle) ∧
    ∀ e, s.inFlightAt target = some e → e.phase = .carryingOut →
      (e.kind = kindPage → ∀ p, s.pageBySlot target = some p →
        exec (.cancel slot target) s =
          .next ((((s.undispatched.handBack p.slot ⟨.cancelled .cancel, 0, pageData p 0⟩).setPages
            (s.pages.filter fun q => q.handset != p.handset)).handBack slot ⟨.done .ok, target.val, []⟩).scanOn).settle) ∧
      (e.kind = kindForceMove → ∀ c r, s.moveBySlot target = some c → s.calls[c].handover = some r →
        (r.state ≠ .switching →
          exec (.cancel slot target) s =
            .next (((s.undispatched.attemptEnd c .cancelled).handBack slot ⟨.done .ok, target.val, []⟩).scanOn).settle) ∧
        (r.state = .switching →
          exec (.cancel slot target) s =
            .next ((s.undispatched.handBack slot ⟨.state .tooLate, target.val, []⟩).scanOn).settle)) ∧
      (e.kind = kindDrainBase → ∀ b d, s.drainBySlot target = some b → s.drains[b] = some d →
        exec (.cancel slot target) s =
          .next ((((((s.undispatched.updLink b fun l => { l with service := .serving }).pendBase b attnLink).setDrain b
            none).handBack d.slot ⟨.cancelled .cancel, 0, drainData d⟩).handBack slot ⟨.done .ok, target.val, []⟩).scanOn).settle)

/-- AMEND PLAN asks for its record. A zone record replaces the zone's parameters; a base record its link's plan
fields, guard count and level offset, the effective channel count only of a base ABSENT or STOPPED; a change of the
zone or channel count of a base in service is refused IN_SERVICE; the detail of DONE is the number of fields clamped,
and PLAN_CLAMPED is raised where it is above 0 (R155). The ranges of the fields of a zone record and of a base record,
and the value read for one outside its range (R2, R57, R76, R77, R95, R111, Table 9-4). Detail 0 of the refusal is the
model's choice (log entry 24). -/
def Obligations.AmendPlanAppliesItsRecord : Prop :=
  (∀ (s : State) (f : Plan → Plan), s.updPlan f = { s with plan := f s.plan }) ∧
  (∀ w : BitVec 256,
      readAs 0 5 (byteNat w 0) (zoneOf w).shift ∧ readAs 1 15 (byteNat w 1) (zoneOf w).staleLimit ∧
      readAs 0 127 (byteNat w 2) (zoneOf w).weak ∧ readAs (zoneOf w).weak 127 (byteNat w 3) (zoneOf w).recovery ∧
      readAs 0 15 (byteNat w 4) (zoneOf w).errorLimit ∧ readAs 1 8 (byteNat w 5) (zoneOf w).watchLimit ∧
      (zoneOf w).notice = (if byteNat w 6 = 1 then .edge else if byteNat w 6 = 2 then .level else .off) ∧
      readAs 0 15 (byteNat w 7) (zoneOf w).margin ∧ readAs 0 (zoneOf w).margin (byteNat w 8) (zoneOf w).weakMargin ∧
      readAs 0 3 (byteNat w 9) (zoneOf w).biasCode ∧ readAs 1 8 (byteNat w 10) (zoneOf w).leadCount ∧
      (zoneOf w).settleFrames = byteNat w 11 ∧ (zoneOf w).retryHold = byteNat w 12 ∧
      (zoneOf w).switchMode = (if byteNat w 13 = 1 then .marked else .immediate) ∧
      readAs 0 3 (byteNat w 14) (zoneOf w).spacingCode ∧ readAs 2 31 (byteNat w 15) (zoneOf w).reserveLimit ∧
      readAs 2 63 (byteNat w 16) (zoneOf w).arrivalLimit ∧
      zoneClamps w = outOfRange w [(0, 0, 5), (1, 1, 15), (2, 0, 127), (3, (zoneOf w).weak, 127), (4, 0, 15),
        (5, 1, 8), (6, 0, 2), (7, 0, 15), (8, 0, (zoneOf w).margin), (9, 0, 3), (10, 1, 8), (13, 0, 1), (14, 0, 3),
        (15, 2, 31), (16, 2, 63)]) ∧
  (∀ w : BitVec 256,
      ((baseOf w).enabled = true ↔ byteNat w 0 ≠ 0) ∧ readAs 0 15 (byteNat w 1) (baseOf w).zone.val ∧
      readAs 1 8 (byteNat w 2) (baseOf w).count ∧ readAs 0 7 (byteNat w 4) (baseOf w).guard ∧
      ((byteOf w 3).toInt < -16 → (baseOf w).offset = -16) ∧ (15 < (byteOf w 3).toInt → (baseOf w).offset = 15) ∧
      (-16 ≤ (byteOf w 3).toInt → (byteOf w 3).toInt ≤ 15 → (baseOf w).offset = (byteOf w 3).toInt) ∧
      baseClamps w = outOfRange w [(0, 0, 1), (1, 0, 15), (2, 1, 8), (4, 0, 7)] +
        (if (byteOf w 3).toInt < -16 ∨ 15 < (byteOf w 3).toInt then 1 else 0)) ∧
  ∀ (slot : SlotNo) (s : State),
    (∀ r, s.offers slot (.amendPlan r) →
      exec (.amendPlan slot r) s =
        .next ((s.undispatched.updOru fun o => { o with queue := o.queue ++ [.planRead slot r] }).scanOn).settle) ∧
    (s.serves = true → ∀ w : BitVec 256,
      (∀ z : ZoneNo, s.accessing (.planRead slot (.zone z)) →
        ∃ u : State, exec (.planRecordReadDone w) s = .next u.settle ∧
          u.plan = { s.plan with zones := s.plan.zones.set z (zoneOf w) } ∧
          u.acu.devicePending =
            s.acu.devicePending ||| (if 0 < zoneClamps w then attnPlanClamped else 0) ∧
          u.oru = ((s.completeAccess w).handBack slot ⟨.done .ok, zoneClamps w, []⟩).oru ∧
          { u with plan := s.plan, acu := s.acu, oru := s.oru } = s.completeAccess w) ∧
      ∀ b : BaseNo, s.accessing (.planRead slot (.base b)) →
        (linkActive (s.service b) = true →
            (baseOf w).zone ≠ s.links[b].zone ∨ (baseOf w).count ≠ s.links[b].planCount →
          exec (.planRecordReadDone w) s =
            .next ((s.completeAccess w).handBack slot ⟨.state .inService, 0, []⟩).settle) ∧
        (linkActive (s.service b) = false ∨
            ((baseOf w).zone = s.links[b].zone ∧ (baseOf w).count = s.links[b].planCount) →
          ∃ u : State, exec (.planRecordReadDone w) s = .next u.settle ∧
            u.links = s.links.set b { s.links[b] with
              enabled := (baseOf w).enabled, zone := (baseOf w).zone, planCount := (baseOf w).count
              effCount := if linkActive (s.service b) then s.links[b].effCount else (baseOf w).count } ∧
            u.plan = { s.plan with
              guards := s.plan.guards.set b (baseOf w).guard, offsets := s.plan.offsets.set b (baseOf w).offset } ∧
            u.acu.devicePending =
              s.acu.devicePending ||| (if 0 < baseClamps w then attnPlanClamped else 0) ∧
            u.oru = ((s.completeAccess w).handBack slot ⟨.done .ok, baseClamps w, []⟩).oru ∧
            { u with links := s.links, plan := s.plan, acu := s.acu, oru := s.oru } = s.completeAccess w))

/-! ### Attention, counters, start-up and halt (Chapters 9 and 10) -/

/-- A dirty mark: a record not dirty gets the bits named and joins the tail of the write-back queue, one already dirty
gets them added and keeps its place; bits named for an attention-only byte are added to its pending-bit set. A
pending-bit set that is not empty goes first, at the lowest offset (device, bases, slots; during a halt only the slots
answered by it: R161): it is taken whole and cleared, and its byte is read. A write-back takes the head of the queue
with the bits of its mark and captures the record's bytes. After the record the kept bits are set, byte before summary
before PENDING, and a record written with no bits sets none; the device byte has no summary write (R157, R158). A call
record written ENDED, and not dirty again, frees its entry, which takes the start values of R58 (R59). The change
count of the record goes up by 1, past 65535 to 0, and the record holds it increased; the offset of every field of a
presence record and of a call record, and what is written for a field that is absent (R149, Tables 9-2, 9-7 and 9-8);
the places of the attention and summary bytes, and the number of every attention bit (9.3.5). That the bits follow the
record's write and the report follows them, that the device byte's accesses complete as attention byte accesses, and
the order of the ACU's pieces of work are the model's reading (log entry 10); that a piece is taken when the port is
granted is its choice (log entry 25). -/
def Obligations.WriteBackSetsItsBits : Prop :=
  (attnReg = 1 ∧ attnLoc = 2 ∧ attnCall = 4 ∧
    attnState = 1 ∧ attnMoved = 2 ∧ attnWeak = 4 ∧ attnRecovered = 8 ∧ attnAbort = 16 ∧
    attnLink = 1 ∧ attnDrained = 2 ∧ attnAnswered = 1 ∧ attnRestarted = 1 ∧ attnPlanClamped = 2) ∧
  (∀ (s : State) (h : HandsetNo) (c : CallNo) (ended : Bool) (f : Acu → Acu),
      s.updAcu f = { s with acu := f s.acu } ∧
      s.acu.markBits (.handset h) = s.acu.handsetMarks[h].getD 0 ∧ s.acu.markBits (.call c) = s.acu.callMarks[c].getD 0 ∧
      s.writesEnded (.handset h) = false ∧ (s.writesEnded (.call c) = true ↔ s.calls[c].state = .ended) ∧
      reportOf (.handset h) ended = none ∧ reportOf (.call c) ended = some (c, ended) ∧ s.giveReport none = s ∧
      s.setPending = s.updRegs fun r => { r with attnPending := true }) ∧
  (∀ (n : BitVec 16) (h : HandsetNo) (e : RosterEntry) (l : List Byte), l = presenceBytes n h e →
      l.length = 32 ∧ fieldAt l 0 2 = n.toNat ∧ fieldAt l 2 2 = h.val ∧
      fieldAt l 4 1 = e.registered.toNat + 2 * e.call.isSome.toNat + 4 * e.expiry.isSome.toNat ∧
      fieldAt l 5 1 = (if e.cls = .priority then 1 else 0) ∧ fieldAt l 6 1 = e.lastBase.val ∧
      fieldAt l 7 1 = e.lastZone.val ∧ fieldAt l 8 5 = e.identity.toNat ∧
      fieldAt l 13 1 = (match e.call with | some c => c.val | none => 0) ∧ fieldAt l 14 2 = e.check.toNat ∧
      fieldAt l 16 2 = e.subIndex % 65536 ∧ fieldAt l 18 2 = e.zoneMask.toNat ∧
      fieldAt l 20 4 = e.attachFrame.toNat ∧ fieldAt l 24 4 = e.heardFrame.toNat ∧
      fieldAt l 28 4 = (match e.expiry with | some f => f.toNat | none => 0)) ∧
  (∀ (n : BitVec 16) (c : CallNo) (e : Call) (l : List Byte), l = callBytes n c e →
      l.length = 32 ∧ fieldAt l 0 2 = n.toNat ∧ fieldAt l 2 1 = c.val ∧
      fieldAt l 3 1 = (match e.state with | .free => 0 | .connected => 1 | .moving => 2 | .ended => 3) ∧
      fieldAt l 4 2 = e.handset.val ∧ fieldAt l 6 1 = e.base.val ∧ fieldAt l 7 1 = e.channel.val ∧
      fieldAt l 8 1 = (match e.origin with | .local => 0 | .paged => 1) ∧ fieldAt l 9 1 = e.handoverCount % 256 ∧
      fieldAt l 10 1 = (match e.endReason with
        | none => 0 | some .hangup => 1 | some .radioLost => 2 | some .cleared => 3 | some .reattach => 4
        | some .detached => 5 | some .drained => 6 | some .stopped => 7 | some .baseLost => 8) ∧
      fieldAt l 11 1 = (match e.lastAbort with
        | none => 0 | some .refused => 1 | some .noAnswer => 2 | some .noChannel => 3 | some .targetDrop => 4
        | some .noArrival => 5 | some .noLinkRoom => 6 | some .drain => 7 | some .targetLost => 8
        | some .cancelled => 9 | some .callEnded => 10) ∧
      fieldAt l 12 4 = e.setupFrame.toNat ∧
      fieldAt l 16 2 = (match e.filter with | some f => f % 65536 | none => 0xFFFF) ∧
      fieldAt l 18 1 = e.neighbours.length % 256 ∧
      fieldAt l 19 1 = (match e.neighbours with | x :: _ => x.base.val | [] => 0xFF) ∧
      fieldAt l 20 2 = (match e.neighbours with | x :: _ => x.level % 65536 | [] => 0) ∧
      fieldAt l 22 1 = (match e.watch with | .normal => 0 | .suspect => 1 | .weak => 2) ∧
      fieldAt l 23 1 = e.watchCount % 256 ∧
      (e.handover = none → fieldAt l 24 5 = 0) ∧
      (∀ r, e.handover = some r →
        fieldAt l 24 1 = (match r.kind with | .decision => 1 | .forced => 2 | .drain => 3) ∧
        fieldAt l 25 1 = (match r.state with | .reserving => 1 | .awaitMark => 2 | .switching => 3) ∧
        fieldAt l 26 1 = r.target.val ∧ fieldAt l 27 1 = r.tag.toNat ∧ fieldAt l 28 1 = r.oldDropped.toNat) ∧
      fieldAt l 29 3 = 0) ∧
  (∀ (h : HandsetNo) (c : CallNo) (b : BaseNo) (i : SlotNo),
      recordPlace (.handset h) = (0x2000 + 32 * h.val, 32) ∧ recordPlace (.call c) = (0x6000 + 32 * c.val, 32) ∧
      recordByte (.handset h) = .handset h ∧ recordByte (.call c) = .call c ∧
      attnOffset (.handset h) = 0x1040 + h.val ∧ attnOffset (.call c) = 0x1240 + c.val ∧
      attnOffset (.base b) = 0x1340 + b.val ∧ attnOffset (.slot i) = 0x1370 + i.val ∧
      attnOffset .device = 0x1000 + 53 ∧
      ∀ t : AttnByte, t ≠ .device → summaryIndex t = (attnOffset t - 0x1040) / 16) ∧
  ∀ s : State,
    (∀ r, s.recordBytes r = (match r with
        | .handset h => presenceBytes (s.acu.handsetChange[h] + 1) h s.roster[h]
        | .call c => callBytes (s.acu.callChange[c] + 1) c s.calls[c]) ∧
      (s.acu.takeRecord r).handsetChange = (match r with
        | .handset h => s.acu.handsetChange.set h (s.acu.handsetChange[h] + 1)
        | .call _ => s.acu.handsetChange) ∧
      (s.acu.takeRecord r).callChange = (match r with
        | .handset _ => s.acu.callChange
        | .call c => s.acu.callChange.set c (s.acu.callChange[c] + 1))) ∧
    (∀ (h : HandsetNo) (bits : Byte),
      (s.acu.handsetMarks[h] = none →
        s.markHandset h bits = s.updAcu fun a => { a with
          handsetMarks := a.handsetMarks.set h (some bits), queue := a.queue ++ [.handset h] }) ∧
      ∀ old, s.acu.handsetMarks[h] = some old →
        s.markHandset h bits = s.updAcu fun a => { a with handsetMarks := a.handsetMarks.set h (some (old ||| bits)) }) ∧
    (∀ (c : CallNo) (bits : Byte),
      (s.acu.callMarks[c] = none →
        s.markCall c bits = s.updAcu fun a => { a with
          callMarks := a.callMarks.set c (some bits), queue := a.queue ++ [.call c] }) ∧
      ∀ old, s.acu.callMarks[c] = some old →
        s.markCall c bits = s.updAcu fun a => { a with callMarks := a.callMarks.set c (some (old ||| bits)) }) ∧
    (∀ (b : BaseNo) (i : SlotNo) (bits : Byte),
      (s.pendBase b bits = s.updAcu fun a => { a with basePending := a.basePending.set b (a.basePending[b] ||| bits) }) ∧
      (s.pendSlot i bits = s.updAcu fun a => { a with slotPending := a.slotPending.set i (a.slotPending[i] ||| bits) }) ∧
      (s.pendDevice bits = s.updAcu fun a => { a with devicePending := a.devicePending ||| bits })) ∧
    (s.regs.halting = false →
      (s.acu.devicePending ≠ 0 → s.pendingByte = some .device) ∧
      (s.acu.devicePending = 0 →
        (∀ b : BaseNo, s.acu.basePending[b] ≠ 0 → (∀ x < b, s.acu.basePending[x] = 0) →
          s.pendingByte = some (.base b)) ∧
        ((∀ b : BaseNo, s.acu.basePending[b] = 0) →
          (∀ i : SlotNo, s.acu.slotPending[i] ≠ 0 → (∀ x < i, s.acu.slotPending[x] = 0) →
            s.pendingByte = some (.slot i)) ∧
          ((∀ i : SlotNo, s.acu.slotPending[i] = 0) → s.pendingByte = none)))) ∧
    (s.regs.halting = true →
      (∀ i ∈ s.regs.haltSlots, s.acu.slotPending[i] ≠ 0 →
        (∀ x ∈ s.regs.haltSlots, x < i → s.acu.slotPending[x] = 0) → s.pendingByte = some (.slot i)) ∧
      ((∀ i ∈ s.regs.haltSlots, s.acu.slotPending[i] = 0) → s.pendingByte = none)) ∧
    (∀ t bits acu, s.acu.job = none → s.regs.part = .running → s.pendingByte = some t →
      (bits, acu) = (match t with
        | .base b => (s.acu.basePending[b], { s.acu with basePending := s.acu.basePending.set b 0 })
        | .slot i => (s.acu.slotPending[i], { s.acu with slotPending := s.acu.slotPending.set i 0 })
        | _ => (s.acu.devicePending, { s.acu with devicePending := 0 })) →
      ∃ u, s.acuBegin = some u ∧ u.port.access = some ⟨.attnRead t, attnOffset t, 1, none⟩ ∧
        u.acu = { acu with job := some (.setBits t bits .readByte none) } ∧
        { u with port := s.port, acu := s.acu } = s) ∧
    (∀ r q, s.acu.job = none → s.serves = true → s.pendingByte = none → s.acu.snapshots = [] → s.acu.queue = r :: q →
      ∃ t, s.acuBegin = some t ∧
        t.port.access = some ⟨.recordWrite r, (recordPlace r).1, 32, some (s.recordBytes r)⟩ ∧
        t.acu.job = some (.record r (s.acu.markBits r) (s.writesEnded r)) ∧ t.acu.queue = q ∧
        t.acu.markBits r = 0 ∧ t.acu.handsetChange = (s.acu.takeRecord r).handsetChange ∧
        t.acu.callChange = (s.acu.takeRecord r).callChange ∧ { t with port := s.port, acu := s.acu } = s) ∧
    (∀ r bits ended, s.accessing (.recordWrite r) → s.acu.job = some (.record r bits ended) →
      (bits ≠ 0 →
        exec .recordWriteDone s =
          .next ((s.completeAccess (0 : BitVec 0)).updAcu fun a => { a with
            job := some (.setBits (recordByte r) bits .readByte (reportOf r ended)) }).settle) ∧
      (bits = 0 →
        exec .recordWriteDone s =
          .next (((s.completeAccess (0 : BitVec 0)).updAcu fun a => { a with job := none }).giveReport
            (reportOf r ended)).settle)) ∧
    (∀ t bits rep data, s.accessing (.attnRead t) → s.acu.job = some (.setBits t bits .readByte rep) →
      exec (.attentionByteAccessDone data) s =
        .next ((s.completeAccess data).updAcu fun a => { a with
          job := some (.setBits t bits (.writeByte (data ||| bits)) rep) }).settle) ∧
    (∀ t bits v rep data, s.accessing (.attnWrite t v) → s.acu.job = some (.setBits t bits (.writeByte v) rep) →
      (t ≠ .device →
        exec (.attentionByteAccessDone data) s =
          .next ((s.completeAccess data).updAcu fun a => { a with job := some (.setBits t bits .readSummary rep) }).settle) ∧
      (t = .device →
        exec (.attentionByteAccessDone data) s =
          .next ((((s.completeAccess data).setPending).updAcu fun a => { a with job := none }).giveReport rep).settle)) ∧
    (∀ t bits rep data, s.accessing (.sumRead t) → s.acu.job = some (.setBits t bits .readSummary rep) →
      exec (.summaryByteAccessDone data) s =
        .next ((s.completeAccess data).updAcu fun a => { a with
          job := some (.setBits t bits (.writeSummary (data ||| 1)) rep) }).settle) ∧
    (∀ t bits v rep data, s.accessing (.sumWrite t v) → s.acu.job = some (.setBits t bits (.writeSummary v) rep) →
      exec (.summaryByteAccessDone data) s =
        .next ((((s.completeAccess data).setPending).updAcu fun a => { a with job := none }).giveReport rep).settle) ∧
    ∀ c ended,
      (ended = true → s.calls[c].state = .ended → s.acu.callMarks[c] = none →
        s.giveReport (some (c, ended)) = s.updCall c fun e => { e with
          state := .free, handset := 0, base := 0, channel := 0, origin := .local, setupFrame := 0, handoverCount := 0
          endReason := none }) ∧
      (ended = false ∨ s.calls[c].state ≠ .ended ∨ s.acu.callMarks[c] ≠ none → s.giveReport (some (c, ended)) = s)

/-- A counter that is incremented goes up by 1 and stays at 65535 once there, and no other counter changes (0.7,
R159). SNAPSHOT waits its turn behind the others; each access captures the counters as it begins and, with the clear
flag, sets them to 0; the place and the bytes of each, and the order of the counters (9.3.5); each of its 49 writes is
followed by the next, and the last by the answer DONE with detail 0 and the next SNAPSHOT (R159). -/
def Obligations.SnapshotMakesItsWrites : Prop :=
  ((∀ x, x < 65535 → satSucc x = x + 1) ∧ satSucc 65535 = 65535) ∧
  (∀ (s : State) (k : GlobalCounter),
      s.globalCount k = s.counters.global[globalIndex k] ∧ { s.bump k with counters := s.counters } = s ∧
      (∀ j, (s.bump k).globalCount j = if j = k then satSucc (s.globalCount j) else s.globalCount j) ∧
      ∀ x j, (s.bump k).baseCount x j = s.baseCount x j) ∧
  (∀ (s : State) (b : BaseNo) (k : BaseCounter),
      s.baseCount b k = s.counters.base[b][baseIndex k] ∧ { s.bumpBase b k with counters := s.counters } = s ∧
      (∀ x j, (s.bumpBase b k).baseCount x j =
        if x = b ∧ j = k then satSucc (s.baseCount x j) else s.baseCount x j) ∧
      ∀ j, (s.bumpBase b k).globalCount j = s.globalCount j) ∧
  (∀ (k : Counters) (b : BaseNo),
      counterPlace b.val = (0x1400 + 16 * b.val, 16) ∧ counterPlace 48 = (0x1700, 32) ∧
      (counterBytes k b.val).length = 16 ∧ (counterBytes k 48).length = 32 ∧
      (∀ j : Fin 8, fieldAt (counterBytes k b.val) (2 * j.val) 2 = k.base[b][j] % 65536) ∧
      (∀ j : Fin 16, fieldAt (counterBytes k 48) (2 * j.val) 2 = k.global[j] % 65536) ∧
      (∀ (x : BaseNo) (j : Fin 8), (clearCounters k b.val).base[x][j] = if x = b then 0 else k.base[x][j]) ∧
      (clearCounters k b.val).global = k.global ∧ (clearCounters k 48).base = k.base ∧
      ∀ j : Fin 16, (clearCounters k 48).global[j] = 0) ∧
  ([BaseCounter.admitted, .refused, .handoversIn, .handoversOut, .aborts, .defers, .discards, .losses].map
      (fun k => (baseIndex k).val) = List.range 8 ∧
    [GlobalCounter.accepted, .rejected, .again, .lapses, .detaches, .pagesFound, .pagesNotFound, .pageSkips, .stale,
      .ignoredPairs, .malformed, .refusedForm, .refusedState, .batchFull, .dropped, .callsLost].map
      (fun k => (globalIndex k).val) = List.range 16) ∧
  ∀ s : State,
    (∀ slot clear, s.offers slot (.snapshot clear) →
      exec (.snapshot slot clear) s =
        .next ((s.undispatched.updAcu fun a => { a with
          snapshots := a.snapshots ++ [⟨slot, clear, 0⟩] }).scanOn).settle) ∧
    (∀ p r, s.acu.job = none → s.serves = true → s.pendingByte = none → s.acu.snapshots = p :: r →
      ∃ t, s.acuBegin = some t ∧
        t.port.access = some ⟨.counterWrite p.next, (counterPlace p.next).1, (counterPlace p.next).2,
          some (counterBytes s.counters p.next)⟩ ∧
        t.counters = (if p.clear then clearCounters s.counters p.next else s.counters) ∧
        { t with port := s.port, counters := s.counters } = s) ∧
    ∀ n p r, s.accessing (.counterWrite n) → s.acu.snapshots = p :: r →
      (p.next + 1 < 49 →
        exec .counterWriteDone s =
          .next ((s.completeAccess (0 : BitVec 0)).updAcu fun a => { a with
            snapshots := { p with next := p.next + 1 } :: r }).settle) ∧
      (49 ≤ p.next + 1 →
        exec .counterWriteDone s =
          .next (((s.completeAccess (0 : BitVec 0)).updAcu fun a => { a with snapshots := r }).handBack p.slot
            ⟨.done .ok, 0, []⟩).settle)

/-- Start-up: a layout version other than 1 makes the part FAULTED with fault code LAYOUT, its tables cleared (R162);
the header parameters, the zone records and the base records follow in order, each clamped and loaded; after the last
base every record is marked and the zero writes begin; then the owner bytes of slots 0..31, each TAKEN slot answered
CANCELLED RESTART, then the posted-order count as the last-seen count, then the start count read and written back
increased by 1; then the part is RUNNING with frame count 0 and RESTARTED pending, and PLAN_CLAMPED with it where a
field was clamped (R1, R156, R157, R160). The ranges of the header parameters, and the value read for one outside its
range (R3, R21, R43, R147, Table 9-3). No step of start-up changes a table but as said, so that every other table
stands as RUN left it, at its start value (R160 step 4; O51). The cut of the zero writes into 28 accesses is the
model's (log entry 9), and so are the order and size of the start-up reads (log entry 20); that a TAKEN slot is
answered before the next owner byte is read is its choice (log entry 26). -/
def Obligations.StartupReadsThePlanAndEndsRunning : Prop :=
  (∀ w : BitVec 256,
      readAs 2 255 (byteNat w 0) (headerOf w).joinLimit ∧ readAs 12 255 (byteNat w 1) (headerOf w).silenceLimit ∧
      readAs 0 3 (byteNat w 2) (headerOf w).retryCode ∧
      (headerOf w).retryAction = (if byteNat w 3 = 1 then .declareLost else .discard) ∧
      readAs 1 255 (byteNat w 4) (headerOf w).standardLife ∧ readAs 1 255 (byteNat w 5) (headerOf w).priorityLife ∧
      readAs 1 8 (byteNat w 6) (headerOf w).homeRounds ∧ readAs 4 255 (byteNat w 7) (headerOf w).pageSpacing ∧
      readAs 1 16 (byteNat w 8) (headerOf w).burst ∧
      headerClamps w = outOfRange w [(0, 2, 255), (1, 12, 255), (2, 0, 3), (3, 0, 1), (4, 1, 255), (5, 1, 255),
        (6, 1, 8), (7, 4, 255), (8, 1, 16)]) ∧
  (∀ s : State,
      (∀ version, s.accessing .startHeader →
        (version = 1 →
          exec (.startupHeaderReadDone version) s =
            .next ((s.completeAccess version).updOru fun o => { o with queue := o.queue ++ [.startParams] }).settle) ∧
        (version ≠ 1 →
          ∃ u : State, exec (.startupHeaderReadDone version) s = .next u.settle ∧
            u.regs = { s.regs with part := .faulted, fault := .layout, halting := false, haltSlots := [] } ∧
            u.wire = s.wire ∧ u.pending = s.pending ∧ u.mem = (s.completeAccess version).mem ∧
            { u with regs := .start, mem := [], wire := [], pending := [] } = State.reset)) ∧
      ∀ w : BitVec 256,
        (s.accessing .startParams →
          exec (.startupPlanReadDone w) s =
            .next (((s.completeAccess w).updPlan fun p => { p with
              header := headerOf w, clamped := p.clamped || decide (0 < headerClamps w) }).updOru fun o => { o with
                queue := o.queue ++ [.startZone 0] }).settle) ∧
        (∀ z : ZoneNo, s.accessing (.startZone z) →
          exec (.startupPlanReadDone w) s =
            .next (((s.completeAccess w).updPlan fun p => { p with
              zones := p.zones.set z (zoneOf w), clamped := p.clamped || decide (0 < zoneClamps w) }).updOru fun o => { o with
                queue := o.queue ++ [if h : z.val + 1 < 16 then .startZone ⟨z.val + 1, h⟩ else .startBase 0] }).settle) ∧
        ∀ b : BaseNo, s.accessing (.startBase b) →
          ∃ u : State, exec (.startupPlanReadDone w) s = .next u.settle ∧
            u.links = s.links.set b {
              service := if (baseOf w).enabled then .absent else .stopped
              enabled := (baseOf w).enabled, zone := (baseOf w).zone
              planCount := (baseOf w).count, effCount := (baseOf w).count
              joinTimer := none, silenceTimer := none, queue := [], head := none } ∧
            u.plan = { s.plan with
              guards := s.plan.guards.set b (baseOf w).guard, offsets := s.plan.offsets.set b (baseOf w).offset
              clamped := s.plan.clamped || decide (0 < baseClamps w) } ∧
            { u with links := s.links, plan := s.plan, acu := s.acu, oru := s.oru } = s.completeAccess w ∧
            (∀ h : b.val + 1 < 48, u.acu = s.acu ∧
              u.oru = { s.oru with queue := s.oru.queue ++ [.startBase ⟨b.val + 1, h⟩] }) ∧
            (b = 47 → u.oru = s.oru ∧ u.acu.queue.length = 768 ∧ u.acu.queue.Nodup ∧ u.acu.job = some (.zero 0) ∧
              (∀ h : HandsetNo, u.acu.handsetMarks[h] = some 0) ∧ ∀ c : CallNo, u.acu.callMarks[c] = some 0)) ∧
  (∀ s : State,
      (∀ n, s.accessing (.zeroWrite n) →
        (n + 1 < Config.zeroWrites →
          exec .startupZeroWriteDone s =
            .next ((s.completeAccess (0 : BitVec 0)).updAcu fun a => { a with job := some (.zero (n + 1)) }).settle) ∧
        (Config.zeroWrites ≤ n + 1 →
          exec .startupZeroWriteDone s =
            .next (((s.completeAccess (0 : BitVec 0)).updAcu fun a => { a with job := none }).updOru fun o => { o with
              queue := o.queue ++ [.scanOwner 0] }).settle)) ∧
      (∀ (i : SlotNo) (owner : Byte), s.accessing (.scanOwner i) →
        exec (.startupSlotScanReadDone owner) s =
          .next ((s.completeAccess owner).updOru fun o => { o with
            queue := o.queue
              ++ (if owner = 2 then [.resultWrite i ⟨.cancelled .restart, 0, []⟩, .answeredWrite i] else [])
              ++ [if h : i.val + 1 < 32 then .scanOwner ⟨i.val + 1, h⟩ else .postedCount] }).settle) ∧
      (s.regs.part = .starting → s.accessing .postedCount → ∀ count : BitVec 32,
        exec (.postedCountReadDone count) s =
          .next ((s.completeAccess count).updOru fun o => { o with
            lastSeen := count, queue := o.queue ++ [.startCountRead] }).settle) ∧
      ∀ count : BitVec 32,
        (s.accessing .startCountRead →
          exec (.startCountAccessDone count) s =
            .next ((s.completeAccess count).updOru fun o => { o with
              queue := o.queue ++ [.startCountWrite (count + 1)] }).settle) ∧
        ∀ v, s.accessing (.startCountWrite v) →
          ∃ u : State, exec (.startCountAccessDone count) s = .next u.settle ∧
            u.regs = { s.regs with part := .running, frame := 0 } ∧
            u.acu.devicePending =
              s.acu.devicePending ||| (if s.plan.clamped then attnRestarted ||| attnPlanClamped else attnRestarted) ∧
            { u with regs := s.regs, acu := { u.acu with devicePending := s.acu.devicePending } } =
              s.completeAccess count)

/-- An error of the exchange bus, or an access that has not completed in time, makes the part FAULTED with fault code
BUS_ERROR: every table is cleared, no link transmits, the arbiter is at its start state, and RUN, ATTN_EN, PENDING,
XBASE and the frame count stay. RESTART, in every part state, clears every table and sets CONTROL, STATUS and ATTN to
their reset values, keeping XBASE; the RESET pin resets XBASE too (R144, R148, R161, R162). That the bytes of an
abandoned write, what the part has transmitted and the waiting commands are no tables is the model's (log entries 2, 5
and 12). -/
def Obligations.FaultsAndResetsClearTheTables : Prop :=
  (∀ (c : Instr) (s : State), c = .busError ∨ c = .accessTimeout → s.port.access.isSome = true →
      ∃ u : State, exec c s = .next u ∧
        u.regs = { s.regs with part := .faulted, fault := .busError, halting := false, haltSlots := [] } ∧
        u.wire = s.wire ∧ u.pending = s.pending ∧ (memWf s.mem = true → memWf u.mem = true) ∧
        { u with regs := .start, mem := [], wire := [], pending := [] } = State.reset) ∧
  (∀ s : State,
      (∃ u : State, exec .restart s = .next u ∧ u.regs = { Regs.start with xbase := s.regs.xbase } ∧
        u.wire = s.wire ∧ u.pending = s.pending ∧
        { u with regs := .start, mem := [], wire := [], pending := [] } = State.reset) ∧
      ∃ u : State, exec .resetPin s = .next u ∧ u.regs = Regs.start ∧ u.wire = s.wire ∧ u.pending = s.pending ∧
        { u with regs := .start, mem := [], wire := [], pending := [] } = State.reset)

/-- RUN written 1: start-up begins in HALTED, and in FAULTED where RUN was 0, with the fault code NONE and the header
read first and every table cleared (R160); where RUN is 1 already nothing changes but ATTN_EN. RUN written 0: in
RUNNING the halt begins, every active base is sent one STOP, and no order of the list is left CARRYING OUT; in
STARTING the part is HALTED with its tables cleared, the arbiter among them (the model's choice, log entry 27); in
FAULTED it is HALTED and keeps its fault code; in HALTED nothing changes but ATTN_EN (R145, R156, R160 to R162). Every
order CARRYING OUT is handed a result CANCELLED HALT from its record: a page's counts, the target and tag of a FORCE
MOVE, a drain's counts, else detail and data 0 (R42, R110, R132, R156). What a halt drops, and the result of an order
not yet taken by its block, are the model's (log entry 11); so are the ascending order of the STOPs and the order of
the answers, that of the list behind the answers asked for before (log entry 19). -/
def Obligations.RunStartsAndHaltsThePart : Prop :=
  (∀ (α : Type) (n : Nat) (v : Vector α n) (p : α → Bool),
      (∀ i, i ∈ indicesWhere v p ↔ p v[i] = true) ∧ (indicesWhere v p).Pairwise (· < ·)) ∧
  (∀ (slots : List SlotNo) (k : AccessKind), keptAtHalt slots k = true ↔
      (∃ i ∈ slots, k = .takenWrite i) ∨ (∃ i r, k = .resultWrite i r) ∨ ∃ i, k = .answeredWrite i) ∧
  (∀ (attnEn : Bool) (s : State), s.regs.halting = false →
      (s.regs.run = false → s.regs.part = .halted ∨ s.regs.part = .faulted →
        ∃ u : State, exec (.runSet attnEn) s = .next u ∧
          u.regs = { s.regs with run := true, attnEn := attnEn, part := .starting, fault := .none } ∧
          u.port.access = some ⟨.startHeader, 0, 2, none⟩ ∧ u.port.holder = some .oru ∧
          u.plan = .start ∧ u.mem = s.mem ∧ u.wire = s.wire ∧ u.pending = s.pending ∧
          { u with regs := .start, port := .start, mem := [], wire := [], pending := [] } = State.reset) ∧
      (s.regs.run = true →
        exec (.runSet attnEn) s = .next (s.updRegs fun r => { r with run := true, attnEn := attnEn }).settle)) ∧
  (∀ (attnEn : Bool) (s : State), s.regs.halting = false →
      (s.regs.part = .running →
        ∃ u : State, exec (.runClear attnEn) s = .next u.settle ∧ u.regs.halting = true ∧ u.regs.run = false ∧
          u.regs.part = .running ∧
          u.wire = s.wire ++ (indicesWhere s.links fun l => linkActive l.service).map (fun b => ⟨b, .stop⟩) ∧
          (∀ e ∈ u.oru.inFlight, e.phase = .answering) ∧ u.lookup = none ∧ u.acu.snapshots = [] ∧
          u.oru.queue =
            s.oru.queue.filter (keptAtHalt (s.oru.inFlight.map (·.slot))) ++
              ((s.oru.inFlight.filter fun e => e.phase == .carryingOut).flatMap fun e =>
                [.resultWrite e.slot (s.haltResult e), .answeredWrite e.slot]) ∧
          ∀ e : InFlight,
            (e.kind = kindPage → ∀ p, s.pageBySlot e.slot = some p →
              s.haltResult e = ⟨.cancelled .halt, 0, pageData p 0⟩) ∧
            (e.kind = kindForceMove → ∀ c r, s.moveBySlot e.slot = some c → s.calls[c].handover = some r →
              s.haltResult e = ⟨.cancelled .halt, r.target.val, [0, r.tag]⟩) ∧
            (e.kind = kindDrainBase → ∀ b d, s.drainBySlot e.slot = some b → s.drains[b] = some d →
              s.haltResult e = ⟨.cancelled .halt, 0, drainData d⟩) ∧
            (e.kind ≠ kindPage → e.kind ≠ kindForceMove → e.kind ≠ kindDrainBase →
              s.haltResult e = ⟨.cancelled .halt, 0, []⟩)) ∧
      (s.regs.part = .starting →
        ∃ u : State, exec (.runClear attnEn) s = .next u ∧
          u.regs = { s.regs with run := false, attnEn := attnEn, part := .halted } ∧ u.wire = s.wire ∧
          { u with regs := .start, mem := [], wire := [], pending := [] } = State.reset) ∧
      (s.regs.part = .faulted →
        exec (.runClear attnEn) s =
          .next (s.updRegs fun r => { r with run := false, attnEn := attnEn, part := .halted })) ∧
      (s.regs.part = .halted →
        exec (.runClear attnEn) s = .next (s.updRegs fun r => { r with run := false, attnEn := attnEn })))

/-- The end of a halt: PENDING is set, every table is cleared, and the part is HALTED keeping XBASE, ATTN_EN and the
fault code; where RUN reads 1 by then start-up begins at once, with the tables cleared and the header's access begun
(R160, R161). That PENDING is set at the end of every halt, also where no order was answered, is the model's reading
(log entry 11). -/
def Obligations.HaltEndsHalted : Prop :=
  ∀ s : State, s.regs.part = .running → s.regs.halting = true → s.arbitrate.port.access = none →
    s.settle.mem = s.mem ∧ s.settle.wire = s.wire ∧ s.settle.pending = s.pending ∧
    (s.regs.run = false →
      s.settle.regs =
        { s.regs with attnPending := true, part := .halted, halting := false, haltSlots := [] } ∧
      { s.settle with regs := .start, mem := [], wire := [], pending := [] } = State.reset) ∧
    (s.regs.run = true →
      s.settle.regs =
        { s.regs with attnPending := true, part := .starting, fault := .none, halting := false, haltSlots := [] } ∧
      s.settle.port.access = some ⟨.startHeader, 0, 2, none⟩ ∧ s.settle.port.holder = some .oru ∧
      { s.settle with regs := .start, port := .start, mem := [], wire := [], pending := [] } = State.reset)

/-- The register window: XBASE is taken in HALTED and FAULTED only, its low half reading 0; a 1 in bit 0 of ATTN
clears PENDING; CONTROL acts as its bits say; other writes are ignored; what each read returns, with the codes of the
part states and of the fault codes; the ATTN output (R145, Table 9-1). That a CONTROL write with RESTART 1 acts as
RESTART whatever its other bits are is the model's choice (log entry 22). -/
def Obligations.RegisterWindow : Prop :=
  ([PartState.halted, .starting, .running, .faulted].map (fun p => (partCode p).toNat) = [0, 1, 2, 3]) ∧
  ([FaultCode.none, .layout, .busError].map (fun f => (faultFieldCode f).toNat) = [0, 1, 2]) ∧
  (∀ (s : State) (f : Regs → Regs), s.updRegs f = { s with regs := f s.regs }) ∧
  ∀ (s : State) (v : BitVec 32),
    (s.regs.part = .halted ∨ s.regs.part = .faulted →
      exec (.xbaseWrite v) s = .next (s.updRegs fun r => { r with xbase := v.extractLsb' 16 16 })) ∧
    (s.regs.part = .starting ∨ s.regs.part = .running → exec (.xbaseWrite v) s = .next s) ∧
    exec .attnClear s = .next (s.updRegs fun r => { r with attnPending := false }) ∧
    exec (.registerWrite 0x04 v) s =
      (if v.getLsbD 1 then exec .restart s
       else if v.getLsbD 0 then exec (.runSet (v.getLsbD 2)) s else exec (.runClear (v.getLsbD 2)) s) ∧
    exec (.registerWrite 0x08 v) s = exec (.xbaseWrite v) s ∧
    exec (.registerWrite 0x10 v) s = (if v.getLsbD 0 then exec .attnClear s else .next s) ∧
    (∀ offset ∈ [0x00, 0x0C, 0x14, 0x18, 0x1C], exec (.registerWrite offset v) s = .next s) ∧
    s.readRegister 0x00 = 0x0F483001 ∧
    (s.readRegister 0x04).toNat = s.regs.run.toNat + 4 * s.regs.attnEn.toNat ∧
    (s.readRegister 0x08).toNat = 65536 * s.regs.xbase.toNat ∧
    (s.readRegister 0x0C).toNat =
      (partCode s.regs.part).toNat + 4 * (faultFieldCode s.regs.fault).toNat + 65536 * (s.regs.frame.toNat % 65536) ∧
    (s.readRegister 0x10).toNat = s.regs.attnPending.toNat ∧
    (∀ offset ∈ [0x14, 0x18, 0x1C], s.readRegister offset = 0) ∧
    (s.attnOutput = true ↔ s.regs.attnPending = true ∧ s.regs.attnEn = true)

/-- The arbiter, outside a halt, changes no table but the ACU's and the Order Unit's own, and no register; it grants
nothing while an access is in progress, or where the part makes none. A port without holder goes to the first
requestor with an access to make in the rotation RSU, ORU, ACU, starting after the one that held it last, with count
0; with none, it has no holder. A holder with a further access keeps the port while no other requestor waits or its
count is below the burst allowance; otherwise the port passes by the rotation. An access that completes adds 1 to the
count (R147), and leaves the bytes it wrote, or has shown, in the model's record of exchange memory (log entry 2). The
Order Unit's next access is the head of its queue, which leaves the queue; the ACU's is the next of its piece of work,
and with none in hand the first of the next piece (O47, O48; none outside RUNNING: R160), the RSU's that of its lookup
(O15). An access begins with the offset and length of its kind, of 1 to 64 bytes, and a write with its bytes (R146,
R150, R153, R158, R160, Tables 9-2, 9-3 and 9-6); the cuts of the start-up reads and zero writes are the model's (log
entries 20 and 9). -/
def Obligations.ArbiterLeavesTheTables : Prop :=
  (∀ (s : State) (p : Port) (q : Requestor),
      s.setPort p = { s with port := p } ∧ (s.wants q = true ↔ ∃ t, s.beginFor q = some t)) ∧
  (∀ (n : Nat) (data : BitVec n) (s t : State) (x : Access), s.port.access = some x → t = s.completeAccess data →
      { t with mem := s.mem, port := s.port } = s ∧
      (∀ l, x.bytes = some l →
        (∀ i, i < l.length → t.exchangeByte (x.offset + i) = l[i]?) ∧
        ∀ a, a < s.address x.offset ∨ s.address x.offset + l.length ≤ a → memRead t.mem a = memRead s.mem a) ∧
      (x.bytes = none →
        (∀ i, i < x.length → ∃ y, t.exchangeByte (x.offset + i) = some y ∧ y.toNat = byteNat data i) ∧
        ∀ a, a < s.address x.offset ∨ s.address x.offset + x.length ≤ a → memRead t.mem a = memRead s.mem a)) ∧
  (∀ (s : State) (k : AccessKind),
      s.beginAccess k =
        s.setPort { s.port with access := some ⟨k, (accessPlace k).1, (accessPlace k).2, s.accessBytes k⟩ } ∧
      1 ≤ (accessPlace k).2 ∧ (accessPlace k).2 ≤ 64 ∧
      ∀ l, s.accessBytes k = some l → l.length = (accessPlace k).2) ∧
  (∀ s : State,
      (∀ k q, s.oru.queue = k :: q → s.beginFor .oru = some ((s.updOru fun o => { o with queue := q }).beginAccess k)) ∧
      (s.oru.queue = [] → s.beginFor .oru = none) ∧
      (∀ t bits rep v,
        (s.acu.job = some (.setBits t bits .readByte rep) → s.beginFor .acu = some (s.beginAccess (.attnRead t))) ∧
        (s.acu.job = some (.setBits t bits (.writeByte v) rep) →
          s.beginFor .acu = some (s.beginAccess (.attnWrite t v))) ∧
        (s.acu.job = some (.setBits t bits .readSummary rep) → s.beginFor .acu = some (s.beginAccess (.sumRead t))) ∧
        (s.acu.job = some (.setBits t bits (.writeSummary v) rep) →
          s.beginFor .acu = some (s.beginAccess (.sumWrite t v)))) ∧
      (∀ n, s.acu.job = some (.zero n) → s.beginFor .acu = some (s.beginAccess (.zeroWrite n))) ∧
      (s.acu.job = none →
        s.beginFor .acu = s.acuBegin ∧
        (s.regs.part ≠ .running ∨
            (s.pendingByte = none ∧ (s.regs.halting = true ∨ (s.acu.snapshots = [] ∧ s.acu.queue = []))) →
          s.beginFor .acu = none))) ∧
  (∀ (i : SlotNo) (z : ZoneNo) (b : BaseNo) (pos : Nat) (r : OrderResult) (v : BitVec 32) (t : AttnByte) (x : Byte),
      accessPlace .subCount = (0x0002, 2) ∧ accessPlace (.subEntry pos) = (0x8000 + 16 * pos, 16) ∧
      accessPlace .postedCount = (0x0004, 4) ∧ accessPlace (.ownerByte i) = (0x0800 + 64 * i.val, 1) ∧
      accessPlace (.slotRead i) = (0x0800 + 64 * i.val, 64) ∧ accessPlace (.takenWrite i) = (0x0800 + 64 * i.val, 1) ∧
      accessPlace (.resultWrite i r) = (0x0800 + 64 * i.val + 32, 20) ∧
      accessPlace (.answeredWrite i) = (0x0800 + 64 * i.val, 1) ∧
      accessPlace (.planRead i (.zone z)) = (0x0100 + 32 * z.val, 32) ∧
      accessPlace (.planRead i (.base b)) = (0x0300 + 16 * b.val, 16) ∧
      accessPlace .startHeader = (0x0000, 2) ∧ accessPlace .startParams = (0x000C, 9) ∧
      accessPlace (.startZone z) = (0x0100 + 32 * z.val, 32) ∧ accessPlace (.startBase b) = (0x0300 + 16 * b.val, 16) ∧
      accessPlace (.scanOwner i) = (0x0800 + 64 * i.val, 1) ∧ accessPlace .startCountRead = (0x0008, 4) ∧
      accessPlace (.startCountWrite v) = (0x0008, 4) ∧
      accessPlace (.attnRead t) = (attnOffset t, 1) ∧ accessPlace (.attnWrite t x) = (attnOffset t, 1) ∧
      accessPlace (.sumRead t) = (0x1000 + summaryIndex t, 1) ∧
      accessPlace (.sumWrite t x) = (0x1000 + summaryIndex t, 1)) ∧
  (∀ n, (n < 14 → accessPlace (.zeroWrite n) = (0x1000 + 64 * n, 64)) ∧
      (n = 14 → accessPlace (.zeroWrite n) = (0x1380, 16)) ∧
      (15 ≤ n → n < 27 → accessPlace (.zeroWrite n) = (0x1400 + 64 * (n - 15), 64)) ∧
      (n = 27 → accessPlace (.zeroWrite n) = (0x1700, 32))) ∧
  (∀ (s : State) (i : SlotNo) (z : ZoneNo) (b : BaseNo) (pos n : Nat) (p : PlanRecord) (r : OrderResult) (v : BitVec 32)
      (t : AttnByte) (x : Byte),
      (∀ k ∈ [AccessKind.subCount, .subEntry pos, .postedCount, .ownerByte i, .slotRead i, .planRead i p, .startHeader,
        .startParams, .startZone z, .startBase b, .scanOwner i, .startCountRead, .attnRead t, .sumRead t],
        s.accessBytes k = none) ∧
      s.accessBytes (.takenWrite i) = some [2] ∧ s.accessBytes (.resultWrite i r) = some (resultBytes r) ∧
      s.accessBytes (.answeredWrite i) = some [3] ∧
      (∃ l, s.accessBytes (.startCountWrite v) = some l ∧ l.length = 4 ∧ fieldAt l 0 4 = v.toNat) ∧
      s.accessBytes (.attnWrite t x) = some [x] ∧ s.accessBytes (.sumWrite t x) = some [x] ∧
      ∃ l, s.accessBytes (.zeroWrite n) = some l ∧ ∀ y ∈ l, y = 0) ∧
  (∀ s : State, s.regs.halting = false →
      { s.settle with port := s.port, oru := s.oru, acu := s.acu, counters := s.counters } = s ∧
      ((s.port.access.isSome = true ∨ s.regs.part = .halted ∨ s.regs.part = .faulted) → s.settle = s)) ∧
  (∀ (n : Nat) (data : BitVec n) (s : State), s.port.access.isSome = true →
      (s.completeAccess data).port = { s.port with access := none, count := s.port.count + 1 }) ∧
  (rotationAfter none = [.rsu, .oru, .acu] ∧ rotationAfter (some .rsu) = [.oru, .acu, .rsu] ∧
    rotationAfter (some .oru) = [.acu, .rsu, .oru] ∧ rotationAfter (some .acu) = [.rsu, .oru, .acu]) ∧
  ∀ s : State, s.regs.halting = false → s.regs.part = .starting ∨ s.regs.part = .running → s.port.access = none →
    (∀ r, s.port.holder = some r → s.wants r = true →
      (∀ q, q ≠ r → s.wants q = false) ∨ s.port.count < s.plan.header.burst →
      ∃ t, s.beginFor r = some t ∧ s.settle = t ∧ t.port.access.isSome = true ∧
        t.port = { s.port with access := t.port.access }) ∧
    (s.port.holder = none ∨
        (∃ r, s.port.holder = some r ∧
          (s.wants r = false ∨ (s.plan.header.burst ≤ s.port.count ∧ ∃ q, q ≠ r ∧ s.wants q = true))) →
      (∀ (l : List Requestor) (r : Requestor) (m : List Requestor), rotationAfter s.port.last = l ++ r :: m →
        (∀ q ∈ l, s.wants q = false) → s.wants r = true →
        ∃ t, (s.setPort { s.port with holder := some r, count := 0, last := some r }).beginFor r = some t ∧
          s.settle = t ∧ t.port.access.isSome = true ∧
          t.port = { access := t.port.access, holder := some r, count := 0, last := some r }) ∧
      ((∀ q, s.wants q = false) → s.settle = s.setPort { s.port with holder := none, count := 0 }))

/-! ### Laws of the device that every command keeps -/

/-- Right after reset every law below holds, and every register is at the value of Table 9-1 (R144, R161). The tables
are cleared: every roster entry, call entry and channel at the start values of its rule (R20, R56, R58, R75, R94,
R110, R132, R147), every list empty, no mark and no pending bit set (R156, R157). -/
def Obligations.ResetIsSafe : Prop :=
  State.reset.safe ∧ State.reset.readRegister 0x00 = 0x0F483001 ∧
    (∀ offset ∈ [0x04, 0x08, 0x0C, 0x10, 0x14, 0x18, 0x1C], State.reset.readRegister offset = 0) ∧
    (∀ h : HandsetNo, State.reset.roster[h] = RosterEntry.free) ∧
    RosterEntry.free = {
      registered := false, identity := 0, check := 0, subIndex := 0, cls := .standard, zoneMask := 0, lastBase := 0
      lastZone := 0, attachFrame := 0, heardFrame := 0, expiry := none, call := none } ∧
    (∀ c : CallNo, State.reset.calls[c] = {
      state := .free, handset := 0, base := 0, channel := 0, origin := .local, setupFrame := 0, handoverCount := 0
      endReason := none, filter := none, neighbours := [], watch := .normal, watchCount := 0, settle := none
      hold := none, tagCounter := 0, lastAbort := none, handover := none }) ∧
    (∀ b k, State.reset.chan b k = .free) ∧ (∀ b : BaseNo, State.reset.drains[b] = none) ∧
    State.reset.attaches = [] ∧ State.reset.lookup = none ∧ State.reset.pages = [] ∧ State.reset.batch = [] ∧
    State.reset.port = { holder := none, count := 0, last := none, access := none } ∧
    State.reset.plan.header.burst = 1 ∧ State.reset.oru.intake = .idle ∧ State.reset.oru.inFlight = [] ∧
    State.reset.oru.queue = [] ∧ State.reset.acu.queue = [] ∧
    (∀ h : HandsetNo, State.reset.acu.handsetMarks[h] = none) ∧ (∀ c : CallNo, State.reset.acu.callMarks[c] = none) ∧
    (∀ b : BaseNo, State.reset.acu.basePending[b] = 0) ∧ (∀ i : SlotNo, State.reset.acu.slotPending[i] = 0) ∧
    State.reset.acu.devicePending = 0 ∧ State.reset.acu.snapshots = [] ∧ State.reset.acu.job = none

/-- Every command keeps the exchange memory in its canonical form (the model's record of it: log entry 2), every
counter within 0..65535 (R159), and the pending attach list and page table at their capacities with no handset paged
twice (2.3, 3.1). No identity comes to stand twice in the pending attach list, nor in it and in the roster as
REGISTERED (2.3). The write-back queue lists every dirty record once and no other (10.1, R157). The in-flight order
list keeps at most one entry a slot, with what that needs of the Order Unit's accesses: an intake examines one slot at
a time, and reads it whole only while it has no entry (9.4, R150, R151). -/
def Obligations.CommandsKeepMemoryAndCounters : Prop :=
  (∀ (c : Instr) (s t : State), s.memoryOk → exec c s = .next t → t.memoryOk) ∧
  (∀ (c : Instr) (s t : State), s.countersOk → exec c s = .next t → t.countersOk) ∧
  (∀ (c : Instr) (s t : State), s.tablesOk → exec c s = .next t → t.tablesOk) ∧
  (∀ (c : Instr) (s t : State), s.attachesOk → exec c s = .next t → t.attachesOk) ∧
  (∀ (c : Instr) (s t : State), s.marksOk → exec c s = .next t → t.marksOk) ∧
  ∀ (c : Instr) (s t : State), s.ordersOk → exec c s = .next t → t.ordersOk

/-- Every command keeps every outbound queue at 16 messages at most, with a head retry state exactly while a message
stands in it, and the queues and timers of links ABSENT and STOPPED empty and stopped (1.5, R13). With the law of the
start-up sequence (O41), every command keeps a drain record, ACTIVE, for exactly the bases whose link is DRAINING, and
none outside RUNNING (R132). -/
def Obligations.CommandsKeepLinksInOrder : Prop :=
  (∀ (c : Instr) (s t : State), s.linksOk → exec c s = .next t → t.linksOk) ∧
  ∀ (c : Instr) (s t : State), s.startOk → s.drainsOk → exec c s = .next t → t.drainsOk

/-- Every command keeps the law that every call's handset is REGISTERED and names that call (R58). -/
def Obligations.CommandsKeepCallsBound : Prop :=
  ∀ (c : Instr) (s t : State), s.callsOk → exec c s = .next t → t.callsOk

/-- Every command keeps the law that the switch batch holds at most 32 entries, no call twice and only calls whose
record is AWAIT_MARK, and that only a MOVING call has a handover record (R58, R119). -/
def Obligations.CommandsKeepTheSwitchBatch : Prop :=
  ∀ (c : Instr) (s t : State), s.batchOk → exec c s = .next t → t.batchOk

/-- Every command keeps every filtered level within 0..2032, every neighbour set at 6 entries at most and every lead
within 0..15 (R75, R87, R102). With the law of the channel map (O41), every command keeps the filter absent and the
set empty of an entry FREE or ENDED (R75), no base twice in a set and never the serving base, levels descending with
ties to the lower base number (R87), and no handover to the serving base itself (R69). -/
def Obligations.CommandsKeepLevelsInRange : Prop :=
  (∀ (c : Instr) (s t : State), s.levelsOk → exec c s = .next t → t.levelsOk) ∧
  ∀ (c : Instr) (s t : State), s.channelsOk → s.neighboursOk → exec c s = .next t → t.neighboursOk
end

