-- ==== Sys2Proof/Laws/State.lean ====
section
/-! SUPPORT. One lemma per field of State for each update, all true by rfl. -/

namespace Sys2Proof.Machine

open Sys2Proof

variable (s : State)

/-! ### updLink -/

@[simp] theorem State.updLink_regs (b : BaseNo) (f : Link → Link) : (s.updLink b f).regs = s.regs := rfl
@[simp] theorem State.updLink_port (b : BaseNo) (f : Link → Link) : (s.updLink b f).port = s.port := rfl
@[simp] theorem State.updLink_plan (b : BaseNo) (f : Link → Link) : (s.updLink b f).plan = s.plan := rfl
@[simp] theorem State.updLink_links (b : BaseNo) (f : Link → Link) : (s.updLink b f).links = s.links.set b (f s.links[b]) := rfl
@[simp] theorem State.updLink_roster (b : BaseNo) (f : Link → Link) : (s.updLink b f).roster = s.roster := rfl
@[simp] theorem State.updLink_attaches (b : BaseNo) (f : Link → Link) : (s.updLink b f).attaches = s.attaches := rfl
@[simp] theorem State.updLink_lookup (b : BaseNo) (f : Link → Link) : (s.updLink b f).lookup = s.lookup := rfl
@[simp] theorem State.updLink_pages (b : BaseNo) (f : Link → Link) : (s.updLink b f).pages = s.pages := rfl
@[simp] theorem State.updLink_chans (b : BaseNo) (f : Link → Link) : (s.updLink b f).chans = s.chans := rfl
@[simp] theorem State.updLink_calls (b : BaseNo) (f : Link → Link) : (s.updLink b f).calls = s.calls := rfl
@[simp] theorem State.updLink_batch (b : BaseNo) (f : Link → Link) : (s.updLink b f).batch = s.batch := rfl
@[simp] theorem State.updLink_drains (b : BaseNo) (f : Link → Link) : (s.updLink b f).drains = s.drains := rfl
@[simp] theorem State.updLink_oru (b : BaseNo) (f : Link → Link) : (s.updLink b f).oru = s.oru := rfl
@[simp] theorem State.updLink_acu (b : BaseNo) (f : Link → Link) : (s.updLink b f).acu = s.acu := rfl
@[simp] theorem State.updLink_counters (b : BaseNo) (f : Link → Link) : (s.updLink b f).counters = s.counters := rfl
@[simp] theorem State.updLink_mem (b : BaseNo) (f : Link → Link) : (s.updLink b f).mem = s.mem := rfl
@[simp] theorem State.updLink_wire (b : BaseNo) (f : Link → Link) : (s.updLink b f).wire = s.wire := rfl
@[simp] theorem State.updLink_pending (b : BaseNo) (f : Link → Link) : (s.updLink b f).pending = s.pending := rfl

/-! ### updEntry -/

@[simp] theorem State.updEntry_regs (h : HandsetNo) (f : RosterEntry → RosterEntry) : (s.updEntry h f).regs = s.regs := rfl
@[simp] theorem State.updEntry_port (h : HandsetNo) (f : RosterEntry → RosterEntry) : (s.updEntry h f).port = s.port := rfl
@[simp] theorem State.updEntry_plan (h : HandsetNo) (f : RosterEntry → RosterEntry) : (s.updEntry h f).plan = s.plan := rfl
@[simp] theorem State.updEntry_links (h : HandsetNo) (f : RosterEntry → RosterEntry) : (s.updEntry h f).links = s.links := rfl
@[simp] theorem State.updEntry_roster (h : HandsetNo) (f : RosterEntry → RosterEntry) : (s.updEntry h f).roster = s.roster.set h (f s.roster[h]) := rfl
@[simp] theorem State.updEntry_attaches (h : HandsetNo) (f : RosterEntry → RosterEntry) : (s.updEntry h f).attaches = s.attaches := rfl
@[simp] theorem State.updEntry_lookup (h : HandsetNo) (f : RosterEntry → RosterEntry) : (s.updEntry h f).lookup = s.lookup := rfl
@[simp] theorem State.updEntry_pages (h : HandsetNo) (f : RosterEntry → RosterEntry) : (s.updEntry h f).pages = s.pages := rfl
@[simp] theorem State.updEntry_chans (h : HandsetNo) (f : RosterEntry → RosterEntry) : (s.updEntry h f).chans = s.chans := rfl
@[simp] theorem State.updEntry_calls (h : HandsetNo) (f : RosterEntry → RosterEntry) : (s.updEntry h f).calls = s.calls := rfl
@[simp] theorem State.updEntry_batch (h : HandsetNo) (f : RosterEntry → RosterEntry) : (s.updEntry h f).batch = s.batch := rfl
@[simp] theorem State.updEntry_drains (h : HandsetNo) (f : RosterEntry → RosterEntry) : (s.updEntry h f).drains = s.drains := rfl
@[simp] theorem State.updEntry_oru (h : HandsetNo) (f : RosterEntry → RosterEntry) : (s.updEntry h f).oru = s.oru := rfl
@[simp] theorem State.updEntry_acu (h : HandsetNo) (f : RosterEntry → RosterEntry) : (s.updEntry h f).acu = s.acu := rfl
@[simp] theorem State.updEntry_counters (h : HandsetNo) (f : RosterEntry → RosterEntry) : (s.updEntry h f).counters = s.counters := rfl
@[simp] theorem State.updEntry_mem (h : HandsetNo) (f : RosterEntry → RosterEntry) : (s.updEntry h f).mem = s.mem := rfl
@[simp] theorem State.updEntry_wire (h : HandsetNo) (f : RosterEntry → RosterEntry) : (s.updEntry h f).wire = s.wire := rfl
@[simp] theorem State.updEntry_pending (h : HandsetNo) (f : RosterEntry → RosterEntry) : (s.updEntry h f).pending = s.pending := rfl

/-! ### updCall -/

@[simp] theorem State.updCall_regs (c : CallNo) (f : Call → Call) : (s.updCall c f).regs = s.regs := rfl
@[simp] theorem State.updCall_port (c : CallNo) (f : Call → Call) : (s.updCall c f).port = s.port := rfl
@[simp] theorem State.updCall_plan (c : CallNo) (f : Call → Call) : (s.updCall c f).plan = s.plan := rfl
@[simp] theorem State.updCall_links (c : CallNo) (f : Call → Call) : (s.updCall c f).links = s.links := rfl
@[simp] theorem State.updCall_roster (c : CallNo) (f : Call → Call) : (s.updCall c f).roster = s.roster := rfl
@[simp] theorem State.updCall_attaches (c : CallNo) (f : Call → Call) : (s.updCall c f).attaches = s.attaches := rfl
@[simp] theorem State.updCall_lookup (c : CallNo) (f : Call → Call) : (s.updCall c f).lookup = s.lookup := rfl
@[simp] theorem State.updCall_pages (c : CallNo) (f : Call → Call) : (s.updCall c f).pages = s.pages := rfl
@[simp] theorem State.updCall_chans (c : CallNo) (f : Call → Call) : (s.updCall c f).chans = s.chans := rfl
@[simp] theorem State.updCall_calls (c : CallNo) (f : Call → Call) : (s.updCall c f).calls = s.calls.set c (f s.calls[c]) := rfl
@[simp] theorem State.updCall_batch (c : CallNo) (f : Call → Call) : (s.updCall c f).batch = s.batch := rfl
@[simp] theorem State.updCall_drains (c : CallNo) (f : Call → Call) : (s.updCall c f).drains = s.drains := rfl
@[simp] theorem State.updCall_oru (c : CallNo) (f : Call → Call) : (s.updCall c f).oru = s.oru := rfl
@[simp] theorem State.updCall_acu (c : CallNo) (f : Call → Call) : (s.updCall c f).acu = s.acu := rfl
@[simp] theorem State.updCall_counters (c : CallNo) (f : Call → Call) : (s.updCall c f).counters = s.counters := rfl
@[simp] theorem State.updCall_mem (c : CallNo) (f : Call → Call) : (s.updCall c f).mem = s.mem := rfl
@[simp] theorem State.updCall_wire (c : CallNo) (f : Call → Call) : (s.updCall c f).wire = s.wire := rfl
@[simp] theorem State.updCall_pending (c : CallNo) (f : Call → Call) : (s.updCall c f).pending = s.pending := rfl

/-! ### setChan -/

@[simp] theorem State.setChan_regs (b : BaseNo) (k : ChanNo) (v : Chan) : (s.setChan b k v).regs = s.regs := rfl
@[simp] theorem State.setChan_port (b : BaseNo) (k : ChanNo) (v : Chan) : (s.setChan b k v).port = s.port := rfl
@[simp] theorem State.setChan_plan (b : BaseNo) (k : ChanNo) (v : Chan) : (s.setChan b k v).plan = s.plan := rfl
@[simp] theorem State.setChan_links (b : BaseNo) (k : ChanNo) (v : Chan) : (s.setChan b k v).links = s.links := rfl
@[simp] theorem State.setChan_roster (b : BaseNo) (k : ChanNo) (v : Chan) : (s.setChan b k v).roster = s.roster := rfl
@[simp] theorem State.setChan_attaches (b : BaseNo) (k : ChanNo) (v : Chan) : (s.setChan b k v).attaches = s.attaches := rfl
@[simp] theorem State.setChan_lookup (b : BaseNo) (k : ChanNo) (v : Chan) : (s.setChan b k v).lookup = s.lookup := rfl
@[simp] theorem State.setChan_pages (b : BaseNo) (k : ChanNo) (v : Chan) : (s.setChan b k v).pages = s.pages := rfl
@[simp] theorem State.setChan_chans (b : BaseNo) (k : ChanNo) (v : Chan) : (s.setChan b k v).chans = s.chans.set b (s.chans[b].set k v) := rfl
@[simp] theorem State.setChan_calls (b : BaseNo) (k : ChanNo) (v : Chan) : (s.setChan b k v).calls = s.calls := rfl
@[simp] theorem State.setChan_batch (b : BaseNo) (k : ChanNo) (v : Chan) : (s.setChan b k v).batch = s.batch := rfl
@[simp] theorem State.setChan_drains (b : BaseNo) (k : ChanNo) (v : Chan) : (s.setChan b k v).drains = s.drains := rfl
@[simp] theorem State.setChan_oru (b : BaseNo) (k : ChanNo) (v : Chan) : (s.setChan b k v).oru = s.oru := rfl
@[simp] theorem State.setChan_acu (b : BaseNo) (k : ChanNo) (v : Chan) : (s.setChan b k v).acu = s.acu := rfl
@[simp] theorem State.setChan_counters (b : BaseNo) (k : ChanNo) (v : Chan) : (s.setChan b k v).counters = s.counters := rfl
@[simp] theorem State.setChan_mem (b : BaseNo) (k : ChanNo) (v : Chan) : (s.setChan b k v).mem = s.mem := rfl
@[simp] theorem State.setChan_wire (b : BaseNo) (k : ChanNo) (v : Chan) : (s.setChan b k v).wire = s.wire := rfl
@[simp] theorem State.setChan_pending (b : BaseNo) (k : ChanNo) (v : Chan) : (s.setChan b k v).pending = s.pending := rfl

/-! ### setDrain -/

@[simp] theorem State.setDrain_regs (b : BaseNo) (d : Option DrainRecord) : (s.setDrain b d).regs = s.regs := rfl
@[simp] theorem State.setDrain_port (b : BaseNo) (d : Option DrainRecord) : (s.setDrain b d).port = s.port := rfl
@[simp] theorem State.setDrain_plan (b : BaseNo) (d : Option DrainRecord) : (s.setDrain b d).plan = s.plan := rfl
@[simp] theorem State.setDrain_links (b : BaseNo) (d : Option DrainRecord) : (s.setDrain b d).links = s.links := rfl
@[simp] theorem State.setDrain_roster (b : BaseNo) (d : Option DrainRecord) : (s.setDrain b d).roster = s.roster := rfl
@[simp] theorem State.setDrain_attaches (b : BaseNo) (d : Option DrainRecord) : (s.setDrain b d).attaches = s.attaches := rfl
@[simp] theorem State.setDrain_lookup (b : BaseNo) (d : Option DrainRecord) : (s.setDrain b d).lookup = s.lookup := rfl
@[simp] theorem State.setDrain_pages (b : BaseNo) (d : Option DrainRecord) : (s.setDrain b d).pages = s.pages := rfl
@[simp] theorem State.setDrain_chans (b : BaseNo) (d : Option DrainRecord) : (s.setDrain b d).chans = s.chans := rfl
@[simp] theorem State.setDrain_calls (b : BaseNo) (d : Option DrainRecord) : (s.setDrain b d).calls = s.calls := rfl
@[simp] theorem State.setDrain_batch (b : BaseNo) (d : Option DrainRecord) : (s.setDrain b d).batch = s.batch := rfl
@[simp] theorem State.setDrain_drains (b : BaseNo) (d : Option DrainRecord) : (s.setDrain b d).drains = s.drains.set b d := rfl
@[simp] theorem State.setDrain_oru (b : BaseNo) (d : Option DrainRecord) : (s.setDrain b d).oru = s.oru := rfl
@[simp] theorem State.setDrain_acu (b : BaseNo) (d : Option DrainRecord) : (s.setDrain b d).acu = s.acu := rfl
@[simp] theorem State.setDrain_counters (b : BaseNo) (d : Option DrainRecord) : (s.setDrain b d).counters = s.counters := rfl
@[simp] theorem State.setDrain_mem (b : BaseNo) (d : Option DrainRecord) : (s.setDrain b d).mem = s.mem := rfl
@[simp] theorem State.setDrain_wire (b : BaseNo) (d : Option DrainRecord) : (s.setDrain b d).wire = s.wire := rfl
@[simp] theorem State.setDrain_pending (b : BaseNo) (d : Option DrainRecord) : (s.setDrain b d).pending = s.pending := rfl

/-! ### setPages -/

@[simp] theorem State.setPages_regs (p : List PageRecord) : (s.setPages p).regs = s.regs := rfl
@[simp] theorem State.setPages_port (p : List PageRecord) : (s.setPages p).port = s.port := rfl
@[simp] theorem State.setPages_plan (p : List PageRecord) : (s.setPages p).plan = s.plan := rfl
@[simp] theorem State.setPages_links (p : List PageRecord) : (s.setPages p).links = s.links := rfl
@[simp] theorem State.setPages_roster (p : List PageRecord) : (s.setPages p).roster = s.roster := rfl
@[simp] theorem State.setPages_attaches (p : List PageRecord) : (s.setPages p).attaches = s.attaches := rfl
@[simp] theorem State.setPages_lookup (p : List PageRecord) : (s.setPages p).lookup = s.lookup := rfl
@[simp] theorem State.setPages_pages (p : List PageRecord) : (s.setPages p).pages = p := rfl
@[simp] theorem State.setPages_chans (p : List PageRecord) : (s.setPages p).chans = s.chans := rfl
@[simp] theorem State.setPages_calls (p : List PageRecord) : (s.setPages p).calls = s.calls := rfl
@[simp] theorem State.setPages_batch (p : List PageRecord) : (s.setPages p).batch = s.batch := rfl
@[simp] theorem State.setPages_drains (p : List PageRecord) : (s.setPages p).drains = s.drains := rfl
@[simp] theorem State.setPages_oru (p : List PageRecord) : (s.setPages p).oru = s.oru := rfl
@[simp] theorem State.setPages_acu (p : List PageRecord) : (s.setPages p).acu = s.acu := rfl
@[simp] theorem State.setPages_counters (p : List PageRecord) : (s.setPages p).counters = s.counters := rfl
@[simp] theorem State.setPages_mem (p : List PageRecord) : (s.setPages p).mem = s.mem := rfl
@[simp] theorem State.setPages_wire (p : List PageRecord) : (s.setPages p).wire = s.wire := rfl
@[simp] theorem State.setPages_pending (p : List PageRecord) : (s.setPages p).pending = s.pending := rfl

/-! ### setBatch -/

@[simp] theorem State.setBatch_regs (q : List BatchEntry) : (s.setBatch q).regs = s.regs := rfl
@[simp] theorem State.setBatch_port (q : List BatchEntry) : (s.setBatch q).port = s.port := rfl
@[simp] theorem State.setBatch_plan (q : List BatchEntry) : (s.setBatch q).plan = s.plan := rfl
@[simp] theorem State.setBatch_links (q : List BatchEntry) : (s.setBatch q).links = s.links := rfl
@[simp] theorem State.setBatch_roster (q : List BatchEntry) : (s.setBatch q).roster = s.roster := rfl
@[simp] theorem State.setBatch_attaches (q : List BatchEntry) : (s.setBatch q).attaches = s.attaches := rfl
@[simp] theorem State.setBatch_lookup (q : List BatchEntry) : (s.setBatch q).lookup = s.lookup := rfl
@[simp] theorem State.setBatch_pages (q : List BatchEntry) : (s.setBatch q).pages = s.pages := rfl
@[simp] theorem State.setBatch_chans (q : List BatchEntry) : (s.setBatch q).chans = s.chans := rfl
@[simp] theorem State.setBatch_calls (q : List BatchEntry) : (s.setBatch q).calls = s.calls := rfl
@[simp] theorem State.setBatch_batch (q : List BatchEntry) : (s.setBatch q).batch = q := rfl
@[simp] theorem State.setBatch_drains (q : List BatchEntry) : (s.setBatch q).drains = s.drains := rfl
@[simp] theorem State.setBatch_oru (q : List BatchEntry) : (s.setBatch q).oru = s.oru := rfl
@[simp] theorem State.setBatch_acu (q : List BatchEntry) : (s.setBatch q).acu = s.acu := rfl
@[simp] theorem State.setBatch_counters (q : List BatchEntry) : (s.setBatch q).counters = s.counters := rfl
@[simp] theorem State.setBatch_mem (q : List BatchEntry) : (s.setBatch q).mem = s.mem := rfl
@[simp] theorem State.setBatch_wire (q : List BatchEntry) : (s.setBatch q).wire = s.wire := rfl
@[simp] theorem State.setBatch_pending (q : List BatchEntry) : (s.setBatch q).pending = s.pending := rfl

/-! ### setAttaches -/

@[simp] theorem State.setAttaches_regs (l : List PendingAttach) (k : Option Lookup) : (s.setAttaches l k).regs = s.regs := rfl
@[simp] theorem State.setAttaches_port (l : List PendingAttach) (k : Option Lookup) : (s.setAttaches l k).port = s.port := rfl
@[simp] theorem State.setAttaches_plan (l : List PendingAttach) (k : Option Lookup) : (s.setAttaches l k).plan = s.plan := rfl
@[simp] theorem State.setAttaches_links (l : List PendingAttach) (k : Option Lookup) : (s.setAttaches l k).links = s.links := rfl
@[simp] theorem State.setAttaches_roster (l : List PendingAttach) (k : Option Lookup) : (s.setAttaches l k).roster = s.roster := rfl
@[simp] theorem State.setAttaches_attaches (l : List PendingAttach) (k : Option Lookup) : (s.setAttaches l k).attaches = l := rfl
@[simp] theorem State.setAttaches_lookup (l : List PendingAttach) (k : Option Lookup) : (s.setAttaches l k).lookup = k := rfl
@[simp] theorem State.setAttaches_pages (l : List PendingAttach) (k : Option Lookup) : (s.setAttaches l k).pages = s.pages := rfl
@[simp] theorem State.setAttaches_chans (l : List PendingAttach) (k : Option Lookup) : (s.setAttaches l k).chans = s.chans := rfl
@[simp] theorem State.setAttaches_calls (l : List PendingAttach) (k : Option Lookup) : (s.setAttaches l k).calls = s.calls := rfl
@[simp] theorem State.setAttaches_batch (l : List PendingAttach) (k : Option Lookup) : (s.setAttaches l k).batch = s.batch := rfl
@[simp] theorem State.setAttaches_drains (l : List PendingAttach) (k : Option Lookup) : (s.setAttaches l k).drains = s.drains := rfl
@[simp] theorem State.setAttaches_oru (l : List PendingAttach) (k : Option Lookup) : (s.setAttaches l k).oru = s.oru := rfl
@[simp] theorem State.setAttaches_acu (l : List PendingAttach) (k : Option Lookup) : (s.setAttaches l k).acu = s.acu := rfl
@[simp] theorem State.setAttaches_counters (l : List PendingAttach) (k : Option Lookup) : (s.setAttaches l k).counters = s.counters := rfl
@[simp] theorem State.setAttaches_mem (l : List PendingAttach) (k : Option Lookup) : (s.setAttaches l k).mem = s.mem := rfl
@[simp] theorem State.setAttaches_wire (l : List PendingAttach) (k : Option Lookup) : (s.setAttaches l k).wire = s.wire := rfl
@[simp] theorem State.setAttaches_pending (l : List PendingAttach) (k : Option Lookup) : (s.setAttaches l k).pending = s.pending := rfl

/-! ### updOru -/

@[simp] theorem State.updOru_regs (f : Oru → Oru) : (s.updOru f).regs = s.regs := rfl
@[simp] theorem State.updOru_port (f : Oru → Oru) : (s.updOru f).port = s.port := rfl
@[simp] theorem State.updOru_plan (f : Oru → Oru) : (s.updOru f).plan = s.plan := rfl
@[simp] theorem State.updOru_links (f : Oru → Oru) : (s.updOru f).links = s.links := rfl
@[simp] theorem State.updOru_roster (f : Oru → Oru) : (s.updOru f).roster = s.roster := rfl
@[simp] theorem State.updOru_attaches (f : Oru → Oru) : (s.updOru f).attaches = s.attaches := rfl
@[simp] theorem State.updOru_lookup (f : Oru → Oru) : (s.updOru f).lookup = s.lookup := rfl
@[simp] theorem State.updOru_pages (f : Oru → Oru) : (s.updOru f).pages = s.pages := rfl
@[simp] theorem State.updOru_chans (f : Oru → Oru) : (s.updOru f).chans = s.chans := rfl
@[simp] theorem State.updOru_calls (f : Oru → Oru) : (s.updOru f).calls = s.calls := rfl
@[simp] theorem State.updOru_batch (f : Oru → Oru) : (s.updOru f).batch = s.batch := rfl
@[simp] theorem State.updOru_drains (f : Oru → Oru) : (s.updOru f).drains = s.drains := rfl
@[simp] theorem State.updOru_oru (f : Oru → Oru) : (s.updOru f).oru = f s.oru := rfl
@[simp] theorem State.updOru_acu (f : Oru → Oru) : (s.updOru f).acu = s.acu := rfl
@[simp] theorem State.updOru_counters (f : Oru → Oru) : (s.updOru f).counters = s.counters := rfl
@[simp] theorem State.updOru_mem (f : Oru → Oru) : (s.updOru f).mem = s.mem := rfl
@[simp] theorem State.updOru_wire (f : Oru → Oru) : (s.updOru f).wire = s.wire := rfl
@[simp] theorem State.updOru_pending (f : Oru → Oru) : (s.updOru f).pending = s.pending := rfl

/-! ### updAcu -/

@[simp] theorem State.updAcu_regs (f : Acu → Acu) : (s.updAcu f).regs = s.regs := rfl
@[simp] theorem State.updAcu_port (f : Acu → Acu) : (s.updAcu f).port = s.port := rfl
@[simp] theorem State.updAcu_plan (f : Acu → Acu) : (s.updAcu f).plan = s.plan := rfl
@[simp] theorem State.updAcu_links (f : Acu → Acu) : (s.updAcu f).links = s.links := rfl
@[simp] theorem State.updAcu_roster (f : Acu → Acu) : (s.updAcu f).roster = s.roster := rfl
@[simp] theorem State.updAcu_attaches (f : Acu → Acu) : (s.updAcu f).attaches = s.attaches := rfl
@[simp] theorem State.updAcu_lookup (f : Acu → Acu) : (s.updAcu f).lookup = s.lookup := rfl
@[simp] theorem State.updAcu_pages (f : Acu → Acu) : (s.updAcu f).pages = s.pages := rfl
@[simp] theorem State.updAcu_chans (f : Acu → Acu) : (s.updAcu f).chans = s.chans := rfl
@[simp] theorem State.updAcu_calls (f : Acu → Acu) : (s.updAcu f).calls = s.calls := rfl
@[simp] theorem State.updAcu_batch (f : Acu → Acu) : (s.updAcu f).batch = s.batch := rfl
@[simp] theorem State.updAcu_drains (f : Acu → Acu) : (s.updAcu f).drains = s.drains := rfl
@[simp] theorem State.updAcu_oru (f : Acu → Acu) : (s.updAcu f).oru = s.oru := rfl
@[simp] theorem State.updAcu_acu (f : Acu → Acu) : (s.updAcu f).acu = f s.acu := rfl
@[simp] theorem State.updAcu_counters (f : Acu → Acu) : (s.updAcu f).counters = s.counters := rfl
@[simp] theorem State.updAcu_mem (f : Acu → Acu) : (s.updAcu f).mem = s.mem := rfl
@[simp] theorem State.updAcu_wire (f : Acu → Acu) : (s.updAcu f).wire = s.wire := rfl
@[simp] theorem State.updAcu_pending (f : Acu → Acu) : (s.updAcu f).pending = s.pending := rfl

/-! ### updRegs -/

@[simp] theorem State.updRegs_regs (f : Regs → Regs) : (s.updRegs f).regs = f s.regs := rfl
@[simp] theorem State.updRegs_port (f : Regs → Regs) : (s.updRegs f).port = s.port := rfl
@[simp] theorem State.updRegs_plan (f : Regs → Regs) : (s.updRegs f).plan = s.plan := rfl
@[simp] theorem State.updRegs_links (f : Regs → Regs) : (s.updRegs f).links = s.links := rfl
@[simp] theorem State.updRegs_roster (f : Regs → Regs) : (s.updRegs f).roster = s.roster := rfl
@[simp] theorem State.updRegs_attaches (f : Regs → Regs) : (s.updRegs f).attaches = s.attaches := rfl
@[simp] theorem State.updRegs_lookup (f : Regs → Regs) : (s.updRegs f).lookup = s.lookup := rfl
@[simp] theorem State.updRegs_pages (f : Regs → Regs) : (s.updRegs f).pages = s.pages := rfl
@[simp] theorem State.updRegs_chans (f : Regs → Regs) : (s.updRegs f).chans = s.chans := rfl
@[simp] theorem State.updRegs_calls (f : Regs → Regs) : (s.updRegs f).calls = s.calls := rfl
@[simp] theorem State.updRegs_batch (f : Regs → Regs) : (s.updRegs f).batch = s.batch := rfl
@[simp] theorem State.updRegs_drains (f : Regs → Regs) : (s.updRegs f).drains = s.drains := rfl
@[simp] theorem State.updRegs_oru (f : Regs → Regs) : (s.updRegs f).oru = s.oru := rfl
@[simp] theorem State.updRegs_acu (f : Regs → Regs) : (s.updRegs f).acu = s.acu := rfl
@[simp] theorem State.updRegs_counters (f : Regs → Regs) : (s.updRegs f).counters = s.counters := rfl
@[simp] theorem State.updRegs_mem (f : Regs → Regs) : (s.updRegs f).mem = s.mem := rfl
@[simp] theorem State.updRegs_wire (f : Regs → Regs) : (s.updRegs f).wire = s.wire := rfl
@[simp] theorem State.updRegs_pending (f : Regs → Regs) : (s.updRegs f).pending = s.pending := rfl

/-! ### updPlan -/

@[simp] theorem State.updPlan_regs (f : Plan → Plan) : (s.updPlan f).regs = s.regs := rfl
@[simp] theorem State.updPlan_port (f : Plan → Plan) : (s.updPlan f).port = s.port := rfl
@[simp] theorem State.updPlan_plan (f : Plan → Plan) : (s.updPlan f).plan = f s.plan := rfl
@[simp] theorem State.updPlan_links (f : Plan → Plan) : (s.updPlan f).links = s.links := rfl
@[simp] theorem State.updPlan_roster (f : Plan → Plan) : (s.updPlan f).roster = s.roster := rfl
@[simp] theorem State.updPlan_attaches (f : Plan → Plan) : (s.updPlan f).attaches = s.attaches := rfl
@[simp] theorem State.updPlan_lookup (f : Plan → Plan) : (s.updPlan f).lookup = s.lookup := rfl
@[simp] theorem State.updPlan_pages (f : Plan → Plan) : (s.updPlan f).pages = s.pages := rfl
@[simp] theorem State.updPlan_chans (f : Plan → Plan) : (s.updPlan f).chans = s.chans := rfl
@[simp] theorem State.updPlan_calls (f : Plan → Plan) : (s.updPlan f).calls = s.calls := rfl
@[simp] theorem State.updPlan_batch (f : Plan → Plan) : (s.updPlan f).batch = s.batch := rfl
@[simp] theorem State.updPlan_drains (f : Plan → Plan) : (s.updPlan f).drains = s.drains := rfl
@[simp] theorem State.updPlan_oru (f : Plan → Plan) : (s.updPlan f).oru = s.oru := rfl
@[simp] theorem State.updPlan_acu (f : Plan → Plan) : (s.updPlan f).acu = s.acu := rfl
@[simp] theorem State.updPlan_counters (f : Plan → Plan) : (s.updPlan f).counters = s.counters := rfl
@[simp] theorem State.updPlan_mem (f : Plan → Plan) : (s.updPlan f).mem = s.mem := rfl
@[simp] theorem State.updPlan_wire (f : Plan → Plan) : (s.updPlan f).wire = s.wire := rfl
@[simp] theorem State.updPlan_pending (f : Plan → Plan) : (s.updPlan f).pending = s.pending := rfl

/-! ### setPort -/

@[simp] theorem State.setPort_regs (p : Port) : (s.setPort p).regs = s.regs := rfl
@[simp] theorem State.setPort_port (p : Port) : (s.setPort p).port = p := rfl
@[simp] theorem State.setPort_plan (p : Port) : (s.setPort p).plan = s.plan := rfl
@[simp] theorem State.setPort_links (p : Port) : (s.setPort p).links = s.links := rfl
@[simp] theorem State.setPort_roster (p : Port) : (s.setPort p).roster = s.roster := rfl
@[simp] theorem State.setPort_attaches (p : Port) : (s.setPort p).attaches = s.attaches := rfl
@[simp] theorem State.setPort_lookup (p : Port) : (s.setPort p).lookup = s.lookup := rfl
@[simp] theorem State.setPort_pages (p : Port) : (s.setPort p).pages = s.pages := rfl
@[simp] theorem State.setPort_chans (p : Port) : (s.setPort p).chans = s.chans := rfl
@[simp] theorem State.setPort_calls (p : Port) : (s.setPort p).calls = s.calls := rfl
@[simp] theorem State.setPort_batch (p : Port) : (s.setPort p).batch = s.batch := rfl
@[simp] theorem State.setPort_drains (p : Port) : (s.setPort p).drains = s.drains := rfl
@[simp] theorem State.setPort_oru (p : Port) : (s.setPort p).oru = s.oru := rfl
@[simp] theorem State.setPort_acu (p : Port) : (s.setPort p).acu = s.acu := rfl
@[simp] theorem State.setPort_counters (p : Port) : (s.setPort p).counters = s.counters := rfl
@[simp] theorem State.setPort_mem (p : Port) : (s.setPort p).mem = s.mem := rfl
@[simp] theorem State.setPort_wire (p : Port) : (s.setPort p).wire = s.wire := rfl
@[simp] theorem State.setPort_pending (p : Port) : (s.setPort p).pending = s.pending := rfl

/-! ### setMem -/

@[simp] theorem State.setMem_regs (m : List Host.Cell) : (s.setMem m).regs = s.regs := rfl
@[simp] theorem State.setMem_port (m : List Host.Cell) : (s.setMem m).port = s.port := rfl
@[simp] theorem State.setMem_plan (m : List Host.Cell) : (s.setMem m).plan = s.plan := rfl
@[simp] theorem State.setMem_links (m : List Host.Cell) : (s.setMem m).links = s.links := rfl
@[simp] theorem State.setMem_roster (m : List Host.Cell) : (s.setMem m).roster = s.roster := rfl
@[simp] theorem State.setMem_attaches (m : List Host.Cell) : (s.setMem m).attaches = s.attaches := rfl
@[simp] theorem State.setMem_lookup (m : List Host.Cell) : (s.setMem m).lookup = s.lookup := rfl
@[simp] theorem State.setMem_pages (m : List Host.Cell) : (s.setMem m).pages = s.pages := rfl
@[simp] theorem State.setMem_chans (m : List Host.Cell) : (s.setMem m).chans = s.chans := rfl
@[simp] theorem State.setMem_calls (m : List Host.Cell) : (s.setMem m).calls = s.calls := rfl
@[simp] theorem State.setMem_batch (m : List Host.Cell) : (s.setMem m).batch = s.batch := rfl
@[simp] theorem State.setMem_drains (m : List Host.Cell) : (s.setMem m).drains = s.drains := rfl
@[simp] theorem State.setMem_oru (m : List Host.Cell) : (s.setMem m).oru = s.oru := rfl
@[simp] theorem State.setMem_acu (m : List Host.Cell) : (s.setMem m).acu = s.acu := rfl
@[simp] theorem State.setMem_counters (m : List Host.Cell) : (s.setMem m).counters = s.counters := rfl
@[simp] theorem State.setMem_mem (m : List Host.Cell) : (s.setMem m).mem = m := rfl
@[simp] theorem State.setMem_wire (m : List Host.Cell) : (s.setMem m).wire = s.wire := rfl
@[simp] theorem State.setMem_pending (m : List Host.Cell) : (s.setMem m).pending = s.pending := rfl

/-! ### transmit -/

@[simp] theorem State.transmit_regs (b : BaseNo) (m : Downlink) : (s.transmit b m).regs = s.regs := rfl
@[simp] theorem State.transmit_port (b : BaseNo) (m : Downlink) : (s.transmit b m).port = s.port := rfl
@[simp] theorem State.transmit_plan (b : BaseNo) (m : Downlink) : (s.transmit b m).plan = s.plan := rfl
@[simp] theorem State.transmit_links (b : BaseNo) (m : Downlink) : (s.transmit b m).links = s.links := rfl
@[simp] theorem State.transmit_roster (b : BaseNo) (m : Downlink) : (s.transmit b m).roster = s.roster := rfl
@[simp] theorem State.transmit_attaches (b : BaseNo) (m : Downlink) : (s.transmit b m).attaches = s.attaches := rfl
@[simp] theorem State.transmit_lookup (b : BaseNo) (m : Downlink) : (s.transmit b m).lookup = s.lookup := rfl
@[simp] theorem State.transmit_pages (b : BaseNo) (m : Downlink) : (s.transmit b m).pages = s.pages := rfl
@[simp] theorem State.transmit_chans (b : BaseNo) (m : Downlink) : (s.transmit b m).chans = s.chans := rfl
@[simp] theorem State.transmit_calls (b : BaseNo) (m : Downlink) : (s.transmit b m).calls = s.calls := rfl
@[simp] theorem State.transmit_batch (b : BaseNo) (m : Downlink) : (s.transmit b m).batch = s.batch := rfl
@[simp] theorem State.transmit_drains (b : BaseNo) (m : Downlink) : (s.transmit b m).drains = s.drains := rfl
@[simp] theorem State.transmit_oru (b : BaseNo) (m : Downlink) : (s.transmit b m).oru = s.oru := rfl
@[simp] theorem State.transmit_acu (b : BaseNo) (m : Downlink) : (s.transmit b m).acu = s.acu := rfl
@[simp] theorem State.transmit_counters (b : BaseNo) (m : Downlink) : (s.transmit b m).counters = s.counters := rfl
@[simp] theorem State.transmit_mem (b : BaseNo) (m : Downlink) : (s.transmit b m).mem = s.mem := rfl
@[simp] theorem State.transmit_wire (b : BaseNo) (m : Downlink) : (s.transmit b m).wire = s.wire ++ [⟨b, m⟩] := rfl
@[simp] theorem State.transmit_pending (b : BaseNo) (m : Downlink) : (s.transmit b m).pending = s.pending := rfl

/-! ### bump -/

@[simp] theorem State.bump_regs (k : GlobalCounter) : (s.bump k).regs = s.regs := rfl
@[simp] theorem State.bump_port (k : GlobalCounter) : (s.bump k).port = s.port := rfl
@[simp] theorem State.bump_plan (k : GlobalCounter) : (s.bump k).plan = s.plan := rfl
@[simp] theorem State.bump_links (k : GlobalCounter) : (s.bump k).links = s.links := rfl
@[simp] theorem State.bump_roster (k : GlobalCounter) : (s.bump k).roster = s.roster := rfl
@[simp] theorem State.bump_attaches (k : GlobalCounter) : (s.bump k).attaches = s.attaches := rfl
@[simp] theorem State.bump_lookup (k : GlobalCounter) : (s.bump k).lookup = s.lookup := rfl
@[simp] theorem State.bump_pages (k : GlobalCounter) : (s.bump k).pages = s.pages := rfl
@[simp] theorem State.bump_chans (k : GlobalCounter) : (s.bump k).chans = s.chans := rfl
@[simp] theorem State.bump_calls (k : GlobalCounter) : (s.bump k).calls = s.calls := rfl
@[simp] theorem State.bump_batch (k : GlobalCounter) : (s.bump k).batch = s.batch := rfl
@[simp] theorem State.bump_drains (k : GlobalCounter) : (s.bump k).drains = s.drains := rfl
@[simp] theorem State.bump_oru (k : GlobalCounter) : (s.bump k).oru = s.oru := rfl
@[simp] theorem State.bump_acu (k : GlobalCounter) : (s.bump k).acu = s.acu := rfl
@[simp] theorem State.bump_mem (k : GlobalCounter) : (s.bump k).mem = s.mem := rfl
@[simp] theorem State.bump_wire (k : GlobalCounter) : (s.bump k).wire = s.wire := rfl
@[simp] theorem State.bump_pending (k : GlobalCounter) : (s.bump k).pending = s.pending := rfl

/-! ### bumpBase -/

@[simp] theorem State.bumpBase_regs (b : BaseNo) (k : BaseCounter) : (s.bumpBase b k).regs = s.regs := rfl
@[simp] theorem State.bumpBase_port (b : BaseNo) (k : BaseCounter) : (s.bumpBase b k).port = s.port := rfl
@[simp] theorem State.bumpBase_plan (b : BaseNo) (k : BaseCounter) : (s.bumpBase b k).plan = s.plan := rfl
@[simp] theorem State.bumpBase_links (b : BaseNo) (k : BaseCounter) : (s.bumpBase b k).links = s.links := rfl
@[simp] theorem State.bumpBase_roster (b : BaseNo) (k : BaseCounter) : (s.bumpBase b k).roster = s.roster := rfl
@[simp] theorem State.bumpBase_attaches (b : BaseNo) (k : BaseCounter) : (s.bumpBase b k).attaches = s.attaches := rfl
@[simp] theorem State.bumpBase_lookup (b : BaseNo) (k : BaseCounter) : (s.bumpBase b k).lookup = s.lookup := rfl
@[simp] theorem State.bumpBase_pages (b : BaseNo) (k : BaseCounter) : (s.bumpBase b k).pages = s.pages := rfl
@[simp] theorem State.bumpBase_chans (b : BaseNo) (k : BaseCounter) : (s.bumpBase b k).chans = s.chans := rfl
@[simp] theorem State.bumpBase_calls (b : BaseNo) (k : BaseCounter) : (s.bumpBase b k).calls = s.calls := rfl
@[simp] theorem State.bumpBase_batch (b : BaseNo) (k : BaseCounter) : (s.bumpBase b k).batch = s.batch := rfl
@[simp] theorem State.bumpBase_drains (b : BaseNo) (k : BaseCounter) : (s.bumpBase b k).drains = s.drains := rfl
@[simp] theorem State.bumpBase_oru (b : BaseNo) (k : BaseCounter) : (s.bumpBase b k).oru = s.oru := rfl
@[simp] theorem State.bumpBase_acu (b : BaseNo) (k : BaseCounter) : (s.bumpBase b k).acu = s.acu := rfl
@[simp] theorem State.bumpBase_mem (b : BaseNo) (k : BaseCounter) : (s.bumpBase b k).mem = s.mem := rfl
@[simp] theorem State.bumpBase_wire (b : BaseNo) (k : BaseCounter) : (s.bumpBase b k).wire = s.wire := rfl
@[simp] theorem State.bumpBase_pending (b : BaseNo) (k : BaseCounter) : (s.bumpBase b k).pending = s.pending := rfl

/-! ### markHandset -/

@[simp] theorem State.markHandset_regs (h : HandsetNo) (v : Byte) : (s.markHandset h v).regs = s.regs := rfl
@[simp] theorem State.markHandset_port (h : HandsetNo) (v : Byte) : (s.markHandset h v).port = s.port := rfl
@[simp] theorem State.markHandset_plan (h : HandsetNo) (v : Byte) : (s.markHandset h v).plan = s.plan := rfl
@[simp] theorem State.markHandset_links (h : HandsetNo) (v : Byte) : (s.markHandset h v).links = s.links := rfl
@[simp] theorem State.markHandset_roster (h : HandsetNo) (v : Byte) : (s.markHandset h v).roster = s.roster := rfl
@[simp] theorem State.markHandset_attaches (h : HandsetNo) (v : Byte) : (s.markHandset h v).attaches = s.attaches := rfl
@[simp] theorem State.markHandset_lookup (h : HandsetNo) (v : Byte) : (s.markHandset h v).lookup = s.lookup := rfl
@[simp] theorem State.markHandset_pages (h : HandsetNo) (v : Byte) : (s.markHandset h v).pages = s.pages := rfl
@[simp] theorem State.markHandset_chans (h : HandsetNo) (v : Byte) : (s.markHandset h v).chans = s.chans := rfl
@[simp] theorem State.markHandset_calls (h : HandsetNo) (v : Byte) : (s.markHandset h v).calls = s.calls := rfl
@[simp] theorem State.markHandset_batch (h : HandsetNo) (v : Byte) : (s.markHandset h v).batch = s.batch := rfl
@[simp] theorem State.markHandset_drains (h : HandsetNo) (v : Byte) : (s.markHandset h v).drains = s.drains := rfl
@[simp] theorem State.markHandset_oru (h : HandsetNo) (v : Byte) : (s.markHandset h v).oru = s.oru := rfl
@[simp] theorem State.markHandset_counters (h : HandsetNo) (v : Byte) : (s.markHandset h v).counters = s.counters := rfl
@[simp] theorem State.markHandset_mem (h : HandsetNo) (v : Byte) : (s.markHandset h v).mem = s.mem := rfl
@[simp] theorem State.markHandset_wire (h : HandsetNo) (v : Byte) : (s.markHandset h v).wire = s.wire := rfl
@[simp] theorem State.markHandset_pending (h : HandsetNo) (v : Byte) : (s.markHandset h v).pending = s.pending := rfl

/-! ### markCall -/

@[simp] theorem State.markCall_regs (c : CallNo) (v : Byte) : (s.markCall c v).regs = s.regs := rfl
@[simp] theorem State.markCall_port (c : CallNo) (v : Byte) : (s.markCall c v).port = s.port := rfl
@[simp] theorem State.markCall_plan (c : CallNo) (v : Byte) : (s.markCall c v).plan = s.plan := rfl
@[simp] theorem State.markCall_links (c : CallNo) (v : Byte) : (s.markCall c v).links = s.links := rfl
@[simp] theorem State.markCall_roster (c : CallNo) (v : Byte) : (s.markCall c v).roster = s.roster := rfl
@[simp] theorem State.markCall_attaches (c : CallNo) (v : Byte) : (s.markCall c v).attaches = s.attaches := rfl
@[simp] theorem State.markCall_lookup (c : CallNo) (v : Byte) : (s.markCall c v).lookup = s.lookup := rfl
@[simp] theorem State.markCall_pages (c : CallNo) (v : Byte) : (s.markCall c v).pages = s.pages := rfl
@[simp] theorem State.markCall_chans (c : CallNo) (v : Byte) : (s.markCall c v).chans = s.chans := rfl
@[simp] theorem State.markCall_calls (c : CallNo) (v : Byte) : (s.markCall c v).calls = s.calls := rfl
@[simp] theorem State.markCall_batch (c : CallNo) (v : Byte) : (s.markCall c v).batch = s.batch := rfl
@[simp] theorem State.markCall_drains (c : CallNo) (v : Byte) : (s.markCall c v).drains = s.drains := rfl
@[simp] theorem State.markCall_oru (c : CallNo) (v : Byte) : (s.markCall c v).oru = s.oru := rfl
@[simp] theorem State.markCall_counters (c : CallNo) (v : Byte) : (s.markCall c v).counters = s.counters := rfl
@[simp] theorem State.markCall_mem (c : CallNo) (v : Byte) : (s.markCall c v).mem = s.mem := rfl
@[simp] theorem State.markCall_wire (c : CallNo) (v : Byte) : (s.markCall c v).wire = s.wire := rfl
@[simp] theorem State.markCall_pending (c : CallNo) (v : Byte) : (s.markCall c v).pending = s.pending := rfl

/-! ### pendBase -/

@[simp] theorem State.pendBase_regs (b : BaseNo) (v : Byte) : (s.pendBase b v).regs = s.regs := rfl
@[simp] theorem State.pendBase_port (b : BaseNo) (v : Byte) : (s.pendBase b v).port = s.port := rfl
@[simp] theorem State.pendBase_plan (b : BaseNo) (v : Byte) : (s.pendBase b v).plan = s.plan := rfl
@[simp] theorem State.pendBase_links (b : BaseNo) (v : Byte) : (s.pendBase b v).links = s.links := rfl
@[simp] theorem State.pendBase_roster (b : BaseNo) (v : Byte) : (s.pendBase b v).roster = s.roster := rfl
@[simp] theorem State.pendBase_attaches (b : BaseNo) (v : Byte) : (s.pendBase b v).attaches = s.attaches := rfl
@[simp] theorem State.pendBase_lookup (b : BaseNo) (v : Byte) : (s.pendBase b v).lookup = s.lookup := rfl
@[simp] theorem State.pendBase_pages (b : BaseNo) (v : Byte) : (s.pendBase b v).pages = s.pages := rfl
@[simp] theorem State.pendBase_chans (b : BaseNo) (v : Byte) : (s.pendBase b v).chans = s.chans := rfl
@[simp] theorem State.pendBase_calls (b : BaseNo) (v : Byte) : (s.pendBase b v).calls = s.calls := rfl
@[simp] theorem State.pendBase_batch (b : BaseNo) (v : Byte) : (s.pendBase b v).batch = s.batch := rfl
@[simp] theorem State.pendBase_drains (b : BaseNo) (v : Byte) : (s.pendBase b v).drains = s.drains := rfl
@[simp] theorem State.pendBase_oru (b : BaseNo) (v : Byte) : (s.pendBase b v).oru = s.oru := rfl
@[simp] theorem State.pendBase_counters (b : BaseNo) (v : Byte) : (s.pendBase b v).counters = s.counters := rfl
@[simp] theorem State.pendBase_mem (b : BaseNo) (v : Byte) : (s.pendBase b v).mem = s.mem := rfl
@[simp] theorem State.pendBase_wire (b : BaseNo) (v : Byte) : (s.pendBase b v).wire = s.wire := rfl
@[simp] theorem State.pendBase_pending (b : BaseNo) (v : Byte) : (s.pendBase b v).pending = s.pending := rfl

/-! ### pendSlot -/

@[simp] theorem State.pendSlot_regs (i : SlotNo) (v : Byte) : (s.pendSlot i v).regs = s.regs := rfl
@[simp] theorem State.pendSlot_port (i : SlotNo) (v : Byte) : (s.pendSlot i v).port = s.port := rfl
@[simp] theorem State.pendSlot_plan (i : SlotNo) (v : Byte) : (s.pendSlot i v).plan = s.plan := rfl
@[simp] theorem State.pendSlot_links (i : SlotNo) (v : Byte) : (s.pendSlot i v).links = s.links := rfl
@[simp] theorem State.pendSlot_roster (i : SlotNo) (v : Byte) : (s.pendSlot i v).roster = s.roster := rfl
@[simp] theorem State.pendSlot_attaches (i : SlotNo) (v : Byte) : (s.pendSlot i v).attaches = s.attaches := rfl
@[simp] theorem State.pendSlot_lookup (i : SlotNo) (v : Byte) : (s.pendSlot i v).lookup = s.lookup := rfl
@[simp] theorem State.pendSlot_pages (i : SlotNo) (v : Byte) : (s.pendSlot i v).pages = s.pages := rfl
@[simp] theorem State.pendSlot_chans (i : SlotNo) (v : Byte) : (s.pendSlot i v).chans = s.chans := rfl
@[simp] theorem State.pendSlot_calls (i : SlotNo) (v : Byte) : (s.pendSlot i v).calls = s.calls := rfl
@[simp] theorem State.pendSlot_batch (i : SlotNo) (v : Byte) : (s.pendSlot i v).batch = s.batch := rfl
@[simp] theorem State.pendSlot_drains (i : SlotNo) (v : Byte) : (s.pendSlot i v).drains = s.drains := rfl
@[simp] theorem State.pendSlot_oru (i : SlotNo) (v : Byte) : (s.pendSlot i v).oru = s.oru := rfl
@[simp] theorem State.pendSlot_counters (i : SlotNo) (v : Byte) : (s.pendSlot i v).counters = s.counters := rfl
@[simp] theorem State.pendSlot_mem (i : SlotNo) (v : Byte) : (s.pendSlot i v).mem = s.mem := rfl
@[simp] theorem State.pendSlot_wire (i : SlotNo) (v : Byte) : (s.pendSlot i v).wire = s.wire := rfl
@[simp] theorem State.pendSlot_pending (i : SlotNo) (v : Byte) : (s.pendSlot i v).pending = s.pending := rfl

/-! ### pendDevice -/

@[simp] theorem State.pendDevice_regs (v : Byte) : (s.pendDevice v).regs = s.regs := rfl
@[simp] theorem State.pendDevice_port (v : Byte) : (s.pendDevice v).port = s.port := rfl
@[simp] theorem State.pendDevice_plan (v : Byte) : (s.pendDevice v).plan = s.plan := rfl
@[simp] theorem State.pendDevice_links (v : Byte) : (s.pendDevice v).links = s.links := rfl
@[simp] theorem State.pendDevice_roster (v : Byte) : (s.pendDevice v).roster = s.roster := rfl
@[simp] theorem State.pendDevice_attaches (v : Byte) : (s.pendDevice v).attaches = s.attaches := rfl
@[simp] theorem State.pendDevice_lookup (v : Byte) : (s.pendDevice v).lookup = s.lookup := rfl
@[simp] theorem State.pendDevice_pages (v : Byte) : (s.pendDevice v).pages = s.pages := rfl
@[simp] theorem State.pendDevice_chans (v : Byte) : (s.pendDevice v).chans = s.chans := rfl
@[simp] theorem State.pendDevice_calls (v : Byte) : (s.pendDevice v).calls = s.calls := rfl
@[simp] theorem State.pendDevice_batch (v : Byte) : (s.pendDevice v).batch = s.batch := rfl
@[simp] theorem State.pendDevice_drains (v : Byte) : (s.pendDevice v).drains = s.drains := rfl
@[simp] theorem State.pendDevice_oru (v : Byte) : (s.pendDevice v).oru = s.oru := rfl
@[simp] theorem State.pendDevice_counters (v : Byte) : (s.pendDevice v).counters = s.counters := rfl
@[simp] theorem State.pendDevice_mem (v : Byte) : (s.pendDevice v).mem = s.mem := rfl
@[simp] theorem State.pendDevice_wire (v : Byte) : (s.pendDevice v).wire = s.wire := rfl
@[simp] theorem State.pendDevice_pending (v : Byte) : (s.pendDevice v).pending = s.pending := rfl

/-! ### setPending -/

@[simp] theorem State.setPending_regs : (s.setPending).regs = { s.regs with attnPending := true } := rfl
@[simp] theorem State.setPending_port : (s.setPending).port = s.port := rfl
@[simp] theorem State.setPending_plan : (s.setPending).plan = s.plan := rfl
@[simp] theorem State.setPending_links : (s.setPending).links = s.links := rfl
@[simp] theorem State.setPending_roster : (s.setPending).roster = s.roster := rfl
@[simp] theorem State.setPending_attaches : (s.setPending).attaches = s.attaches := rfl
@[simp] theorem State.setPending_lookup : (s.setPending).lookup = s.lookup := rfl
@[simp] theorem State.setPending_pages : (s.setPending).pages = s.pages := rfl
@[simp] theorem State.setPending_chans : (s.setPending).chans = s.chans := rfl
@[simp] theorem State.setPending_calls : (s.setPending).calls = s.calls := rfl
@[simp] theorem State.setPending_batch : (s.setPending).batch = s.batch := rfl
@[simp] theorem State.setPending_drains : (s.setPending).drains = s.drains := rfl
@[simp] theorem State.setPending_oru : (s.setPending).oru = s.oru := rfl
@[simp] theorem State.setPending_acu : (s.setPending).acu = s.acu := rfl
@[simp] theorem State.setPending_counters : (s.setPending).counters = s.counters := rfl
@[simp] theorem State.setPending_mem : (s.setPending).mem = s.mem := rfl
@[simp] theorem State.setPending_wire : (s.setPending).wire = s.wire := rfl
@[simp] theorem State.setPending_pending : (s.setPending).pending = s.pending := rfl

/-! ### withPending -/

@[simp] theorem State.withPending_regs (q : List Instr) : (s.withPending q).regs = s.regs := rfl
@[simp] theorem State.withPending_port (q : List Instr) : (s.withPending q).port = s.port := rfl
@[simp] theorem State.withPending_plan (q : List Instr) : (s.withPending q).plan = s.plan := rfl
@[simp] theorem State.withPending_links (q : List Instr) : (s.withPending q).links = s.links := rfl
@[simp] theorem State.withPending_roster (q : List Instr) : (s.withPending q).roster = s.roster := rfl
@[simp] theorem State.withPending_attaches (q : List Instr) : (s.withPending q).attaches = s.attaches := rfl
@[simp] theorem State.withPending_lookup (q : List Instr) : (s.withPending q).lookup = s.lookup := rfl
@[simp] theorem State.withPending_pages (q : List Instr) : (s.withPending q).pages = s.pages := rfl
@[simp] theorem State.withPending_chans (q : List Instr) : (s.withPending q).chans = s.chans := rfl
@[simp] theorem State.withPending_calls (q : List Instr) : (s.withPending q).calls = s.calls := rfl
@[simp] theorem State.withPending_batch (q : List Instr) : (s.withPending q).batch = s.batch := rfl
@[simp] theorem State.withPending_drains (q : List Instr) : (s.withPending q).drains = s.drains := rfl
@[simp] theorem State.withPending_oru (q : List Instr) : (s.withPending q).oru = s.oru := rfl
@[simp] theorem State.withPending_acu (q : List Instr) : (s.withPending q).acu = s.acu := rfl
@[simp] theorem State.withPending_counters (q : List Instr) : (s.withPending q).counters = s.counters := rfl
@[simp] theorem State.withPending_mem (q : List Instr) : (s.withPending q).mem = s.mem := rfl
@[simp] theorem State.withPending_wire (q : List Instr) : (s.withPending q).wire = s.wire := rfl
@[simp] theorem State.withPending_pending (q : List Instr) : (s.withPending q).pending = q := rfl

/-! ### clearTables -/

@[simp] theorem State.clearTables_regs : s.clearTables.regs = s.regs := rfl
@[simp] theorem State.clearTables_port : s.clearTables.port = State.reset.port := rfl
@[simp] theorem State.clearTables_plan : s.clearTables.plan = State.reset.plan := rfl
@[simp] theorem State.clearTables_links : s.clearTables.links = State.reset.links := rfl
@[simp] theorem State.clearTables_roster : s.clearTables.roster = State.reset.roster := rfl
@[simp] theorem State.clearTables_attaches : s.clearTables.attaches = State.reset.attaches := rfl
@[simp] theorem State.clearTables_lookup : s.clearTables.lookup = State.reset.lookup := rfl
@[simp] theorem State.clearTables_pages : s.clearTables.pages = State.reset.pages := rfl
@[simp] theorem State.clearTables_chans : s.clearTables.chans = State.reset.chans := rfl
@[simp] theorem State.clearTables_calls : s.clearTables.calls = State.reset.calls := rfl
@[simp] theorem State.clearTables_batch : s.clearTables.batch = State.reset.batch := rfl
@[simp] theorem State.clearTables_drains : s.clearTables.drains = State.reset.drains := rfl
@[simp] theorem State.clearTables_oru : s.clearTables.oru = State.reset.oru := rfl
@[simp] theorem State.clearTables_acu : s.clearTables.acu = State.reset.acu := rfl
@[simp] theorem State.clearTables_counters : s.clearTables.counters = State.reset.counters := rfl
@[simp] theorem State.clearTables_mem : s.clearTables.mem = s.mem := rfl
@[simp] theorem State.clearTables_wire : s.clearTables.wire = s.wire := rfl
@[simp] theorem State.clearTables_pending : s.clearTables.pending = s.pending := rfl

end Sys2Proof.Machine
end

