-- ==== Sys2Proof/Laws/Still.lean ====
section
/-! SUPPORT. What the work of the blocks leaves alone: registers, port, plan copies, exchange memory and
waiting commands. One lemma per operation, so that no later proof unfolds it for these fields. -/

namespace Sys2Proof.Machine

open Sys2Proof

/-- The fields that the work of the blocks leaves alone. -/
structure Still where
  regs    : Regs
  port    : Port
  plan    : Plan
  mem     : List Host.Cell
  pending : List Instr

/-- The fields that the work of the blocks leaves alone. -/
def State.still (s : State) : Still := ⟨s.regs, s.port, s.plan, s.mem, s.pending⟩

/-- Two states with the same still fields agree on each. -/
theorem still_fields {s t : State} (h : t.still = s.still) :
    t.regs = s.regs ∧ t.port = s.port ∧ t.plan = s.plan ∧ t.mem = s.mem ∧ t.pending = s.pending := by
  simpa only [State.still, Still.mk.injEq] using h

variable (s : State)

/-! ### Updates -/

@[simp] theorem State.updLink_still (b : BaseNo) (f : Link → Link) : (s.updLink b f).still = s.still := rfl
@[simp] theorem State.updEntry_still (h : HandsetNo) (f : RosterEntry → RosterEntry) : (s.updEntry h f).still = s.still := rfl
@[simp] theorem State.updCall_still (c : CallNo) (f : Call → Call) : (s.updCall c f).still = s.still := rfl
@[simp] theorem State.updHandover_still (c : CallNo) (f : Handover → Handover) : (s.updHandover c f).still = s.still := rfl
@[simp] theorem State.setChan_still (b : BaseNo) (k : ChanNo) (v : Chan) : (s.setChan b k v).still = s.still := rfl
@[simp] theorem State.setDrain_still (b : BaseNo) (d : Option DrainRecord) : (s.setDrain b d).still = s.still := rfl
@[simp] theorem State.setPages_still (p : List PageRecord) : (s.setPages p).still = s.still := rfl
@[simp] theorem State.setBatch_still (q : List BatchEntry) : (s.setBatch q).still = s.still := rfl
@[simp] theorem State.setAttaches_still (l : List PendingAttach) (k : Option Lookup) : (s.setAttaches l k).still = s.still := rfl
@[simp] theorem State.updOru_still (f : Oru → Oru) : (s.updOru f).still = s.still := rfl
@[simp] theorem State.updAcu_still (f : Acu → Acu) : (s.updAcu f).still = s.still := rfl
@[simp] theorem State.transmit_still (b : BaseNo) (m : Downlink) : (s.transmit b m).still = s.still := rfl
@[simp] theorem State.bump_still (k : GlobalCounter) : (s.bump k).still = s.still := rfl
@[simp] theorem State.bumpBase_still (b : BaseNo) (k : BaseCounter) : (s.bumpBase b k).still = s.still := rfl
@[simp] theorem State.markHandset_still (h : HandsetNo) (v : Byte) : (s.markHandset h v).still = s.still := rfl
@[simp] theorem State.markCall_still (c : CallNo) (v : Byte) : (s.markCall c v).still = s.still := rfl
@[simp] theorem State.pendBase_still (b : BaseNo) (v : Byte) : (s.pendBase b v).still = s.still := rfl
@[simp] theorem State.pendSlot_still (i : SlotNo) (v : Byte) : (s.pendSlot i v).still = s.still := rfl
@[simp] theorem State.pendDevice_still (v : Byte) : (s.pendDevice v).still = s.still := rfl

/-- A fold of operations that leave the still fields alone leaves them alone. -/
theorem foldl_still {α : Type} {f : State → α → State} (h : ∀ t x, (f t x).still = t.still) (l : List α) (s : State) :
    (l.foldl f s).still = s.still := by
  induction l generalizing s with
  | nil => rfl
  | cons x r ih => rw [List.foldl_cons, ih, h]

/-! ### Links -/

@[simp] theorem State.transmitHead_still (b : BaseNo) : (s.transmitHead b).still = s.still := by
  unfold State.transmitHead; split <;> simp
@[simp] theorem State.startHead_still (b : BaseNo) : (s.startHead b).still = s.still := by simp [State.startHead]
@[simp] theorem State.enqueue_still (b : BaseNo) (m : Downlink) : (s.enqueue b m).still = s.still := by
  unfold State.enqueue; split <;> simp
@[simp] theorem State.append_still (b : BaseNo) (m : Downlink) : (s.append b m).1.still = s.still := by
  unfold State.append; split <;> simp
theorem append_still_of_eq {s t : State} {b : BaseNo} {m : Downlink} {v : Bool} (h : s.append b m = (t, v)) :
    t.still = s.still := by
  have := s.append_still b m; rwa [h] at this
@[simp] theorem State.send_still (b : BaseNo) (m : Downlink) : (s.send b m).still = s.still := by simp [State.send]
@[simp] theorem State.emptyQueue_still (b : BaseNo) : (s.emptyQueue b).still = s.still := by simp [State.emptyQueue]
@[simp] theorem State.stopTransmit_still (b : BaseNo) : (s.stopTransmit b).still = s.still := by simp [State.stopTransmit]
@[simp] theorem State.dropHead_still (b : BaseNo) : (s.dropHead b).still = s.still := by simp [State.dropHead]
@[simp] theorem State.restartSilence_still (b : BaseNo) : (s.restartSilence b).still = s.still := by
  unfold State.restartSilence; split <;> simp
@[simp] theorem State.changeService_still (b : BaseNo) (v : Service) : (s.changeService b v).still = s.still := by
  simp [State.changeService]
@[simp] theorem State.enterStopped_still (b : BaseNo) (v : Byte) : (s.enterStopped b v).still = s.still := by
  simp [State.enterStopped]
@[simp] theorem State.loseLink_still (b : BaseNo) : (s.loseLink b).still = s.still := by simp [State.loseLink]
@[simp] theorem State.setHead_still (b : BaseNo) (h : Head) : (s.setHead b h).still = s.still := by simp [State.setHead]

/-! ### Answers and the roster -/

@[simp] theorem State.handBack_still (i : SlotNo) (r : OrderResult) : (s.handBack i r).still = s.still := by
  unfold State.handBack; dsimp only; split <;> simp
@[simp] theorem State.locate_still (h : HandsetNo) (b : BaseNo) : (s.locate h b).still = s.still := by
  unfold State.locate; split <;> simp
@[simp] theorem State.heard_still (h : HandsetNo) : (s.heard h).still = s.still := by
  unfold State.heard; split <;> simp
@[simp] theorem State.renew_still (h : HandsetNo) : (s.renew h).still = s.still := by simp [State.renew]
@[simp] theorem State.bindCall_still (h : HandsetNo) (c : CallNo) : (s.bindCall h c).still = s.still := by
  unfold State.bindCall; split <;> simp
@[simp] theorem State.unbindCall_still (h : HandsetNo) : (s.unbindCall h).still = s.still := by
  unfold State.unbindCall; split <;> simp
@[simp] theorem State.startLookup_still : s.startLookup.still = s.still := by simp [State.startLookup]

/-! ### Channels and levels -/

@[simp] theorem State.unreserve_still (t : BaseNo) (j : ChanNo) (c : CallNo) (g : AttemptTag) :
    (s.unreserve t j c g).still = s.still := by
  unfold State.unreserve; split <;> simp
@[simp] theorem State.switchOut_still (c : CallNo) (t : BaseNo) (j : ChanNo) (g : AttemptTag) :
    (s.switchOut c t j g).still = s.still := by
  unfold State.switchOut; dsimp only; split <;> simp
@[simp] theorem State.completeMove_still (c : CallNo) (t : BaseNo) (j : ChanNo) (g : AttemptTag) :
    (s.completeMove c t j g).still = s.still := by
  unfold State.completeMove; dsimp only; split <;> simp
@[simp] theorem State.switchBack_still (c : CallNo) (t : BaseNo) (j : ChanNo) (g : AttemptTag) :
    (s.switchBack c t j g).still = s.still := by
  unfold State.switchBack; dsimp only; split <;> simp
@[simp] theorem State.moveBegin_still (c : CallNo) : (s.moveBegin c).still = s.still := by
  unfold State.moveBegin; split <;> simp
@[simp] theorem State.moveEnd_still (c : CallNo) : (s.moveEnd c).still = s.still := by
  unfold State.moveEnd; split <;> simp
@[simp] theorem State.freeChannelsOf_still (c : CallNo) : (s.freeChannelsOf c).still = s.still := rfl
@[simp] theorem State.freeBase_still (b : BaseNo) : (s.freeBase b).still = s.still := rfl
@[simp] theorem State.countIgnored_still (n : Nat) : (s.countIgnored n).still = s.still := by
  induction n generalizing s with
  | zero => rfl
  | succ n ih => rw [State.countIgnored, ih, State.bump_still]
@[simp] theorem State.filterReport_still (c : CallNo) (b : BaseNo) (l : LevelCode) (p : List (ReportedBase × LevelCode)) :
    (s.filterReport c b l p).still = s.still := by simp [State.filterReport]
@[simp] theorem State.servingChange_still (c : CallNo) (a t : BaseNo) : (s.servingChange c a t).still = s.still := by
  simp [State.servingChange]
@[simp] theorem State.dropFilters_still (c : CallNo) : (s.dropFilters c).still = s.still := by simp [State.dropFilters]
@[simp] theorem State.removeFromSet_still (b : BaseNo) (c : CallNo) : (s.removeFromSet b c).still = s.still := by
  simp [State.removeFromSet]
@[simp] theorem State.removeFromSets_still (b : BaseNo) : (s.removeFromSets b).still = s.still :=
  foldl_still (fun t c => t.removeFromSet_still b c) _ _

/-! ### Handovers -/

@[simp] theorem State.dropBatch_still (c : CallNo) : (s.dropBatch c).still = s.still := by simp [State.dropBatch]
@[simp] theorem State.answerMove_still (i : Option SlotNo) (r : OrderResult) : (s.answerMove i r).still = s.still := by
  unfold State.answerMove; split <;> simp
@[simp] theorem State.startHold_still (c : CallNo) : (s.startHold c).still = s.still := by
  unfold State.startHold; dsimp only; split <;> simp
@[simp] theorem State.giveUp_still (c : CallNo) (r : Handover) : (s.giveUp c r).still = s.still := by
  unfold State.giveUp; split
  · rfl
  · dsimp only; split <;> simp
@[simp] theorem State.removeRecord_still (c : CallNo) : (s.removeRecord c).still = s.still := by simp [State.removeRecord]
@[simp] theorem State.noteAbort_still (c : CallNo) (a : AbortReason) : (s.noteAbort c a).still = s.still := by
  simp [State.noteAbort]
@[simp] theorem State.attemptEnd_still (c : CallNo) (a : AbortReason) : (s.attemptEnd c a).still = s.still := by
  unfold State.attemptEnd; split
  · rfl
  · dsimp only; split <;> simp
@[simp] theorem State.endRecord_still (c : CallNo) : (s.endRecord c).still = s.still := by
  unfold State.endRecord; split
  · rfl
  · dsimp only; split <;> simp
@[simp] theorem State.noteFailure_still (c : CallNo) (a : AbortReason) : (s.noteFailure c a).still = s.still := by
  simp [State.noteFailure]
@[simp] theorem State.takeTarget_still (c : CallNo) (t : BaseNo) (r : List BaseNo) : (s.takeTarget c t r).still = s.still := by
  simp [State.takeTarget]
@[simp] theorem State.tryCandidates_still (c : CallNo) (l : List BaseNo) : (s.tryCandidates c l).still = s.still := by
  induction l generalizing s with
  | nil => simp [State.tryCandidates]
  | cons t r ih =>
    unfold State.tryCandidates
    dsimp only
    split
    · simp [ih]
    · split
      · rename_i h
        simp [append_still_of_eq h]
      · rename_i h
        simp [ih, append_still_of_eq h]
@[simp] theorem State.startHandover_still (c : CallNo) (k : HandoverKind) (l : List BaseNo) (i : Option SlotNo) :
    (s.startHandover c k l i).still = s.still := by simp [State.startHandover]
@[simp] theorem State.giveUpCandidate_still (c : CallNo) (r : Handover) (a : AbortReason) :
    (s.giveUpCandidate c r a).still = s.still := by
  unfold State.giveUpCandidate; split
  · rfl
  · dsimp only; split <;> simp
@[simp] theorem State.candidateFail_still (c : CallNo) (a : AbortReason) : (s.candidateFail c a).still = s.still := by
  unfold State.candidateFail; split <;> simp
@[simp] theorem State.beginSwitch_still (c : CallNo) : (s.beginSwitch c).still = s.still := by
  unfold State.beginSwitch; split
  · rfl
  · split <;> simp
@[simp] theorem State.sendSwitchList_still (b : BaseNo) (cs : List CallNo) : (s.sendSwitchList b cs).still = s.still := by
  unfold State.sendSwitchList
  split
  · rename_i h
    rw [foldl_still (fun u c => u.beginSwitch_still c), append_still_of_eq h]
  · rename_i h
    rw [foldl_still (fun u c => u.attemptEnd_still c _), append_still_of_eq h]
@[simp] theorem State.joinBatch_still (c : CallNo) (t : BaseNo) : (s.joinBatch c t).still = s.still := by
  simp [State.joinBatch]
@[simp] theorem State.takeReady_still (c : CallNo) (r : Handover) : (s.takeReady c r).still = s.still := by
  unfold State.takeReady; dsimp only; split
  · simp
  · split <;> simp
@[simp] theorem State.deliverBatch_still : s.deliverBatch.still = s.still := by
  exact (foldl_still (f := fun t (p : BaseNo × List CallNo) => t.sendSwitchList p.1 p.2)
    (fun t p => t.sendSwitchList_still p.1 p.2) _ _).trans (s.setBatch_still _)
@[simp] theorem State.settleCall_still (c : CallNo) (t : BaseNo) : (s.settleCall c t).still = s.still := by
  simp [State.settleCall]
@[simp] theorem State.completeHandover_still (c : CallNo) (r : Handover) (j : ChanNo) :
    (s.completeHandover c r j).still = s.still := by simp [State.completeHandover]
@[simp] theorem State.drainStartNotice_still (t : BaseNo) : (s.drainStartNotice t).still = s.still :=
  foldl_still (fun u c => u.attemptEnd_still c _) _ _
@[simp] theorem State.targetLostNotice_still (t : BaseNo) : (s.targetLostNotice t).still = s.still :=
  foldl_still (fun u c => u.attemptEnd_still c _) _ _

/-! ### Base service and call ends -/

@[simp] theorem State.withdrawTail_still (b : BaseNo) : (s.withdrawTail b).still = s.still := by simp [State.withdrawTail]
@[simp] theorem State.endDrain_still (b : BaseNo) (d : DrainRecord) (v : Verdict) (n : Nat) :
    (s.endDrain b d v n).still = s.still := by simp [State.endDrain]
@[simp] theorem State.drainComplete_still (b : BaseNo) (d : DrainRecord) (n : Nat) :
    (s.drainComplete b d n).still = s.still := by simp [State.drainComplete]
@[simp] theorem State.drainCheck_still (b : BaseNo) : (s.drainCheck b).still = s.still := by
  unfold State.drainCheck; split
  · split <;> simp
  · rfl
@[simp] theorem State.callLeftNotice_still (b : BaseNo) : (s.callLeftNotice b).still = s.still := by
  unfold State.callLeftNotice; split
  · split <;> simp
  · rfl
@[simp] theorem State.callEndNotice_still (b : BaseNo) : (s.callEndNotice b).still = s.still := by
  unfold State.callEndNotice; split
  · split <;> simp
  · rfl
@[simp] theorem State.releaseServing_still (c : CallNo) (r : EndReason) : (s.releaseServing c r).still = s.still := by
  unfold State.releaseServing; split <;> simp
@[simp] theorem State.restDecision_still (c : CallNo) : (s.restDecision c).still = s.still := by simp [State.restDecision]
@[simp] theorem State.markEnded_still (c : CallNo) (r : EndReason) : (s.markEnded c r).still = s.still := by
  simp [State.markEnded]
@[simp] theorem State.countLost_still (r : EndReason) : (s.countLost r).still = s.still := by
  unfold State.countLost; split <;> simp
@[simp] theorem State.callEndActions_still (c : CallNo) (r : EndReason) : (s.callEndActions c r).still = s.still := by
  simp [State.callEndActions]
@[simp] theorem State.endCall_still (c : CallNo) (r : EndReason) : (s.endCall c r).still = s.still := by
  unfold State.endCall; split
  · dsimp only; split <;> simp
  · rfl
@[simp] theorem State.endServed_still (b : BaseNo) (r : EndReason) : (s.endServed b r).still = s.still :=
  foldl_still (fun t c => t.endCall_still c r) _ _
@[simp] theorem State.withdraw_still (b : BaseNo) (r : EndReason) : (s.withdraw b r).still = s.still := by
  simp [State.withdraw]
@[simp] theorem State.failDrain_still (b : BaseNo) (f : FailCode) : (s.failDrain b f).still = s.still := by
  unfold State.failDrain; split <;> simp
@[simp] theorem State.baseLost_still (b : BaseNo) : (s.baseLost b).still = s.still := by simp [State.baseLost]
@[simp] theorem State.retryAction_still (b : BaseNo) : (s.retryAction b).still = s.still := by
  unfold State.retryAction; split <;> simp
@[simp] theorem State.deferHead_still (b : BaseNo) (h : Head) : (s.deferHead b h).still = s.still := by
  unfold State.deferHead; dsimp only; split <;> simp
@[simp] theorem State.expireHead_still (b : BaseNo) (h : Head) : (s.expireHead b h).still = s.still := by
  unfold State.expireHead; dsimp only; split <;> simp
@[simp] theorem State.offerDrainMove_still (c : CallNo) : (s.offerDrainMove c).still = s.still := by
  unfold State.offerDrainMove; split
  · split
    · rfl
    · split <;> simp
  · rfl
@[simp] theorem State.dropPage_still (p : PageRecord) : (s.dropPage p).still = s.still := by simp [State.dropPage]
@[simp] theorem State.endPage_still (p : PageRecord) (v : Verdict) (d z : Nat) : (s.endPage p v d z).still = s.still := by
  unfold State.endPage; dsimp only; split <;> simp
@[simp] theorem State.pageFound_still (p : PageRecord) (d : DoneCode) (b : BaseNo) : (s.pageFound p d b).still = s.still := by
  simp [State.pageFound]
@[simp] theorem State.pageCallNotice_still (h : HandsetNo) (b : BaseNo) : (s.pageCallNotice h b).still = s.still := by
  unfold State.pageCallNotice; split <;> simp
@[simp] theorem State.pageFreedNotice_still (h : HandsetNo) : (s.pageFreedNotice h).still = s.still := by
  unfold State.pageFreedNotice; split <;> simp
@[simp] theorem State.endCallOf_still (h : HandsetNo) (r : EndReason) : (s.endCallOf h r).still = s.still := by
  unfold State.endCallOf; split <;> simp
@[simp] theorem State.freeEntry_still (h : HandsetNo) (r : EndReason) : (s.freeEntry h r).still = s.still := by
  simp [State.freeEntry]

/-! ### Paging -/

theorem pageAppend_still (m : Downlink) (a : State × PageRecord) (b : BaseNo) : (pageAppend m a b).1.still = a.1.still := by
  unfold pageAppend; split
  · rename_i h
    exact append_still_of_eq h
  · rename_i h
    simp [append_still_of_eq h]
theorem foldl_pageAppend_still (m : Downlink) (l : List BaseNo) (a : State × PageRecord) :
    (l.foldl (pageAppend m) a).1.still = a.1.still := by
  induction l generalizing a with
  | nil => rfl
  | cons x r ih => rw [List.foldl_cons, ih, pageAppend_still]
@[simp] theorem State.round_still (p : PageRecord) (z : ZoneNo) : (s.round p z).1.still = s.still := by
  simp [State.round, foldl_pageAppend_still]
@[simp] theorem State.putPage_still (p : PageRecord) : (s.putPage p).still = s.still := by simp [State.putPage]
@[simp] theorem State.makeRound_still (p : PageRecord) (z : ZoneNo) : (s.makeRound p z).still = s.still := by
  simp [State.makeRound]
@[simp] theorem State.startPage_still (i : SlotNo) (h : HandsetNo) : (s.startPage i h).still = s.still := by
  unfold State.startPage; split <;> simp
@[simp] theorem State.expireRound_still (p : PageRecord) : (s.expireRound p).still = s.still := by
  unfold State.expireRound; split
  · split
    · simp
    · split <;> simp
  · simp
@[simp] theorem State.takeRoundTimer_still (h : HandsetNo) : (s.takeRoundTimer h).still = s.still := by
  unfold State.takeRoundTimer; split
  · split <;> simp
  · rfl
@[simp] theorem State.pageAnswered_still (b : BaseNo) (h : HandsetNo) : (s.pageAnswered b h).still = s.still := by
  unfold State.pageAnswered; split
  · split <;> simp
  · simp

end Sys2Proof.Machine
end

