-- ==== Sys2Proof/Laws/Port.lean ====
section
/-! SUPPORT. What the arbiter can do: begin an access for one requestor. Outside a halt the end of an event
changes only the port, the Order Unit's queue, the ACU and the counters that a SNAPSHOT clears. -/

namespace Sys2Proof.Machine

open Sys2Proof

/-- The fields that the arbiter leaves alone. -/
structure Body where
  regs     : Regs
  plan     : Plan
  links    : Vector Link 48
  roster   : Vector RosterEntry 512
  attaches : List PendingAttach
  lookup   : Option Lookup
  pages    : List PageRecord
  chans    : Vector (Vector Chan 8) 48
  calls    : Vector Call 256
  batch    : List BatchEntry
  drains   : Vector (Option DrainRecord) 48
  mem      : List Host.Cell
  wire     : List Transmission
  pending  : List Instr

/-- The fields that the arbiter leaves alone. -/
def State.body (s : State) : Body :=
  ⟨s.regs, s.plan, s.links, s.roster, s.attaches, s.lookup, s.pages, s.chans, s.calls, s.batch, s.drains, s.mem,
    s.wire, s.pending⟩

variable (s : State)

@[simp] theorem State.setPort_body (p : Port) : (s.setPort p).body = s.body := rfl
@[simp] theorem State.updOru_body (f : Oru → Oru) : (s.updOru f).body = s.body := rfl
@[simp] theorem State.updAcu_body (f : Acu → Acu) : (s.updAcu f).body = s.body := rfl
@[simp] theorem State.beginAccess_body (k : AccessKind) : (s.beginAccess k).body = s.body := rfl

/-- What the ACU's next access changes (R157): the ACU itself, the port, and the counters that a SNAPSHOT
clears. -/
theorem acuBegin_body {s t : State} (h : s.acuBegin = some t) : t.body = s.body ∧ t.oru = s.oru := by
  unfold State.acuBegin at h
  split at h
  · cases h; exact ⟨rfl, rfl⟩
  · cases h; exact ⟨rfl, rfl⟩
  · cases h
  · split at h
    · cases h
    · split at h
      · cases h; exact ⟨rfl, rfl⟩
      · split at h
        · cases h
        · split at h
          · dsimp only at h
            split at h <;> (cases h; exact ⟨rfl, rfl⟩)
          · split at h
            · cases h; exact ⟨rfl, rfl⟩
            · cases h

/-- What beginning a requestor's access changes (R147). -/
theorem beginFor_body {s t : State} {r : Requestor} (h : s.beginFor r = some t) : t.body = s.body := by
  cases r with
  | rsu =>
    simp only [State.beginFor] at h
    split at h
    · cases hk : s.lookup with
      | none => simp [hk] at h
      | some k => simp only [hk, Option.map_some, Option.some.injEq] at h; rw [← h]; rfl
    · cases h
  | oru =>
    simp only [State.beginFor] at h
    split at h
    · cases h; rfl
    · cases h
  | acu => exact (acuBegin_body h).1

theorem beginFor_getD_body (s : State) (r : Requestor) : ((s.beginFor r).getD s).body = s.body := by
  cases h : s.beginFor r with
  | none => rfl
  | some t => exact beginFor_body h

@[simp] theorem State.grant_body : s.grant.body = s.body := by
  unfold State.grant
  split
  · rename_i r _
    cases h : (s.setPort { s.port with holder := some r, count := 0, last := some r }).beginFor r with
    | none => simp
    | some t =>
      have hb := beginFor_body h
      simpa using hb
  · rfl

/-- The arbiter changes only the port and what the granted requestor changes (R147). -/
@[simp] theorem State.arbitrate_body : s.arbitrate.body = s.body := by
  unfold State.arbitrate
  split
  · rfl
  · split
    · rfl
    · split
      · simp
      · split
        · exact beginFor_getD_body s _
        · simp

/-- States with the same body agree on each of its fields. -/
theorem body_fields {s t : State} (h : t.body = s.body) :
    t.regs = s.regs ∧ t.plan = s.plan ∧ t.links = s.links ∧ t.roster = s.roster ∧ t.attaches = s.attaches ∧
      t.lookup = s.lookup ∧ t.pages = s.pages ∧ t.chans = s.chans ∧ t.calls = s.calls ∧ t.batch = s.batch ∧
      t.drains = s.drains ∧ t.mem = s.mem ∧ t.wire = s.wire ∧ t.pending = s.pending := by
  simpa only [State.body, Body.mk.injEq] using h

/-- Everything that the end of an event can be: the arbiter's work, and at a halt with no access left the
end of the halt (R147, R161). -/
theorem settle_cases (s : State) :
    s.settle = s.arbitrate ∨
      (s.regs.halting = true ∧ s.arbitrate.port.access = none ∧ s.settle = s.arbitrate.endHalt) := by
  have hr : s.arbitrate.regs = s.regs := (body_fields s.arbitrate_body).1
  unfold State.settle
  dsimp only
  split
  · rename_i h
    rw [Bool.and_eq_true, hr] at h
    exact .inr ⟨h.1, by simpa using h.2, rfl⟩
  · exact .inl rfl

/-- Outside a halt the end of an event is the arbiter's work. -/
theorem settle_of_not_halting {s : State} (h : s.regs.halting = false) : s.settle = s.arbitrate := by
  rcases settle_cases s with h' | ⟨h', _⟩
  · exact h'
  · rw [h] at h'; cases h'

/-- Outside a halt the end of an event leaves the body alone. -/
theorem settle_body {s : State} (h : s.regs.halting = false) : s.settle.body = s.body := by
  rw [settle_of_not_halting h, State.arbitrate_body]

/-- The part serves only outside a halt. -/
theorem halting_of_serves {s : State} (h : s.serves = true) : s.regs.halting = false := by
  rw [State.serves, Bool.and_eq_true] at h
  simpa using h.2

/-- The arbiter grants nothing while an access is in progress or the part makes none. -/
theorem arbitrate_of_access {s : State} (h : s.port.access.isSome = true) : s.arbitrate = s := by
  unfold State.arbitrate
  simp [h]

theorem arbitrate_of_idle {s : State} (h : s.regs.part = .halted ∨ s.regs.part = .faulted) : s.arbitrate = s := by
  unfold State.arbitrate
  rcases h with h | h <;> simp [h]

/-! ### Start-up, halt and the memory -/

theorem beginStartup_fields (s : State) :
    s.beginStartup.mem = s.mem ∧ s.beginStartup.wire = s.wire ∧ s.beginStartup.pending = s.pending ∧
      s.beginStartup.regs = { s.regs with part := .starting, fault := .none } := by
  unfold State.beginStartup
  obtain ⟨h1, -, -, -, -, -, -, -, -, -, -, h2, h3, h4⟩ := body_fields (State.arbitrate_body
    (((s.clearTables).updRegs fun r => { r with part := .starting, fault := .none }).updOru fun o =>
      { o with queue := [.startHeader] }))
  exact ⟨h2, h3, h4, h1⟩

theorem endHalt_fields (s : State) :
    s.endHalt.mem = s.mem ∧ s.endHalt.wire = s.wire ∧ s.endHalt.pending = s.pending := by
  unfold State.endHalt
  dsimp only
  split
  · obtain ⟨h1, h2, h3, -⟩ := beginStartup_fields
      ((s.setPending.clearTables).updRegs fun r => { r with part := .halted, halting := false, haltSlots := [] })
    exact ⟨h1, h2, h3⟩
  · exact ⟨rfl, rfl, rfl⟩

/-- The end of an event leaves the exchange memory, the record of transmissions and the waiting commands
alone, in every case. -/
theorem settle_fields (s : State) :
    s.settle.mem = s.mem ∧ s.settle.wire = s.wire ∧ s.settle.pending = s.pending := by
  obtain ⟨-, -, -, -, -, -, -, -, -, -, -, h1, h2, h3⟩ := body_fields s.arbitrate_body
  rcases settle_cases s with h | ⟨-, -, h⟩
  · rw [h]; exact ⟨h1, h2, h3⟩
  · obtain ⟨e1, e2, e3⟩ := endHalt_fields s.arbitrate
    rw [h, e1, e2, e3]; exact ⟨h1, h2, h3⟩

/-- What the completion of an access changes: the port, and the memory in its canonical form (R146). -/
theorem completeAccess_fields {n : Nat} (s : State) (data : BitVec n) :
    (s.completeAccess data).regs = s.regs ∧ (s.completeAccess data).pending = s.pending ∧
      (s.completeAccess data).wire = s.wire := by
  unfold State.completeAccess
  split <;> exact ⟨rfl, rfl, rfl⟩

end Sys2Proof.Machine
end

