-- ==== Sys2Proof/Laws/Events.lean ====
section
/-! SUPPORT. How a command reaches its effect: each way of taking one, said once, and what each block's
work leaves alone. -/

namespace Sys2Proof.Machine

open Sys2Proof

variable {s : State}

/-! ### The ways of taking a command -/

theorem whileServing_of (h : s.serves = true) (f : State → State) : s.whileServing f = .next (f s).settle := by
  simp [State.whileServing, settled, h]

theorem whileServing_off (h : s.serves = false) (f : State → State) : s.whileServing f = .next s.settle := by
  simp [State.whileServing, settled, h]

theorem messageFrom_active {b : BaseNo} (h : s.serves = true) (ha : linkActive (s.service b) = true)
    (f : State → State) : s.messageFrom b f = .next (f (s.restartSilence b)).settle := by
  simp [State.messageFrom, whileServing_of h, ha]

theorem messageFrom_inactive {b : BaseNo} (h : s.serves = true) (ha : linkActive (s.service b) = false)
    (f : State → State) : s.messageFrom b f = .next (s.bump .stale).settle := by
  simp [State.messageFrom, whileServing_of h, ha]

theorem answerFrom_active {b : BaseNo} (h : s.serves = true) (ha : linkActive (s.service b) = true)
    (f : State → State) : s.answerFrom b f = .next (f (s.restartSilence b)).settle := by
  simp [State.answerFrom, whileServing_of h, ha]

theorem answerFrom_inactive {b : BaseNo} (h : s.serves = true) (ha : linkActive (s.service b) = false)
    (f : State → State) : s.answerFrom b f = .next s.settle := by
  simp [State.answerFrom, whileServing_of h, ha]

/-- The silence timer of an active link is set from the present frame count (R7). -/
theorem restartSilence_active {b : BaseNo} (h : linkActive (s.service b) = true) :
    s.restartSilence b = s.updLink b fun l => { l with silenceTimer := some (s.after s.plan.header.silenceLimit) } := by
  exact if_pos h

theorem takeOrder_of_offers {slot : SlotNo} {o : Order} (h : s.offers slot o) (f : State → State) :
    s.takeOrder slot o f = .next (f s.undispatched).scanOn.settle := by
  simp [State.takeOrder, whileServing_of h.1, h.2, State.undispatched]

theorem onAccess_of {n : Nat} {data : BitVec n} {f : State → AccessKind → Option State} {k : AccessKind} {t : State}
    (h : s.accessing k) (hf : f (s.completeAccess data) k = some t) : s.onAccess data f = .next t.settle := by
  unfold State.accessing at h
  simp [State.onAccess, settled, h, hf]

/-- Everything that the completion of an access can answer. -/
theorem onAccess_cases {n : Nat} (s : State) (data : BitVec n) (f : State → AccessKind → Option State) :
    s.onAccess data f = .next s ∨
      ∃ k t, s.accessing k ∧ f (s.completeAccess data) k = some t ∧ s.onAccess data f = .next t.settle := by
  unfold State.onAccess State.accessing
  split
  · rename_i k hk
    split
    · rename_i t ht
      exact .inr ⟨k, t, hk, ht, rfl⟩
    · exact .inl rfl
  · exact .inl rfl

/-- Everything that an append can answer (R13). -/
theorem append_cases (s : State) (b : BaseNo) (m : Downlink) :
    (s.appendTaken b = true ∧ s.append b m = (s.enqueue b m, true)) ∨
      (s.appendTaken b = false ∧ s.append b m = (s.bumpBase b .discards, false)) := by
  unfold State.append
  cases h : s.appendTaken b
  · exact .inr ⟨rfl, by simp⟩
  · exact .inl ⟨rfl, by simp⟩

/-! ### What the events' own operations leave alone -/

variable (s)

@[simp] theorem State.ask_still (l : List AccessKind) : (s.ask l).still = s.still := by simp [State.ask]
@[simp] theorem State.scanOn_still : s.scanOn.still = s.still := by
  unfold State.scanOn; split
  · rfl
  · split <;> simp
@[simp] theorem State.undispatched_still : s.undispatched.still = s.still := by simp [State.undispatched]
@[simp] theorem State.fromServing_still {b : BaseNo} {f : State → State} (h : (f s).still = s.still) :
    (s.fromServing b f).still = s.still := by
  unfold State.fromServing; split
  · simp
  · exact h
@[simp] theorem State.joinLink_still (b : BaseNo) (n : Nat) : (s.joinLink b n).still = s.still := by simp [State.joinLink]
@[simp] theorem State.takeHello_still (b : BaseNo) (n : Nat) : (s.takeHello b n).still = s.still := by
  unfold State.takeHello; split
  · split <;> simp
  all_goals simp
@[simp] theorem State.takeReadyMessage_still (b : BaseNo) : (s.takeReadyMessage b).still = s.still := by
  unfold State.takeReadyMessage; split <;> simp
@[simp] theorem State.takeAccept_still (b : BaseNo) : (s.takeAccept b).still = s.still := by
  unfold State.takeAccept; split <;> simp
@[simp] theorem State.takeDefer_still (b : BaseNo) : (s.takeDefer b).still = s.still := by
  unfold State.takeDefer; split <;> simp
@[simp] theorem State.takeJoinTimer_still (b : BaseNo) : (s.takeJoinTimer b).still = s.still := by
  unfold State.takeJoinTimer; split <;> simp
@[simp] theorem State.takeSilenceTimer_still (b : BaseNo) : (s.takeSilenceTimer b).still = s.still := by
  unfold State.takeSilenceTimer; split <;> simp
@[simp] theorem State.takeRetransmit_still (b : BaseNo) : (s.takeRetransmit b).still = s.still := by
  unfold State.takeRetransmit; split
  · split <;> simp
  · rfl
@[simp] theorem State.takeAnswerTimeout_still (b : BaseNo) : (s.takeAnswerTimeout b).still = s.still := by
  unfold State.takeAnswerTimeout; split
  · split <;> simp
  · rfl
@[simp] theorem State.reattachEntry_still (b : BaseNo) (h : HandsetNo) : (s.reattachEntry b h).still = s.still := by
  simp [State.reattachEntry]
@[simp] theorem State.reattach_still (b : BaseNo) (h : HandsetNo) (i : Identity) : (s.reattach b h i).still = s.still := by
  unfold State.reattach
  split
  · rename_i e; simp [append_still_of_eq e]
  · rename_i e; simp [append_still_of_eq e]
@[simp] theorem State.answerAgain_still (b : BaseNo) (i : Identity) : (s.answerAgain b i).still = s.still := by
  simp [State.answerAgain]
@[simp] theorem State.appendAttach_still (b : BaseNo) (i : Identity) : (s.appendAttach b i).still = s.still := by
  simp [State.appendAttach]
@[simp] theorem State.takeAttach_still (b : BaseNo) (i : Identity) : (s.takeAttach b i).still = s.still := by
  unfold State.takeAttach; split
  · simp
  · split
    · simp
    · split <;> simp
@[simp] theorem State.refreshEntry_still (b : BaseNo) (h : HandsetNo) : (s.refreshEntry b h).still = s.still := by
  unfold State.refreshEntry; dsimp only; split <;> simp
@[simp] theorem State.takeRefresh_still (b : BaseNo) (h : HandsetNo) (c : BitVec 16) : (s.takeRefresh b h c).still = s.still := by
  unfold State.takeRefresh; split <;> simp
@[simp] theorem State.takeDetach_still (h : HandsetNo) : (s.takeDetach h).still = s.still := by
  unfold State.takeDetach; split <;> simp
@[simp] theorem State.takeLifetime_still (h : HandsetNo) : (s.takeLifetime h).still = s.still := by
  unfold State.takeLifetime; split <;> simp
@[simp] theorem State.registerHandset_still (r : PendingAttach) (h : HandsetNo) (p : Nat) (e : Subscription) :
    (s.registerHandset r h p e).still = s.still := by
  unfold State.registerHandset
  split
  · rename_i e; simp [append_still_of_eq e]
  · rename_i e; simp [append_still_of_eq e]
@[simp] theorem State.rejectAttach_still (r : PendingAttach) (v : AttachVerdict) : (s.rejectAttach r v).still = s.still := by
  simp [State.rejectAttach]
@[simp] theorem State.answerLookup_still (r : PendingAttach) (f : Option (Nat × Subscription)) :
    (s.answerLookup r f).still = s.still := by
  unfold State.answerLookup
  split
  · simp
  · split
    · simp
    · split
      · simp
      · split <;> simp
@[simp] theorem State.endLookup_still (f : Option (Nat × Subscription)) : (s.endLookup f).still = s.still := by
  unfold State.endLookup
  split
  · simp
  · dsimp only
    rw [State.startLookup_still]
    split <;> simp
@[simp] theorem State.searchBounds_still (a b : Nat) : (s.searchBounds a b).still = s.still := by simp [State.searchBounds]
@[simp] theorem State.takeSubCount_still (n : Nat) : (s.takeSubCount n).still = s.still := by
  unfold State.takeSubCount; dsimp only; split <;> simp
@[simp] theorem State.takeSubEntry_still (i : Identity) (a b : Nat) (e : Subscription) :
    (s.takeSubEntry i a b e).still = s.still := by
  unfold State.takeSubEntry; dsimp only
  split
  · simp
  · split
    · split <;> simp
    · split <;> simp
@[simp] theorem State.takeDeregister_still (i : SlotNo) (h : HandsetNo) : (s.takeDeregister i h).still = s.still := by
  unfold State.takeDeregister; split <;> simp
@[simp] theorem State.takePage_still (i : SlotNo) (h : HandsetNo) : (s.takePage i h).still = s.still := by
  unfold State.takePage; split <;> simp
@[simp] theorem State.admitCall_still (b : BaseNo) (h : HandsetNo) (k : ChanNo) (c : CallNo) (p : Bool) :
    (s.admitCall b h k c p).still = s.still := by simp [State.admitCall]
@[simp] theorem State.admission_still (b : BaseNo) (h : HandsetNo) (p : Bool) : (s.admission b h p).still = s.still := by
  unfold State.admission
  split
  · split
    · rename_i e; simp [append_still_of_eq e]
    · rename_i e; simp [append_still_of_eq e]
  · rfl
@[simp] theorem State.takeCallRequest_still (b : BaseNo) (h : HandsetNo) (p : Bool) :
    (s.takeCallRequest b h p).still = s.still := by
  unfold State.takeCallRequest
  dsimp only
  split
  · split <;> simp
  · split <;> simp
@[simp] theorem State.takeCallEnd_still (b : BaseNo) (k : ChanNo) : (s.takeCallEnd b k).still = s.still := by
  unfold State.takeCallEnd; split
  · split <;> simp
  · simp
@[simp] theorem State.targetDropped_still (c : CallNo) (r : Handover) : (s.targetDropped c r).still = s.still := by
  unfold State.targetDropped; split <;> simp
@[simp] theorem State.oldSideDropped_still (c : CallNo) : (s.oldSideDropped c).still = s.still := by
  unfold State.oldSideDropped; split
  · split <;> simp
  · simp
@[simp] theorem State.reservedDropped_still (b : BaseNo) (k : ChanNo) (c : CallNo) (g : AttemptTag) :
    (s.reservedDropped b k c g).still = s.still := by
  unfold State.reservedDropped; split
  · split
    · split <;> simp
    · simp
  · simp
@[simp] theorem State.takeChannelDropped_still (b : BaseNo) (k : ChanNo) : (s.takeChannelDropped b k).still = s.still := by
  unfold State.takeChannelDropped; split
  · split <;> simp
  · simp
@[simp] theorem State.takeClearCall_still (i : SlotNo) (c : CallNo) : (s.takeClearCall i c).still = s.still := by
  unfold State.takeClearCall; split <;> simp
@[simp] theorem State.takeBlockChannel_still (i : SlotNo) (b : BaseNo) (k : ChanNo) :
    (s.takeBlockChannel i b k).still = s.still := by
  unfold State.takeBlockChannel; split <;> simp
@[simp] theorem State.takeUnblockChannel_still (i : SlotNo) (b : BaseNo) (k : ChanNo) :
    (s.takeUnblockChannel i b k).still = s.still := by
  unfold State.takeUnblockChannel; split <;> simp
@[simp] theorem State.watchStep_still (c : CallNo) (z : ZoneParams) (f e : Nat) : (s.watchStep c z f e).still = s.still := by
  simp [State.watchStep]
@[simp] theorem State.leadStep_still (c : CallNo) (z : ZoneParams) (f : Nat) : (s.leadStep c z f).still = s.still := by
  simp [State.leadStep]
@[simp] theorem State.decisionTrigger_still (c : CallNo) (z : ZoneParams) : (s.decisionTrigger c z).still = s.still := by
  unfold State.decisionTrigger; dsimp only; split
  · split <;> simp
  · rfl
@[simp] theorem State.triggerStep_still (c : CallNo) (z : ZoneParams) : (s.triggerStep c z).still = s.still := by
  unfold State.triggerStep; split <;> simp
@[simp] theorem State.handOff_still (c : CallNo) (e : Nat) : (s.handOff c e).still = s.still := by
  unfold State.handOff; split
  · simp
  · rfl
@[simp] theorem State.takeReport_still (c : CallNo) (b : BaseNo) (l : LevelCode) (e : Nat) (p : List (ReportedBase × LevelCode)) :
    (s.takeReport c b l e p).still = s.still := by simp [State.takeReport]
@[simp] theorem State.takeLevelReport_still (b : BaseNo) (k : ChanNo) (l : LevelCode) (e : Nat)
    (p : List (ReportedBase × LevelCode)) : (s.takeLevelReport b k l e p).still = s.still := by
  unfold State.takeLevelReport; split
  · split <;> simp
  · simp
@[simp] theorem State.staleAnswer_still : s.staleAnswer.still = s.still := by simp [State.staleAnswer]
@[simp] theorem State.staleRelease_still (b : BaseNo) (j : ChanNo) (c : CallNo) (g : AttemptTag) :
    (s.staleRelease b j c g).still = s.still := by
  unfold State.staleRelease; dsimp only; split <;> simp
@[simp] theorem State.takeRefused_still (c : CallNo) (r : Handover) : (s.takeRefused c r).still = s.still := by
  unfold State.takeRefused; split <;> simp
@[simp] theorem State.takeReserveAnswer_still (b : BaseNo) (j : ChanNo) (c : CallNo) (g : AttemptTag) (v : ReserveVerdict) :
    (s.takeReserveAnswer b j c g v).still = s.still := by
  unfold State.takeReserveAnswer; split
  · simp
  · split <;> simp
  · simp
  · simp
@[simp] theorem State.arrive_still (c : CallNo) (r : Handover) (j : ChanNo) : (s.arrive c r j).still = s.still := by
  unfold State.arrive; dsimp only; split <;> simp
@[simp] theorem State.takeArrived_still (b : BaseNo) (j : ChanNo) (c : CallNo) (g : AttemptTag) :
    (s.takeArrived b j c g).still = s.still := by
  unfold State.takeArrived; split
  · split <;> simp
  · simp
@[simp] theorem State.takeReserveTimer_still (c : CallNo) : (s.takeReserveTimer c).still = s.still := by
  unfold State.takeReserveTimer; split
  · split <;> simp
  · rfl
@[simp] theorem State.noArrival_still (c : CallNo) (r : Handover) : (s.noArrival c r).still = s.still := by
  unfold State.noArrival; split <;> simp
@[simp] theorem State.takeArrivalTimer_still (c : CallNo) : (s.takeArrivalTimer c).still = s.still := by
  unfold State.takeArrivalTimer; split
  · split <;> simp
  · rfl
@[simp] theorem State.takeSettleTimer_still (c : CallNo) : (s.takeSettleTimer c).still = s.still := by
  unfold State.takeSettleTimer; split <;> simp
@[simp] theorem State.takeHoldTimer_still (c : CallNo) : (s.takeHoldTimer c).still = s.still := by
  unfold State.takeHoldTimer; split <;> simp
@[simp] theorem State.takeForceMove_still (i : SlotNo) (c : CallNo) (t : BaseNo) : (s.takeForceMove i c t).still = s.still := by
  unfold State.takeForceMove; split <;> simp
@[simp] theorem State.offerDrainMoves_still (b : BaseNo) : (s.offerDrainMoves b).still = s.still :=
  foldl_still (fun t c => t.offerDrainMove_still c) _ _
@[simp] theorem State.startDrain_still (i : SlotNo) (b : BaseNo) (n : Nat) : (s.startDrain i b n).still = s.still := by
  simp [State.startDrain]
@[simp] theorem State.takeDrainBase_still (i : SlotNo) (b : BaseNo) (n : Nat) : (s.takeDrainBase i b n).still = s.still := by
  unfold State.takeDrainBase; split <;> simp
@[simp] theorem State.clearDrain_still (b : BaseNo) (d : DrainRecord) : (s.clearDrain b d).still = s.still := by
  unfold State.clearDrain; dsimp only; split <;> simp
@[simp] theorem State.takeDrainLimit_still (b : BaseNo) : (s.takeDrainLimit b).still = s.still := by
  unfold State.takeDrainLimit; split
  · split <;> simp
  · rfl
@[simp] theorem State.takeStopBase_still (i : SlotNo) (b : BaseNo) : (s.takeStopBase i b).still = s.still := by
  simp [State.takeStopBase]
@[simp] theorem State.takeStartBase_still (i : SlotNo) (b : BaseNo) : (s.takeStartBase i b).still = s.still := by
  unfold State.takeStartBase; split <;> simp
@[simp] theorem State.takeIntake_still : s.takeIntake.still = s.still := by
  unfold State.takeIntake; split
  · dsimp only; split <;> simp
  · rfl
@[simp] theorem State.takePostedCount_still (v : BitVec 32) : (s.takePostedCount v).still = s.still := by
  unfold State.takePostedCount; split
  · rfl
  · dsimp only; split <;> simp
@[simp] theorem State.takeOwnerByte_still (i : SlotNo) (v : Byte) : (s.takeOwnerByte i v).still = s.still := by
  unfold State.takeOwnerByte; split <;> simp
@[simp] theorem State.takeSlot_still (i : SlotNo) (w : BitVec 512) : (s.takeSlot i w).still = s.still := by
  unfold State.takeSlot; dsimp only; split <;> simp
@[simp] theorem State.takeAnswered_still (i : SlotNo) : (s.takeAnswered i).still = s.still := by simp [State.takeAnswered]
@[simp] theorem State.answerCancel_still (i t : SlotNo) (v : Verdict) : (s.answerCancel i t v).still = s.still := by
  simp [State.answerCancel]
@[simp] theorem State.cancelMove_still (i t : SlotNo) (c : CallNo) (r : Handover) : (s.cancelMove i t c r).still = s.still := by
  unfold State.cancelMove; split <;> simp
@[simp] theorem State.cancelDrain_still (i t : SlotNo) (b : BaseNo) (d : DrainRecord) :
    (s.cancelDrain i t b d).still = s.still := by simp [State.cancelDrain]
@[simp] theorem State.cancelKind_still (i t : SlotNo) (k : Byte) : (s.cancelKind i t k).still = s.still := by
  unfold State.cancelKind
  repeat' split
  all_goals simp
@[simp] theorem State.takeCancel_still (i t : SlotNo) : (s.takeCancel i t).still = s.still := by
  unfold State.takeCancel; split
  · split <;> simp
  · simp

end Sys2Proof.Machine
end

