-- ==== Sys2Proof/Laws/Memory.lean ====
section
/-! SUPPORT. The laws of the exchange memory: a read after a write, and the canonical form, which every
memory operation keeps. -/

namespace Sys2Proof.Machine

open Sys2Proof

/-- The canonical form, said of all pairs of cells. -/
theorem memWf_iff (m : List Host.Cell) : memWf m = true ↔ m.Pairwise fun x y => x.1 < y.1 := by
  induction m with
  | nil => simp [memWf]
  | cons x r ih =>
    cases r with
    | nil => simp [memWf]
    | cons y l =>
      obtain ⟨a, v⟩ := x
      obtain ⟨b, w⟩ := y
      rw [memWf, Bool.and_eq_true, decide_eq_true_eq, ih, List.pairwise_cons (a := (a, v))]
      constructor
      · rintro ⟨hab, hp⟩
        refine ⟨?_, hp⟩
        intro z hz
        rcases List.mem_cons.mp hz with rfl | hz
        · exact hab
        · exact Nat.lt_trans hab ((List.pairwise_cons.mp hp).1 z hz)
      · rintro ⟨h, hp⟩
        exact ⟨h (b, w) (by simp), hp⟩

theorem mem_memWrite {m : List Host.Cell} {a : Nat} {v : Byte} {e : Host.Cell} (h : e ∈ memWrite m a v) :
    e = (a, v) ∨ e ∈ m := by
  induction m with
  | nil => simpa [memWrite] using h
  | cons x r ih =>
    obtain ⟨b, w⟩ := x
    simp only [memWrite] at h
    split at h
    · simpa using h
    · split at h
      · rcases List.mem_cons.mp h with h | h
        · exact .inl h
        · exact .inr (List.mem_cons_of_mem _ h)
      · rcases List.mem_cons.mp h with h | h
        · exact .inr (by simp [h])
        · rcases ih h with h | h
          · exact .inl h
          · exact .inr (List.mem_cons_of_mem _ h)

/-- A write keeps the canonical form. -/
theorem memWrite_wf {m : List Host.Cell} (h : memWf m = true) (a : Nat) (v : Byte) : memWf (memWrite m a v) = true := by
  rw [memWf_iff] at h ⊢
  induction m with
  | nil => simp [memWrite]
  | cons x r ih =>
    obtain ⟨b, w⟩ := x
    obtain ⟨hb, hr⟩ := List.pairwise_cons.mp h
    simp only [memWrite]
    split
    · rename_i hlt
      refine List.pairwise_cons.mpr ⟨?_, h⟩
      intro z hz
      rcases List.mem_cons.mp hz with rfl | hz
      · exact hlt
      · exact Nat.lt_trans hlt (hb z hz)
    · rename_i hle
      split
      · rename_i he
        subst he
        exact List.pairwise_cons.mpr ⟨hb, hr⟩
      · rename_i hne
        refine List.pairwise_cons.mpr ⟨?_, ih hr⟩
        intro z hz
        rcases mem_memWrite hz with rfl | hz
        · simp only; omega
        · exact hb z hz

/-- Writes of many bytes keep the canonical form. -/
theorem memWriteAll_wf {m : List Host.Cell} (h : memWf m = true) (a : Nat) (l : List Byte) :
    memWf (memWriteAll m a l) = true := by
  induction l generalizing m a with
  | nil => exact h
  | cons v r ih => exact ih (memWrite_wf h a v) (a + 1)

/-- Forgetting a range keeps the canonical form. -/
theorem memForget_wf {m : List Host.Cell} (h : memWf m = true) (a n : Nat) : memWf (memForget m a n) = true := by
  rw [memWf_iff] at h ⊢
  exact h.sublist List.filter_sublist

theorem memRead_of_lt {m : List Host.Cell} {a : Nat} (h : ∀ e ∈ m, a < e.1) : memRead m a = none := by
  induction m with
  | nil => rfl
  | cons x r ih =>
    obtain ⟨b, w⟩ := x
    have hb : a < b := h (b, w) (by simp)
    rw [memRead, if_neg (by omega)]
    exact ih fun e he => h e (List.mem_cons_of_mem _ he)

/-- A read after a write, at the same address and at any other. -/
theorem memRead_memWrite (m : List Host.Cell) (a : Nat) (v : Byte) (x : Nat) :
    memRead (memWrite m a v) x = if x = a then some v else memRead m x := by
  induction m with
  | nil => simp [memWrite, memRead, eq_comm]
  | cons y r ih =>
    obtain ⟨b, w⟩ := y
    simp only [memWrite]
    split
    · simp only [memRead]
      by_cases hx : x = a
      · simp [hx]
      · rw [if_neg (Ne.symm hx), if_neg hx]
    · split
      · rename_i he
        subst he
        simp only [memRead]
        by_cases hx : x = a
        · simp [hx]
        · rw [if_neg (Ne.symm hx), if_neg hx, if_neg (Ne.symm hx)]
      · rename_i hne
        simp only [memRead, ih]
        by_cases hx : b = x
        · subst hx
          rw [if_pos rfl, if_pos rfl, if_neg (Ne.symm hne)]
        · rw [if_neg hx, if_neg hx]

/-- A read after writes of many bytes, outside the range written. -/
theorem memRead_memWriteAll_outside (m : List Host.Cell) (a : Nat) (l : List Byte) {x : Nat}
    (h : x < a ∨ a + l.length ≤ x) : memRead (memWriteAll m a l) x = memRead m x := by
  induction l generalizing m a with
  | nil => rfl
  | cons v r ih =>
    simp only [List.length_cons] at h
    rw [memWriteAll, ih _ _ (by omega), memRead_memWrite, if_neg (by omega)]

/-- A read after writes of many bytes, inside the range written. -/
theorem memRead_memWriteAll_inside (m : List Host.Cell) (a : Nat) (l : List Byte) (i : Nat) (h : i < l.length) :
    memRead (memWriteAll m a l) (a + i) = some l[i] := by
  induction l generalizing m a i with
  | nil => simp at h
  | cons v r ih =>
    cases i with
    | zero =>
      rw [memWriteAll, memRead_memWriteAll_outside _ _ _ (by omega), memRead_memWrite]
      simp
    | succ k =>
      rw [memWriteAll, show a + (k + 1) = a + 1 + k by omega, ih _ _ k (by simpa using h)]
      simp

/-- The memory after reset is in canonical form. -/
theorem reset_memory_wf : memWf State.reset.mem = true := rfl

end Sys2Proof.Machine
end

