-- ==== Sys2Proof/Laws/Tables.lean ====
section
/-! SUPPORT. Reading a table after an update, and what the scans of a table find. -/

namespace Sys2Proof.Machine

open Sys2Proof

/-- A table read after one entry is set. -/
theorem getElem_set_fin {α : Type} {n : Nat} (v : Vector α n) (i j : Fin n) (x : α) :
    (v.set i x)[j] = if i = j then x else v[j] := by
  simp only [Fin.getElem_fin, Vector.getElem_set, Fin.ext_iff]

@[simp] theorem getElem_replicate_fin {α : Type} {n : Nat} (x : α) (i : Fin n) : (Vector.replicate n x)[i] = x := by
  simp

/-- Every table entry after a function is applied to all. -/
@[simp] theorem getElem_mapTable {α β : Type} {n : Nat} (f : α → β) (v : Vector α n) (i : Fin n) :
    (mapTable f v)[i] = f v[i] := by
  simp [mapTable]

theorem mem_enumFrom {α : Type} {n : Nat} (l : List α) (k : Nat) (h : k + l.length = n) (i : Fin n) (x : α) :
    (i, x) ∈ enumFrom l k h ↔ ∃ j, ∃ hj : j < l.length, i.val = k + j ∧ l[j] = x := by
  induction l generalizing k with
  | nil => simp [enumFrom]
  | cons y r ih =>
    rw [enumFrom, List.mem_cons, ih]
    constructor
    · rintro (he | ⟨j, hj, hi, hx⟩)
      · obtain ⟨rfl, rfl⟩ := Prod.mk.inj he
        exact ⟨0, by simp, by simp, rfl⟩
      · exact ⟨j + 1, by simpa using hj, by omega, by simpa using hx⟩
    · rintro ⟨j, hj, hi, hx⟩
      cases j with
      | zero => exact .inl (Prod.ext (Fin.ext (by simpa using hi)) (by simpa using hx.symm))
      | succ j => exact .inr ⟨j, by simpa using hj, by omega, by simpa using hx⟩

/-- The numbered entries of a table. -/
theorem mem_enumTable {α : Type} {n : Nat} (v : Vector α n) (i : Fin n) (x : α) :
    (i, x) ∈ enumTable v ↔ v[i] = x := by
  rw [enumTable, mem_enumFrom]
  constructor
  · rintro ⟨j, hj, hi, hx⟩
    have : j = i.val := by omega
    subst this
    simpa using hx
  · intro h
    exact ⟨i.val, by simp, by simp, by simpa using h⟩

/-- A scan finds exactly the entries that satisfy its test. -/
@[simp] theorem mem_indicesWhere {α : Type} {n : Nat} (v : Vector α n) (p : α → Bool) (i : Fin n) :
    i ∈ indicesWhere v p ↔ p v[i] = true := by
  simp only [indicesWhere, List.mem_map, List.mem_filter, Prod.exists, exists_and_right, exists_eq_right]
  constructor
  · rintro ⟨x, hx, hp⟩
    rw [mem_enumTable] at hx
    rwa [hx]
  · intro h
    exact ⟨v[i], (mem_enumTable v i _).mpr rfl, h⟩

theorem enumFrom_ascending {α : Type} {n : Nat} (l : List α) (k : Nat) (h : k + l.length = n) :
    (enumFrom (n := n) l k h).Pairwise fun a b => a.1 < b.1 := by
  induction l generalizing k with
  | nil => simp [enumFrom]
  | cons y r ih =>
    rw [enumFrom]
    refine List.pairwise_cons.mpr ⟨?_, ih (k + 1) (by simp only [List.length_cons] at h; omega)⟩
    rintro ⟨i, x⟩ hm
    rw [mem_enumFrom] at hm
    obtain ⟨j, _, hi, _⟩ := hm
    exact Fin.lt_def.mpr (by simp only; omega)

/-- A scan answers in ascending order, each number once. -/
theorem indicesWhere_ascending {α : Type} {n : Nat} (v : Vector α n) (p : α → Bool) :
    (indicesWhere v p).Pairwise (· < ·) := by
  rw [indicesWhere, List.pairwise_map]
  exact (enumFrom_ascending v.toList 0 (by simp)).sublist List.filter_sublist

theorem indicesWhere_nodup {α : Type} {n : Nat} (v : Vector α n) (p : α → Bool) : (indicesWhere v p).Nodup :=
  (indicesWhere_ascending v p).imp fun h => ne_of_lt h

/-- The lowest entry that satisfies a test satisfies it, and none below it does. -/
theorem lowestWhere_some {α : Type} {n : Nat} {v : Vector α n} {p : α → Bool} {i : Fin n}
    (h : lowestWhere v p = some i) : p v[i] = true ∧ ∀ j < i, p v[j] = false := by
  have ha := indicesWhere_ascending v p
  unfold lowestWhere at h
  cases hl : indicesWhere v p with
  | nil => simp [hl] at h
  | cons x r =>
    simp only [hl, List.head?_cons, Option.some.injEq] at h
    subst h
    refine ⟨(mem_indicesWhere v p x).mp (by simp [hl]), fun j hj => ?_⟩
    by_contra hp
    have hm : j ∈ indicesWhere v p := (mem_indicesWhere v p j).mpr (by simpa using hp)
    rw [hl] at hm ha
    rcases List.mem_cons.mp hm with rfl | hm
    · exact absurd hj (lt_irrefl _)
    · exact absurd hj (not_lt.mpr (le_of_lt ((List.pairwise_cons.mp ha).1 j hm)))

/-- No entry satisfies a test that finds none. -/
theorem lowestWhere_none {α : Type} {n : Nat} {v : Vector α n} {p : α → Bool} :
    lowestWhere v p = none ↔ ∀ i : Fin n, p v[i] = false := by
  unfold lowestWhere
  rw [List.head?_eq_none_iff]
  constructor
  · intro h i
    by_contra hp
    have := (mem_indicesWhere v p i).mpr (by simpa using hp)
    simp [h] at this
  · intro h
    rw [List.eq_nil_iff_forall_not_mem]
    intro i hi
    have := (mem_indicesWhere v p i).mp hi
    rw [h i] at this
    cases this

/-! ### One entry read after an update -/

variable (s : State)

theorem updLink_get (b c : BaseNo) (f : Link → Link) :
    (s.updLink b f).links[c] = if b = c then f s.links[b] else s.links[c] := getElem_set_fin _ _ _ _

theorem updEntry_get (h i : HandsetNo) (f : RosterEntry → RosterEntry) :
    (s.updEntry h f).roster[i] = if h = i then f s.roster[h] else s.roster[i] := getElem_set_fin _ _ _ _

theorem updCall_get (c d : CallNo) (f : Call → Call) :
    (s.updCall c f).calls[d] = if c = d then f s.calls[c] else s.calls[d] := getElem_set_fin _ _ _ _

theorem setDrain_get (b c : BaseNo) (d : Option DrainRecord) :
    (s.setDrain b d).drains[c] = if b = c then d else s.drains[c] := getElem_set_fin _ _ _ _

theorem setChan_get (b d : BaseNo) (k j : ChanNo) (v : Chan) :
    (s.setChan b k v).chan d j = if b = d ∧ k = j then v else s.chan d j := by
  unfold State.chan
  rw [State.setChan_chans, getElem_set_fin]
  by_cases hb : b = d
  · subst hb
    rw [if_pos rfl, getElem_set_fin]
    simp only [true_and]
  · rw [if_neg hb, if_neg (fun h => hb h.1)]

/-! ### Two updates of one entry -/

/-- Two updates of a link record in turn are one. -/
@[simp] theorem updLink_updLink (b : BaseNo) (f g : Link → Link) :
    (s.updLink b f).updLink b g = s.updLink b fun l => g (f l) := by
  simp [State.updLink]

/-- Only the new value of a link record counts. -/
theorem updLink_congr {s : State} {b : BaseNo} {f g : Link → Link} (h : f s.links[b] = g s.links[b]) :
    s.updLink b f = s.updLink b g := by
  rw [State.updLink, State.updLink, h]

/-- Two updates of a roster entry in turn are one. -/
@[simp] theorem updEntry_updEntry (h : HandsetNo) (f g : RosterEntry → RosterEntry) :
    (s.updEntry h f).updEntry h g = s.updEntry h fun e => g (f e) := by
  simp [State.updEntry]

/-- Only the new value of a roster entry counts. -/
theorem updEntry_congr {s : State} {h : HandsetNo} {f g : RosterEntry → RosterEntry}
    (e : f s.roster[h] = g s.roster[h]) : s.updEntry h f = s.updEntry h g := by
  rw [State.updEntry, State.updEntry, e]

/-- Two updates of a call entry in turn are one. -/
@[simp] theorem updCall_updCall (c : CallNo) (f g : Call → Call) :
    (s.updCall c f).updCall c g = s.updCall c fun e => g (f e) := by
  simp [State.updCall]

/-- Only the new value of a call entry counts. -/
theorem updCall_congr {s : State} {c : CallNo} {f g : Call → Call} (h : f s.calls[c] = g s.calls[c]) :
    s.updCall c f = s.updCall c g := by
  rw [State.updCall, State.updCall, h]

end Sys2Proof.Machine
end

