-- ==== Sys2Proof/WellFormed.lean ====
section
/-! DEFINITION. Which commands are well formed. The types of the operands already hold most field
ranges of Tables 1-2 and 9-9; the checks here are the ones left. A message that fails its check is
malformed (R6), and `exec` takes it so; a register write that fails its check is no access to the
part (9.1), and `exec` faults on it. -/

namespace Sys2Proof

/-- The ranges of Table 1-2 and 9.1 that the operand types do not hold already. -/
def Instr.wellFormed : Instr → Bool
  | .hello _ _ capacity => decide (capacity ≤ 8)
  | .levelReport _ _ _ _ pairs => decide (pairs.length ≤ 4)
  | .registerWrite offset _ => decide (offset < 32 ∧ offset % 4 = 0)
  | _ => true

end Sys2Proof
end

