-- ==== Sys2Proof/Tests/Slice0.lean ====
section
/-! SUPPORT. Tests of the model: ill-formed commands, the worked examples of spec/ (each names its
section), and for every obligation with hypotheses one witness of each of its clauses. -/

namespace Sys2Proof.Tests

open Sys2Proof Sys2Proof.Machine

-- The theorems are checked one after another: each thread takes memory of its own.
set_option Elab.async false

/-! ### Small states -/

/-- The part RUNNING at frame count `n`, with every table at its start value. -/
def at' (n : FrameCount) : State :=
  { State.reset with regs := { Regs.start with run := true, part := .running, frame := n } }

/-- Link `b` in a service state, with 8 channels in zone `z`, an outbound queue and a head retry state. -/
def link (s : State) (b : BaseNo) (v : Service) (z : ZoneNo := 0) (q : List Downlink := []) (h : Option Head := none) :
    State :=
  s.updLink b fun _ => {
    service := v, enabled := true, zone := z, planCount := 8, effCount := 8, joinTimer := none
    silenceTimer := none, queue := q, head := h }

/-- Handset `h` REGISTERED in every zone, located at base `b`, with or without a call. -/
def handset (s : State) (h : HandsetNo) (b : BaseNo) (c : Option CallNo := none) (k : HandsetClass := .standard) : State :=
  s.updEntry h fun _ => { RosterEntry.free with
    registered := true, identity := 35279, check := 35279, cls := k, zoneMask := 0xFFFF, lastBase := b
    expiry := if c.isSome then none else some 200, call := c }

/-- Call `c` of handset `h` on channel `k` of base `b`, bound and HELD. -/
def call (s : State) (c : CallNo) (h : HandsetNo) (b : BaseNo) (k : ChanNo) : State :=
  ((handset s h b (some c)).updCall c fun e => { e with state := .connected, handset := h, base := b, channel := k }).setChan
    b k (.held c)

/-- Call `c` MOVING to channel `j` of base `t`, with a record in a state, an attempt tag 17 and a RESERVED channel. -/
def moving (s : State) (c : CallNo) (t : BaseNo) (j : ChanNo) (v : HandoverState) (slot : Option SlotNo := none)
    (dropped : Bool := false) : State :=
  let u := (s.updCall c fun e => { e with
    state := .moving
    handover := some {
      kind := if slot.isSome then .forced else .decision, tryList := [], target := t, channel := some j, tag := 17
      state := v, reserveTimer := if v = .reserving then some s.now else none
      arrivalTimer := if v = .switching then some s.now else none, oldDropped := dropped, lastFailure := none
      slot := slot } }).setChan t j (.reserved c 17)
  if v = .switching then u.setChan s.calls[c].base s.calls[c].channel (.leaving c) else u

/-- The order of a slot stands dispatched. -/
def dispatch (s : State) (i : SlotNo) (o : Order) : State := s.updOru fun u => { u with dispatched := some (i, o) }

/-- An access of a kind is in progress. -/
def accessed (s : State) (k : AccessKind) : State := s.beginAccess k

/-- Sixteen messages, a full outbound queue. -/
def full : List Downlink := List.replicate 16 (.detach 0)

/-- A head just transmitted at frame count `f` after `n` retries. -/
def sent (n : Nat) (f : FrameCount) : Option Head := some ⟨.awaitingAnswer, n, f⟩

/-- The state that a command leaves, or the state before where it stops. -/
def after (c : Instr) (s : State) : State :=
  match exec c s with
  | .next t => t
  | _ => s

/-- A state at base 47 that serves and carries traffic. -/
def busy : State := link (at' 100) 47 .serving

/-! ### Ill-formed commands (WellFormed) -/

theorem test_illformed_hello_capacity : (Instr.hello 5 ⟨5, by decide⟩ 9).wellFormed = false := by decide
theorem test_illformed_report_pairs : (Instr.levelReport 5 0 0 0 (List.replicate 5 (0, 0))).wellFormed = false := by decide
theorem test_illformed_offset_odd : (Instr.registerWrite 2 0).wellFormed = false := by decide
theorem test_illformed_offset_past : (Instr.registerWrite 32 0).wellFormed = false := by decide
theorem test_wellformed_bounds :
    (Instr.hello 5 ⟨5, by decide⟩ 8).wellFormed = true ∧
      (Instr.levelReport 5 0 0 0 (List.replicate 4 (0, 0))).wellFormed = true ∧ (Instr.registerWrite 28 0).wellFormed = true := by
  decide

/-- No row of the table gives bits, so no word spells a command. -/
theorem test_no_word_decodes : decodeTableWord 32 0 = none ∧ decodeTableWord 8 0xFF = none := by decide

/-! ### Worked examples of the manual: one command each on a small state -/

/-- The link of 1.7 before the HELLO: join limit 50, silence limit 30, retry code 1, count 6, zone 3. -/
def before17 (n : FrameCount) : State :=
  ((at' n).updPlan fun p => { p with header := { p.header with joinLimit := 50, silenceLimit := 30, retryCode := 1 } }).updLink 5
    fun l => { l with enabled := true, zone := 3, planCount := 6, effCount := 6 }

/-- 1.7, "HELLO, count 1200": JOINING, count 4, join timer 1250, silence timer 1230, SETUP sent with 1200. -/
theorem test_hello_joins :
    (let t := after (.hello 5 5 4) (before17 1200)
     t.service 5 = .joining ∧ t.links[(5 : BaseNo)].effCount = 4 ∧ t.links[(5 : BaseNo)].joinTimer = some 1250 ∧
       t.links[(5 : BaseNo)].silenceTimer = some 1230 ∧ t.wire = [⟨5, .setup 3 4 1200⟩]) := by
  decide +kernel

/-- 1.7, "READY, count 1202": SERVING, join timer stopped, silence timer 1232. -/
theorem test_ready_serves :
    (let t := after (.ready 5) ((before17 1202).updLink 5 fun l => { l with service := .joining, joinTimer := some 1250 })
     t.service 5 = .serving ∧ t.links[(5 : BaseNo)].joinTimer = none ∧ t.links[(5 : BaseNo)].silenceTimer = some 1232) := by
  decide +kernel

/-- 1.7, the fifth DEFER at retry count 4 under DISCARD: the head goes, discards 1, the next is transmitted at once. -/
theorem test_fifth_defer_discards :
    (let q := [Downlink.channelGrant 1 0 0, .callRefused 2 .congested]
     let t := after (.defer 5) ((before17 1314).updLink 5 fun l =>
       { l with service := .serving, queue := q, head := some ⟨.awaitingAnswer, 4, 1314⟩ })
     t.links[(5 : BaseNo)].queue = [.callRefused 2 .congested] ∧ t.links[(5 : BaseNo)].head = some ⟨.awaitingAnswer, 0, 1314⟩ ∧
       t.wire = [⟨5, .callRefused 2 .congested⟩] ∧ t.counters.base[(5 : BaseNo)][6] = 1 ∧
       t.counters.base[(5 : BaseNo)][5] = 1) := by
  decide +kernel

/-- A lookup of 2.8 with the pending records `q` and bounds, its entry read in progress. -/
def lookup28 (q : List PendingAttach) (lo hi : Nat) : State :=
  let s := (link (link (at' 5001) 9 .serving 4) 10 .serving 4).updPlan fun p =>
    { p with header := { p.header with standardLife := 30 } }
  accessed (s.setAttaches q (some (.search lo hi))) (.subEntry ((lo + hi) / 2))

/-- A STANDARD entry of 2.8, enabled, for zones 4 and 5. -/
def entry28 (identity : Nat) : BitVec 128 := BitVec.ofNat 128 (identity + 2 ^ 40 + 0x30 * 2 ^ 64)

/-- 2.8, A's read 4 (found at 6): the fields of the entry filled and the ACCEPT appended to base 10. -/
theorem test_attach_accepted :
    (let t := after (.subscriptionEntryReadDone (entry28 100815)) (lookup28 [⟨100815, 10, 5000⟩] 6 6)
     t.roster[(0 : HandsetNo)] = ⟨true, 100815, 35279, 6, .standard, 0x30, 10, 4, 5000, 5001, some 35001, none⟩ ∧
       t.links[(10 : BaseNo)].queue = [.attachAnswer 100815 (.accept 0)] ∧ t.attaches = []) := by
  decide +kernel

/-- 2.8, B's read 4: lo exceeds hi, REJECT UNKNOWN to base 9. -/
theorem test_attach_unknown :
    (let t := after (.subscriptionEntryReadDone (entry28 100500)) (lookup28 [⟨100420, 9, 5000⟩] 3 3)
     t.links[(9 : BaseNo)].queue = [.attachAnswer 100420 .rejectUnknown] ∧ t.attaches = [] ∧ t.lookup = none) := by
  decide +kernel

/-- 2.9, "REFRESH via base 9, check 35278": answered AGAIN with the check, the entry unchanged. -/
theorem test_refresh_wrong_check :
    (let s := handset (link (at' 30000) 9 .serving 4) 12 9
     let t := after (.refresh 9 12 35278) s
     t.roster[(12 : HandsetNo)] = s.roster[(12 : HandsetNo)] ∧ t.links[(9 : BaseNo)].queue = [.attachAnswer 35278 .again]) := by
  decide +kernel

/-- The filter of 5.2 at k = 3 over its reports 2 to 6, and the steps of R79 at k = 2. -/
theorem test_filter_example :
    average 3 752 (sampleTarget 44 (-3)) = 740 ∧ average 3 740 (sampleTarget 44 (-3)) = 730 ∧
      average 3 730 (sampleTarget 60 (-3)) = 753 ∧ average 3 753 (sampleTarget 2 (-3)) = 659 ∧
      average 3 659 (sampleTarget 44 (-3)) = 659 ∧ average 3 659 (sampleTarget 45 (-3)) = 661 ∧
      filterStep 2 (-50) = -12 ∧ filterStep 2 (-52) = -13 ∧ filterStep 2 30 = 8 := by
  decide

/-! ### Witnesses: the block and the links -/

theorem witness_NothingTakenOutsideRunning :
    State.reset.regs.part ≠ .running ∧ (∃ t, exec .restart State.reset = .next t) ∧
      Instr.frameMark.servingOnly = true ∧ State.reset.serves = false :=
  ⟨by decide, ⟨_, rfl⟩, rfl, rfl⟩

theorem witness_HelloActsByServiceState :
    busy.serves = true ∧ (8 : Nat) ≤ 8 ∧ (46 : ReportedBase).val ≠ (47 : BaseNo).val ∧
      (47 : ReportedBase).val = (47 : BaseNo).val ∧
      (let s := link (at' 100) 47 .absent
       s.service 47 = .absent ∧ s.links[(47 : BaseNo)].enabled = true ∧ (1 : Nat) ≤ 1 ∧ s.links[(47 : BaseNo)].queue = []) ∧
      (at' 100).service 47 = .absent ∧ (at' 100).links[(47 : BaseNo)].enabled = false ∧
      (link (at' 100) 47 .joining).service 47 = .joining ∧ busy.service 47 = .serving ∧
      (link (at' 100) 47 .draining).service 47 = .draining ∧ (link (at' 100) 47 .stopped).service 47 = .stopped := by
  decide +kernel

theorem witness_ReadyAndBeaconByServiceState :
    (at' 100).serves = true ∧ (link (at' 100) 47 .joining).service 47 = .joining ∧ busy.service 47 = .serving ∧
      (link (at' 100) 0 .stopped).service 0 = .stopped ∧ (at' 100).service 0 = .absent ∧
      linkActive (busy.service 47) = true ∧ ([] : List (ReportedBase × LevelCode)).length ≤ 4 ∧ 8 < 9 ∧ 4 < (List.replicate 5 ((0 : ReportedBase), (0 : LevelCode))).length := by
  decide +kernel

theorem witness_AppendTakenOrRefused :
    (linkActive (busy.service 47) = true ∧ busy.links[(47 : BaseNo)].queue = []) ∧
      (let s := link (at' 100) 47 .serving 0 (List.replicate 15 .stop) (sent 0 100)
       linkActive (s.service 47) = true ∧ s.links[(47 : BaseNo)].queue ≠ [] ∧ s.links[(47 : BaseNo)].queue.length < 16) ∧
      linkActive ((at' 100).service 47) = false ∧
      16 ≤ (link (at' 100) 47 .serving 0 full (sent 0 100)).links[(47 : BaseNo)].queue.length := by
  decide +kernel

/-- A link whose head awaits its answer at retry count `n`, sent at frame `f`, over a queue. -/
def waiting (n : Nat) (f : FrameCount) (q : List Downlink) : State := link (at' 100) 5 .serving 0 q (sent n f)

/-- A link whose head was deferred in frame 99. -/
def deferred : State := link (at' 100) 5 .serving 0 [.detach 1, .detach 2] (some ⟨.awaitingMark 99, 1, 99⟩)

theorem witness_AcceptRemovesTheHead :
    (waiting 0 100 [.detach 1]).serves = true ∧ linkActive ((waiting 0 100 [.detach 1]).service 5) = true ∧
      (waiting 0 100 [.detach 1]).links[(5 : BaseNo)].head = some ⟨.awaitingAnswer, 0, 100⟩ ∧
      (waiting 0 100 [.detach 1]).links[(5 : BaseNo)].queue = [.detach 1] ∧
      (waiting 2 100 [.detach 1, .detach 2]).links[(5 : BaseNo)].queue = .detach 1 :: .detach 2 :: [] ∧
      (link (at' 100) 5 .serving).links[(5 : BaseNo)].head = none ∧
      deferred.links[(5 : BaseNo)].head = some ⟨.awaitingMark 99, 1, 99⟩ ∧ linkActive ((at' 100).service 5) = false := by
  decide +kernel

theorem witness_DeferredHeadIsRetriedOrGivenUp :
    (linkActive (deferred.service 5) = true ∧ deferred.links[(5 : BaseNo)].head = some ⟨.awaitingMark 99, 1, 99⟩ ∧
      (link (at' 100) 5 .serving).links[(5 : BaseNo)].head = none ∧ linkActive ((at' 100).service 5) = false) ∧
    (waiting 1 98 [.detach 1]).serves = true ∧ linkActive ((waiting 1 98 [.detach 1]).service 5) = true ∧
      (waiting 1 98 [.detach 1]).links[(5 : BaseNo)].head = some ⟨.awaitingAnswer, 1, 98⟩ ∧
      1 < retryLimit (waiting 1 98 [.detach 1]).plan.header.retryCode ∧ (waiting 1 98 [.detach 1]).now = 98 + 2 ∧
      (waiting 1 98 [.detach 1]).links[(5 : BaseNo)].queue = .detach 1 :: [] ∧
      retryLimit (waiting 2 98 [.detach 1]).plan.header.retryCode ≤ 2 ∧ (waiting 2 98 [.detach 1]).now = 98 + 2 ∧
      deferred.now = 99 + 1 ∧ deferred.links[(5 : BaseNo)].queue = .detach 1 :: [.detach 2] ∧
      (waiting 2 98 [.detach 1]).plan.header.retryAction = .discard ∧
      ((waiting 2 98 [.detach 1]).updPlan fun p => { p with header := { p.header with retryAction := .declareLost } }).plan.header.retryAction
        = .declareLost := by
  decide +kernel

theorem witness_LinkTimersExpireAndLossClosesTheLink :
    (let s := (link (at' 100) 47 .joining).updLink 47 fun l => { l with joinTimer := some 100, silenceTimer := some 100 }
     s.serves = true ∧ s.service 47 = .joining ∧ s.links[(47 : BaseNo)].joinTimer = some s.now ∧
       linkActive (s.service 47) = true ∧ s.links[(47 : BaseNo)].silenceTimer = some s.now) ∧
      ∃ d, (busy.setDrain 47 (some ⟨31, none, .active, 0, 0, 0, 0⟩)).drains[(47 : BaseNo)] = some d :=
  ⟨by decide +kernel, ⟨31, none, .active, 0, 0, 0, 0⟩, by decide +kernel⟩

/-! ### Witnesses: the roster and paging -/

/-- Handset 511 known through a serving base 47, expiring now. -/
def known : State := (handset busy 511 47).updEntry 511 fun e => { e with expiry := some 100 }

theorem witness_ReattachRenewsTheEntry :
    (known.carries 47 ∧ known.registeredWith 35279 = some 511 ∧ known.roster[(511 : HandsetNo)].call = none ∧
      known.appendTaken 47 = true) ∧
      (known.updLink 47 fun l => { l with queue := full }).appendTaken 47 = false ∧
      (let s := call busy 255 511 47 7
       s.carries 47 ∧ s.registeredWith 35279 = some 511 ∧ s.roster[(511 : HandsetNo)].call = some 255 ∧
         callLive s.calls[(255 : CallNo)].state = true ∧ s.calls[(255 : CallNo)].handset = 511) := by
  simp only [State.carries]; decide +kernel

/-- A pending attach of an identity through base 47. -/
def pends (i : Identity) : PendingAttach := ⟨i, 47, 90⟩

theorem witness_AttachOfAnUnknownHandset :
    (link (at' 100) 47 .joining).serves = true ∧ (link (at' 100) 47 .joining).service 47 = .joining ∧
      busy.carries 47 ∧ busy.registeredWith 7 = none ∧ busy.attaches = [] ∧
      (let s := busy.setAttaches [pends 7] (some .count)
       s.carries 47 ∧ s.registeredWith 7 = none ∧ ∃ r ∈ s.attaches, r.identity = 7) ∧
      (let s := busy.setAttaches (List.replicate 8 (pends 8)) (some .count)
       s.carries 47 ∧ s.registeredWith 7 = none ∧ (∀ r ∈ s.attaches, r.identity ≠ 7) ∧ 8 ≤ s.attaches.length) ∧
      (let s := busy.setAttaches (List.replicate 7 (pends 8)) (some .count)
       s.carries 47 ∧ s.registeredWith 7 = none ∧ (∀ r ∈ s.attaches, r.identity ≠ 7) ∧ 0 < s.attaches.length ∧
         s.attaches.length < 8) := by
  simp only [State.carries]; decide +kernel

theorem witness_RefreshRenewsOrAnswersAgain :
    known.carries 47 ∧ known.roster[(511 : HandsetNo)].registered = true ∧ known.roster[(511 : HandsetNo)].check = 35279 ∧
      known.roster[(511 : HandsetNo)].check ≠ 35278 ∧ known.roster[(510 : HandsetNo)].registered = false := by
  simp only [State.carries]; decide +kernel

theorem witness_DetachAndLapseFreeTheEntry :
    known.serves = true ∧ known.carries 47 ∧ known.roster[(511 : HandsetNo)].registered = true ∧
      known.roster[(511 : HandsetNo)].expiry = some known.now ∧ known.roster[(511 : HandsetNo)].call = none ∧
      known.roster[(0 : HandsetNo)].registered = false ∧
      (let s := (call busy 255 511 47 7).restartSilence 47
       s.carries 47 ∧ s.roster[(511 : HandsetNo)].registered = true ∧ s.roster[(511 : HandsetNo)].call = some 255 ∧
         callLive s.calls[(255 : CallNo)].state = true ∧ s.calls[(255 : CallNo)].handset = 511) := by
  simp only [State.carries]; decide +kernel

theorem witness_DeregisterFreesTheEntry :
    (dispatch known 31 (.deregister 511)).offers 31 (.deregister 511) ∧
      (dispatch known 31 (.deregister 511)).roster[(511 : HandsetNo)].registered = true ∧
      (dispatch known 0 (.deregister 0)).offers 0 (.deregister 0) ∧
      (dispatch known 0 (.deregister 0)).roster[(0 : HandsetNo)].registered = false ∧
      (let s := dispatch (call busy 255 511 47 7) 31 (.deregister 511)
       let t := s.undispatched.send s.roster[(511 : HandsetNo)].lastBase (.detach 511)
       s.offers 31 (.deregister 511) ∧ s.roster[(511 : HandsetNo)].registered = true ∧
         t.roster[(511 : HandsetNo)].call = some 255 ∧ callLive t.calls[(255 : CallNo)].state = true ∧
         t.calls[(255 : CallNo)].handset = 511) := by
  simp only [State.offers]; decide +kernel

/-- A lookup for identity 100 with its bounds, an entry read in progress. -/
def looking (lo hi : Nat) : State := accessed (busy.setAttaches [pends 100] (some (.search lo hi))) (.subEntry ((lo + hi) / 2))

/-- A subscription entry of an identity, enabled, STANDARD, in every zone. -/
def entryOf (i : Nat) : BitVec 128 := BitVec.ofNat 128 (i + 2 ^ 40 + 0xFFFF * 2 ^ 64)

theorem witness_LookupNarrowsItsBounds :
    (let s := accessed (busy.setAttaches [pends 100] (some .count)) .subCount
     s.serves = true ∧ s.attaches = pends 100 :: [] ∧ s.accessing .subCount ∧ s.lookup = some .count ∧
       (2049 : BitVec 16) ≠ 0) ∧
      busy.lookup = none ∧ State.reset.serves = false ∧
      (looking 0 9).serves = true ∧ (looking 0 9).attaches = pends 100 :: [] ∧ (looking 0 9).accessing (.subEntry 4) ∧
      (looking 0 9).lookup = some (.search 0 9) ∧ (subscriptionOf (entryOf 100)).identity = (pends 100).identity ∧
      ((subscriptionOf (entryOf 99)).identity.toNat < (pends 100).identity.toNat ∧ (0 + 9) / 2 + 1 ≤ 9) ∧
      ((pends 100).identity.toNat < (subscriptionOf (entryOf 101)).identity.toNat ∧ 0 + 1 ≤ (0 + 9) / 2) ∧
      (looking 3 3).accessing (.subEntry 3) ∧ 3 < (3 + 3) / 2 + 1 ∧
      (looking 0 1).accessing (.subEntry 0) ∧ (0 + 1) / 2 < 0 + 1 := by
  simp only [State.accessing]; decide +kernel

theorem witness_LookupEndAnswersOnce :
    (let s := (at' 100).setAttaches [pends 100] (some .count)
     s.attaches = pends 100 :: [] ∧ s.service (pends 100).base ≠ .serving ∧ s.service (pends 100).base ≠ .draining) ∧
      (let s := busy.setAttaches [pends 100] (some .count)
       let e := subscriptionOf (entryOf 100)
       s.attaches = pends 100 :: [] ∧ s.service (pends 100).base = .serving ∧ e.enabled = true ∧
         inMask e.zoneMask s.links[(pends 100).base].zone = true ∧ s.roster[(0 : HandsetNo)].registered = false ∧
         (∀ x < (0 : HandsetNo), s.roster[x].registered = true) ∧ s.appendTaken (pends 100).base = true) ∧
      (let s := (link (at' 100) 47 .serving 0 full (sent 0 100)).setAttaches [pends 100] (some .count)
       s.service (pends 100).base = .serving ∧ s.appendTaken (pends 100).base = false) ∧
      (subscriptionOf (BitVec.ofNat 128 100)).enabled = false ∧
      (subscriptionOf (BitVec.ofNat 128 (100 + 2 ^ 40))).enabled = true ∧
      inMask (subscriptionOf (BitVec.ofNat 128 (100 + 2 ^ 40))).zoneMask 0 = false ∧
      (∀ x : HandsetNo, ({ busy with roster := .replicate 512 { RosterEntry.free with registered := true } }).roster[x].registered
        = true) := by
  decide +kernel

theorem witness_RosterRequests :
    known.roster[(511 : HandsetNo)].registered = true ∧ known.roster[(511 : HandsetNo)].call = none ∧
      (call busy 255 511 47 7).roster[(511 : HandsetNo)].call = some 255 ∧
      known.roster[(0 : HandsetNo)].registered = false := by
  decide +kernel

/-- The example of 3.7: handset 75 with its mask and home zone, and the links of the example. -/
def zones37 : State :=
  let s := link (link (link (link (at' 8000) 2 .serving 3) 9 .serving 4) 10 .serving 4 full (sent 0 8000)) 14 .draining 5
  (link (link s 20 .serving 9) 21 .serving 9).updEntry 75 fun _ => { RosterEntry.free with
    registered := true, identity := 75, zoneMask := 0x0238, lastBase := 9, lastZone := 4, expiry := some 9000 }

/-- A page of handset 75 from slot 6, its next round now. -/
def paging (s : State) (z : List ZoneNo) (left : Nat) : State :=
  s.setPages [{ handset := 75, slot := 6, zones := z, roundsLeft := left, nextRound := s.now, roundsMade := 1, appended := 1, skipped := 1 }]

theorem witness_PageOrderStartsOrIsRefused :
    (let s := dispatch zones37 6 (.page 75)
     s.offers 6 (.page 75) ∧ s.roster[(75 : HandsetNo)].registered = true ∧ s.roster[(75 : HandsetNo)].call = none ∧
       (∀ p : PageRecord, p ∈ s.pages → p.handset ≠ 75) ∧ s.pages.length < 16 ∧ s.zoneSequence 75 = 4 :: [9, 3]) ∧
      (let s := dispatch (at' 100) 6 (.page 75)
       s.offers 6 (.page 75) ∧ s.roster[(75 : HandsetNo)].registered = false) ∧
      (let s := dispatch (call busy 0 75 47 0) 6 (.page 75)
       s.offers 6 (.page 75) ∧ s.roster[(75 : HandsetNo)].call.isSome = true) ∧
      (let s := dispatch (paging zones37 [4] 0) 6 (.page 75)
       s.offers 6 (.page 75) ∧ s.roster[(75 : HandsetNo)].call = none ∧ ∃ p ∈ s.pages, p.handset = 75) ∧
      (let s := dispatch (zones37.setPages (List.replicate 16 ⟨7, 0, [0], 0, 0, 1, 0, 0⟩)) 6 (.page 75)
       s.offers 6 (.page 75) ∧ (∀ p : PageRecord, p ∈ s.pages → p.handset ≠ 75) ∧ 16 ≤ s.pages.length) ∧
      (let s := dispatch (handset (at' 100) 75 0) 6 (.page 75)
       s.offers 6 (.page 75) ∧ s.pages.length < 16 ∧ s.zoneSequence 75 = []) := by
  simp only [State.offers]; decide +kernel

theorem witness_RoundTimerPagesOn :
    (let s := paging zones37 [4, 9] 1
     ∃ p, s.serves = true ∧ s.pageOf 75 = some p ∧ p.nextRound = s.now ∧ p.zones = 4 :: [9] ∧ 0 < p.roundsLeft) ∧
      (let s := paging zones37 [4, 9] 0
       ∃ p, s.pageOf 75 = some p ∧ p.nextRound = s.now ∧ p.zones = 4 :: [9] ∧ p.roundsLeft = 0) ∧
      (let s := paging zones37 [4] 0
       ∃ p, s.pageOf 75 = some p ∧ p.nextRound = s.now ∧ p.zones = 4 :: [] ∧ p.roundsLeft = 0) :=
  ⟨⟨_, rfl, rfl, rfl, rfl, by decide⟩, ⟨_, rfl, rfl, rfl, rfl⟩, ⟨_, rfl, rfl, rfl, rfl⟩⟩

theorem witness_PageAnswerLocatesTheHandset :
    (link (at' 100) 47 .joining).service 47 = .joining ∧ zones37.carries 2 ∧
      zones37.roster[(74 : HandsetNo)].registered = false ∧ zones37.roster[(75 : HandsetNo)].registered = true ∧
      zones37.pageOf 75 = none ∧ (paging zones37 [4] 0).carries 14 ∧ ((paging zones37 [4] 0).pageOf 75).isSome = true := by
  simp only [State.carries]; decide +kernel

/-! ### Witnesses: calls and channels -/

theorem witness_CallRequestAdmitsACall :
    (let s := handset busy 511 47
     s.serves = true ∧ s.service 47 = .serving ∧ s.roster[(511 : HandsetNo)].registered = true ∧
       s.roster[(511 : HandsetNo)].call = none ∧ (s.freeChannels 47).head? = some 0 ∧ s.freeCall = some 0 ∧
       s.plan.guards[(47 : BaseNo)] < (s.freeChannels 47).length ∧ s.appendTaken 47 = true ∧
       s.roster[(511 : HandsetNo)].cls = .standard) ∧
      ∃ t, exec (.callRequest 47 511 false) (handset busy 511 47) = .next t ∧ t.roster[(511 : HandsetNo)].call = some 0 := by
  refine ⟨by decide +kernel, _, rfl, ?_⟩
  decide +kernel

theorem witness_CallRequestRefused :
    (link (at' 100) 47 .joining).service 47 = .joining ∧ (link (at' 100) 47 .draining).service 47 = .draining ∧
      (busy.serves = true ∧ busy.service 47 = .serving ∧ busy.roster[(511 : HandsetNo)].registered = false) ∧
      (call busy 255 511 47 7).roster[(511 : HandsetNo)].call.isSome = true ∧
      (let s := { known with calls := .replicate 256 { Call.free with state := .ended } }
       s.roster[(511 : HandsetNo)].call = none ∧ s.freeCall = none) ∧
      (let s := { known with chans := .replicate 48 (.replicate 8 .blocked) }
       s.service 47 = .serving ∧ s.freeChannels 47 = []) ∧
      (let s := known.updPlan fun p => { p with guards := .replicate 48 8 }
       s.roster[(511 : HandsetNo)].cls = .standard ∧ (s.freeChannels 47).length ≤ s.plan.guards[(47 : BaseNo)]) ∧
      (let s := known.updLink 47 fun l => { l with queue := full, head := sent 0 100 }
       s.roster[(511 : HandsetNo)].registered = true ∧ s.roster[(511 : HandsetNo)].call = none ∧ s.freeCall ≠ none ∧
         s.freeChannels 47 ≠ [] ∧ s.plan.guards[(47 : BaseNo)] < (s.freeChannels 47).length ∧ s.appendTaken 47 = false) := by
  decide +kernel

/-- Call 255 of handset 511 on channel 7 of base 47, which is SERVING, base 46 SERVING beside it. -/
def talking : State := call (link busy 46 .serving) 255 511 47 7

theorem witness_CallEndAndChannelDropped :
    (talking.serves = true ∧ linkActive (talking.service 47) = true ∧ (7 : ChanNo).val < talking.links[(47 : BaseNo)].effCount ∧
      talking.chan 47 7 = .held 255) ∧
      (moving talking 255 46 0 .switching).chan 47 7 = .leaving 255 ∧ talking.chan 47 0 = .free ∧
      (moving talking 255 46 0 .reserving).chan 46 0 = .reserved 255 17 ∧ (talking.setChan 47 7 .blocked).chan 47 7 = .blocked ∧
      (talking.updLink 47 fun l => { l with effCount := 7 }).links[(47 : BaseNo)].effCount ≤ (7 : ChanNo).val ∧
      (let s := moving talking 255 46 0 .switching
       ∃ r, s.calls[(255 : CallNo)].handover = some r ∧ r.state = .switching ∧ r.oldDropped = false ∧
         s.chan 46 0 = .reserved 255 r.tag ∧ r.target = 46 ∧ r.channel = some 0) ∧
      (let s := moving talking 255 46 0 .switching none true
       ∃ r, s.calls[(255 : CallNo)].handover = some r ∧ r.state = .switching ∧ r.oldDropped = true ∧
         s.chan 47 7 = .leaving 255 ∧ s.chan 46 0 = .reserved 255 r.tag) ∧
      (let s := moving talking 255 46 0 .awaitMark
       ∃ r, s.calls[(255 : CallNo)].handover = some r ∧ r.state = .awaitMark ∧ s.chan 46 0 = .reserved 255 r.tag) :=
  ⟨by decide +kernel, by decide +kernel, by decide +kernel, by decide +kernel, by decide +kernel, by decide +kernel,
    ⟨_, rfl, rfl, rfl, rfl, rfl, rfl⟩, ⟨_, rfl, rfl, rfl, rfl, rfl⟩, ⟨_, rfl, rfl, rfl⟩⟩

theorem witness_CallEndActionsClearTheCall :
    callLive talking.calls[(255 : CallNo)].state = true ∧ callLive talking.calls[(0 : CallNo)].state = false ∧
      talking.roster[talking.calls[(255 : CallNo)].handset].registered = true ∧
      talking.roster[talking.calls[(255 : CallNo)].handset].call.isSome = true ∧
      talking.calls[(255 : CallNo)].handover = none ∧
      (∃ r, (moving talking 255 46 0 .switching).calls[(255 : CallNo)].handover = some r ∧ r.channel = some 0 ∧
        r.slot = none) ∧
      ∃ r, (moving talking 255 46 0 .awaitMark (some 31)).calls[(255 : CallNo)].handover = some r ∧ r.slot = some 31 :=
  ⟨by decide +kernel, by decide +kernel, by decide +kernel, by decide +kernel, by decide +kernel, ⟨_, rfl, rfl, rfl⟩,
    ⟨_, rfl, rfl⟩⟩

theorem witness_ClearBlockAndUnblockOrders :
    (dispatch talking 31 (.clearCall 255)).offers 31 (.clearCall 255) ∧
      callLive (dispatch talking 31 (.clearCall 255)).calls[(255 : CallNo)].state = true ∧
      talking.calls[(0 : CallNo)].state = .free ∧
      (dispatch talking 31 (.blockChannel 47 7)).offers 31 (.blockChannel 47 7) ∧ talking.chan 47 0 = .free ∧
      talking.chan 47 7 ≠ .free ∧ (dispatch talking 31 (.unblockChannel 47 7)).offers 31 (.unblockChannel 47 7) ∧
      (talking.setChan 47 0 .blocked).chan 47 0 = .blocked ∧ chanInUse (talking.chan 47 7) = true := by
  simp only [State.offers]; decide +kernel

/-! ### Witnesses: levels and decision -/

theorem witness_FilterArithmetic :
    ((0 : LevelCode).val : Int) + -16 < 0 ∧ (127 : Int) < ((127 : LevelCode).val : Int) + 1 ∧
      (0 ≤ ((1 : LevelCode).val : Int) + -1 ∧ ((1 : LevelCode).val : Int) + -1 ≤ 127) ∧ 1 ≤ 5 ∧ 5 ≤ 5 := by
  decide

/-- Six neighbours, the last of them base 15 at 540. -/
def six : List Neighbour :=
  [⟨8, 808, 0, 1⟩, ⟨6, 768, 0, 0⟩, ⟨12, 720, 1, 0⟩, ⟨3, 640, 2, 0⟩, ⟨9, 600, 0, 0⟩, ⟨15, 540, 0, 0⟩]

theorem witness_NeighbourSetRules :
    (six.take 5).length < 6 ∧ six.length = 6 ∧ (six.map (·.base)).Nodup ∧
      (∃ last ∈ six, last.level < 541) ∧ (∃ last ∈ six, (540 : Nat) ≤ last.level) ∧
      (∀ x : BaseNo, x.val ≠ (48 : ReportedBase).val) ∧ (47 : BaseNo).val = (47 : ReportedBase).val ∧
      busy.inService 47 ∧ ¬busy.inService 46 ∧ (47 : BaseNo) ≠ 0 ∧ (47 : ReportedBase) ∉ ([0] : List ReportedBase) ∧
      (0 : ReportedBase) ∈ ([0] : List ReportedBase) ∧ (∃ n ∈ six, n.base = 8) ∧ ∀ n ∈ six, n.base ≠ 47 := by
  simp only [State.inService]; decide +kernel

/-- The zone of 6.8: weak 40, recovery 46, error limit 6, watch count limit 2. -/
def zone68 : ZoneParams := { ZoneParams.start with
  shift := 2, weak := 40, recovery := 46, errorLimit := 6, watchLimit := 2, notice := .edge, margin := 4, weakMargin := 2
  biasCode := 2, leadCount := 3, settleFrames := 50, retryHold := 100 }

theorem witness_WatchFollowsTheReports :
    reportWeak zone68 640 5 = false ∧ reportWeak zone68 639 0 = true ∧ 0 + 1 < zone68.watchLimit ∧
      zone68.watchLimit ≤ 1 + 1 ∧ reportRecovers zone68 736 5 = true ∧ reportRecovers zone68 735 0 = false ∧
      Watch.suspect ≠ .weak ∧ zone68.biasCode = 2 ∧
      (∀ k ∈ [0, 1, 3], ({ zone68 with biasCode := k } : ZoneParams).biasCode = k) := by
  decide

theorem witness_LevelReportUpdatesItsCall :
    talking.serves = true ∧ linkActive (talking.service 47) = true ∧
      (List.replicate 4 ((0 : ReportedBase), (0 : LevelCode))).length ≤ 4 ∧ talking.chan 47 0 = .free ∧
      (7 : ChanNo).val < talking.links[(47 : BaseNo)].effCount ∧ talking.chan 47 7 = .held 255 ∧
      talking.calls[(255 : CallNo)].base = 47 ∧ talking.roster[talking.calls[(255 : CallNo)].handset].registered = true ∧
      talking.calls[(255 : CallNo)].neighbours.length ≤ 6 ∧
      ∃ f, (after (.levelReport 47 7 60 0 []) talking).calls[(255 : CallNo)].filter = some f :=
  ⟨by decide +kernel, by decide +kernel, by decide, by decide +kernel, by decide +kernel, by decide +kernel,
    by decide +kernel, by decide +kernel, by decide +kernel, 960, by decide +kernel⟩

/-- Call 255 with base 46 in its set, its lead at the required one in the next report. -/
def leading : State := talking.updCall 255 fun e => { e with neighbours := [⟨46, 2032, 0, 15⟩] }

/-- The same call on a DRAINING base with its drain record. -/
def emptying (s : State) : State :=
  (s.updLink 47 fun l => { l with service := .draining }).setDrain 47 (some ⟨31, none, .active, 0, 0, 0, 0⟩)

theorem witness_NoDecisionWhileATimerRuns :
    (let s := moving talking 255 46 0 .reserving
     s.serves = true ∧ s.service 47 = .serving ∧ s.chan 47 7 = .held 255 ∧ s.calls[(255 : CallNo)].base = 47 ∧
       s.calls[(255 : CallNo)].state = .moving ∧ ∃ t, exec (.levelReport 47 7 0 0 []) s = .next t) ∧
      (talking.updCall 255 fun e => { e with settle := some 101 }).calls[(255 : CallNo)].settle ≠ none ∧
      (talking.updCall 255 fun e => { e with hold := some 101 }).calls[(255 : CallNo)].hold ≠ none ∧
      (leading.serves = true ∧ (7 : ChanNo).val < leading.links[(47 : BaseNo)].effCount ∧ leading.service 47 = .serving ∧
        leading.chan 47 7 = .held 255 ∧ leading.calls[(255 : CallNo)].state = .connected ∧
        leading.calls[(255 : CallNo)].settle = none ∧ leading.calls[(255 : CallNo)].hold = none) ∧
      ((46 : BaseNo) ≠ leading.calls[(255 : CallNo)].base ∧ leading.service 46 = .serving ∧
        leading.holdsReserved 255 = false ∧ (leading.freeChannels 46).head? = some 0 ∧ leading.appendTaken 46 = true) ∧
      ({ leading with chans := leading.chans.set 46 (.replicate 8 .blocked) }).freeChannels 46 = [] ∧
      ((emptying leading).service 47 = .draining ∧ ∃ d, (emptying leading).drains[(47 : BaseNo)] = some d) ∧
      (let s := emptying (moving talking 255 46 0 .reserving)
       s.service 47 = .draining ∧ s.chan 47 7 = .held 255 ∧ s.calls[(255 : CallNo)].state = .moving) ∧
      (let s := dispatch leading 31 (.drainBase 47 300)
       s.offers 31 (.drainBase 47 300) ∧ s.service 47 = .serving ∧ s.servedBy 47 = [255] ∧
         s.calls[(255 : CallNo)].state = .connected ∧ ∀ d : CallNo, s.calls[d].handover = none) :=
  ⟨⟨by decide +kernel, by decide +kernel, by decide +kernel, by decide +kernel, by decide +kernel, _, rfl⟩,
    by decide +kernel, by decide +kernel, by decide +kernel, by decide +kernel, by decide +kernel,
    ⟨by decide +kernel, ⟨31, none, .active, 0, 0, 0, 0⟩, by decide +kernel⟩, by decide +kernel, by simp only [State.offers]; decide +kernel⟩

/-- R105, R106 by hand: a report that brings the lead to the required one starts a DECISION handover to base 46. -/
theorem test_lead_starts_a_move :
    (let t := after (.levelReport 47 7 10 0 [(46, 127)]) leading
     (t.calls[(255 : CallNo)].handover.map fun r => (r.kind, r.target, r.channel)) = some (.decision, 46, some 0)) := by
  decide +kernel

/-! ### Witnesses: the handover exchange -/

theorem witness_CallTimersExpire :
    (let s := talking.updCall 255 fun e => { e with settle := some 100, hold := some 100 }
     s.serves = true ∧ s.calls[(255 : CallNo)].settle = some s.now ∧ s.calls[(255 : CallNo)].hold = some s.now) ∧
      (let s := moving talking 255 46 0 .reserving
       ∃ r, s.serves = true ∧ s.calls[(255 : CallNo)].handover = some r ∧ r.state = .reserving ∧
         r.reserveTimer = some s.now ∧ r.tryList = [] ∧ r.channel = some 0 ∧ s.calls[(255 : CallNo)].state = .moving ∧
         s.chan r.target 0 = .reserved 255 r.tag) ∧
      (let s := moving talking 255 46 0 .switching
       ∃ r, s.calls[(255 : CallNo)].handover = some r ∧ r.state = .switching ∧ r.arrivalTimer = some s.now) :=
  ⟨by decide +kernel, ⟨_, rfl, rfl, rfl, rfl, rfl, rfl, rfl, rfl⟩, ⟨_, rfl, rfl, rfl⟩⟩

/-- Call 255 moves to base 46 with bases 44, which is ABSENT, and 45 left to try. -/
def trying (v : HandoverState) : State :=
  (moving (link talking 45 .serving) 255 46 0 v).updHandover 255 fun r => { r with tryList := [44, 45] }

theorem witness_failsOver :
    (let s := trying .reserving
     ∃ r, s.calls[(255 : CallNo)].handover = some r ∧ r.channel = some 0 ∧ s.calls[(255 : CallNo)].state = .moving ∧
       s.chan r.target 0 = .reserved 255 r.tag ∧ r.tryList = [44] ++ 45 :: [] ∧
       let g := s.reservationLost 255 r 0 .noAnswer
       (∀ x ∈ [(44 : BaseNo)], g.refusesReserve 255 x) ∧ g.service 45 = .serving ∧
         (45 : BaseNo) ≠ s.calls[(255 : CallNo)].base ∧ g.holdsReserved 255 = false ∧
         (g.freeChannels 45).head? = some 0 ∧ g.appendTaken 45 = true) ∧
      (let s := (trying .reserving).updLink 45 fun l => { l with queue := full }
       ∃ r, s.calls[(255 : CallNo)].handover = some r ∧ (s.reservationLost 255 r 0 .noAnswer).appendTaken 45 = false) ∧
      (let s := (trying .reserving).updLink 45 fun l => { l with service := .draining }
       ∃ r, s.calls[(255 : CallNo)].handover = some r ∧
         ∀ x ∈ r.tryList, (s.reservationLost 255 r 0 .noAnswer).refusesReserve 255 x) :=
  ⟨⟨_, rfl, rfl, rfl, rfl, rfl, by unfold State.refusesReserve; decide +kernel, by decide +kernel, by decide +kernel,
      by decide +kernel, by decide +kernel, by decide +kernel⟩,
    ⟨_, rfl, by decide +kernel⟩, ⟨_, rfl, by unfold State.refusesReserve; decide +kernel⟩⟩

/-- R113: the candidate at base 46 does not answer, base 44 is passed over, and the call tries base 45. Each candidate
takes a tag of its own (R112), so base 45 gets the call's second. -/
theorem test_next_candidate :
    ((after (.reserveTimerExpiry 255) (trying .reserving)).calls[(255 : CallNo)].handover.map
        fun r => (r.target, r.tag, r.channel, r.tryList, r.lastFailure)) = some (45, 2, some 0, [], some .noChannel) ∧
      (after (.reserveTimerExpiry 255) (trying .reserving)).wire =
        [⟨46, .release 0 17⟩, ⟨45, .reserve 0 255 35279 2⟩] :=
  ⟨by decide +kernel, by decide +kernel⟩

/-- FORCE MOVE of call 255 to a base stands dispatched from slot 31. -/
def forcing (s : State) (t : BaseNo) : State := dispatch s 31 (.forceMove 255 t)

theorem witness_ForceMoveOrder :
    (let s := forcing talking 46
     s.offers 31 (.forceMove 255 46) ∧ callLive s.calls[(255 : CallNo)].state = true ∧
       s.calls[(255 : CallNo)].handover = none ∧ s.service 46 = .serving ∧ (46 : BaseNo) ≠ s.calls[(255 : CallNo)].base ∧
       inMask s.roster[s.calls[(255 : CallNo)].handset].zoneMask s.links[(46 : BaseNo)].zone = true ∧
       s.holdsReserved 255 = false ∧ (s.freeChannels 46).head? = some 0 ∧ s.appendTaken 46 = true) ∧
      (let s := forcing { talking with chans := talking.chans.set 46 (.replicate 8 .blocked) } 46
       s.offers 31 (.forceMove 255 46) ∧ s.service 46 = .serving ∧ s.freeChannels 46 = []) ∧
      (let s := forcing (talking.updLink 46 fun l => { l with queue := full }) 46
       s.offers 31 (.forceMove 255 46) ∧ s.service 46 = .serving ∧ s.holdsReserved 255 = false ∧
         (s.freeChannels 46).head? = some 0 ∧ s.appendTaken 46 = false) ∧
      callLive (forcing busy 46).calls[(255 : CallNo)].state = false ∧
      (forcing (moving talking 255 46 0 .reserving) 46).calls[(255 : CallNo)].handover.isSome = true ∧
      (forcing talking 45).service 45 ≠ .serving ∧ (forcing talking 47).calls[(255 : CallNo)].base = 47 ∧
      (let s := forcing (talking.updEntry 511 fun e => { e with zoneMask := 2 }) 46
       inMask s.roster[s.calls[(255 : CallNo)].handset].zoneMask s.links[(46 : BaseNo)].zone = false) ∧
      (254 : AttemptTag) ≠ 255 := by
  simp only [State.offers]; decide +kernel

theorem witness_StaleAnswersEarnARelease :
    (talking.serves = true ∧ linkActive (talking.service 46) = true ∧
      ¬∃ r, talking.calls[(255 : CallNo)].handover = some r ∧ r.target = 46 ∧ r.channel = some 0 ∧ r.tag = 1) ∧
      ((1 : AttemptTag) ≠ 0 ∧ ∀ d, d ≠ (255 : CallNo) → talking.chan 46 0 ≠ .reserved d 1) ∧
      ∃ d, d ≠ (255 : CallNo) ∧ (talking.setChan 46 0 (.reserved 9 1)).chan 46 0 = .reserved d 1 := by
  have h : talking.calls[(255 : CallNo)].handover = none := by decide +kernel
  have hc : talking.chan 46 0 = .free := by decide +kernel
  refine ⟨⟨by decide +kernel, by decide +kernel, fun ⟨r, hr, _⟩ => ?_⟩, ⟨by decide, fun d _ => ?_⟩, 9, by decide,
    by decide +kernel⟩
  · rw [h] at hr; cases hr
  · rw [hc]; intro e; cases e

theorem witness_ReserveAnswerByState :
    (let s := moving talking 255 46 0 .reserving
     ∃ r, s.serves = true ∧ linkActive (s.service 46) = true ∧ s.calls[(255 : CallNo)].handover = some r ∧ r.target = 46 ∧
       r.channel = some 0 ∧ r.tag = 17 ∧ r.state = .reserving ∧ (s.zoneAt 46).switchMode = .immediate ∧
       s.calls[(255 : CallNo)].state = .moving ∧ s.chan 46 0 = .reserved 255 17) ∧
      (let s := (moving talking 255 46 0 .reserving).updPlan fun p => { p with
         zones := .replicate 16 { ZoneParams.start with switchMode := .marked } }
       (s.zoneAt 46).switchMode = .marked ∧ (s.setBatch (List.replicate 31 ⟨0, 101⟩)).batch.length < 32 ∧
         32 ≤ (s.setBatch (List.replicate 32 ⟨0, 101⟩)).batch.length) ∧
      (∃ r, (moving talking 255 46 0 .awaitMark).calls[(255 : CallNo)].handover = some r ∧ r.state = .awaitMark ∧
        (moving talking 255 46 0 .awaitMark).chan 46 0 = .reserved 255 17) ∧
      ∃ r, (moving talking 255 46 0 .switching).calls[(255 : CallNo)].handover = some r ∧ r.state = .switching :=
  ⟨⟨_, rfl, rfl, rfl, rfl, rfl, rfl, rfl, rfl, rfl, rfl⟩, by decide +kernel, ⟨_, rfl, rfl, rfl⟩, ⟨_, rfl, rfl⟩⟩

theorem witness_SwitchListsAndTheBatch :
    (3 ≤ 3) ∧
      (let s := moving talking 255 46 0 .reserving
       ∃ r, s.calls[(255 : CallNo)].handover = some r ∧ r.channel = some 0 ∧ s.appendTaken s.calls[(255 : CallNo)].base = true ∧
         s.chan s.calls[(255 : CallNo)].base s.calls[(255 : CallNo)].channel = .held 255 ∧
         s.chan r.target 0 = .reserved 255 r.tag) ∧
      (let s := (moving talking 255 46 0 .reserving).updLink 47 fun l => { l with queue := full }
       s.appendTaken s.calls[(255 : CallNo)].base = false) ∧
      (let s := (moving talking 255 46 0 .awaitMark).setBatch [⟨255, 100⟩]
       s.serves = true ∧ (s.batch.map (·.call)).Nodup) :=
  ⟨by decide, ⟨_, rfl, rfl, rfl, rfl, rfl⟩, by decide +kernel, by decide +kernel⟩

theorem witness_AttemptEndsAndTheCallGoesOn :
    (let s := moving talking 255 46 0 .switching (some 31)
     ∃ r, s.calls[(255 : CallNo)].handover = some r ∧ r.channel = some 0 ∧ s.calls[(255 : CallNo)].state = .moving ∧
       s.chan r.target 0 = .reserved 255 r.tag ∧
       (r.state = .switching → s.chan s.calls[(255 : CallNo)].base s.calls[(255 : CallNo)].channel = .leaving 255) ∧
       r.slot = some 31) ∧
      (∃ r, (moving talking 255 46 0 .awaitMark).calls[(255 : CallNo)].handover = some r ∧ r.state ≠ .switching ∧
        r.slot = none) ∧
      (let s := (moving talking 255 46 0 .reserving).updHandover 255 fun r => { r with channel := none }
       ∃ r, s.calls[(255 : CallNo)].handover = some r ∧ s.calls[(255 : CallNo)].state = .moving ∧ r.channel = none) :=
  ⟨⟨_, rfl, rfl, rfl, rfl, fun _ => rfl, rfl⟩, ⟨_, rfl, by decide, rfl⟩, ⟨_, rfl, rfl, rfl⟩⟩

theorem witness_ArrivedCompletesTheMove :
    (let s := moving talking 255 46 0 .switching
     ∃ r, s.serves = true ∧ linkActive (s.service 46) = true ∧ s.calls[(255 : CallNo)].handover = some r ∧ r.target = 46 ∧
       r.channel = some 0 ∧ r.tag = 17 ∧ r.state = .switching ∧ s.calls[(255 : CallNo)].state = .moving ∧
       s.chan s.calls[(255 : CallNo)].base s.calls[(255 : CallNo)].channel = .leaving 255 ∧ s.chan 46 0 = .reserved 255 17 ∧
       s.roster[s.calls[(255 : CallNo)].handset].registered = true) ∧
      (∃ r, (moving talking 255 46 0 .reserving).calls[(255 : CallNo)].handover = some r ∧ r.state ≠ .switching) ∧
      (∃ r, (moving talking 255 46 0 .switching (some 31)).calls[(255 : CallNo)].handover = some r ∧ r.slot = some 31) ∧
      (talking.calls[(255 : CallNo)].filter = none ∧
        (talking.updCall 255 fun e => { e with filter := some 9 }).calls[(255 : CallNo)].filter = some 9 ∧
        (talking.service 47 = .serving ∨ talking.service 47 = .draining)) ∧
      (∃ d, (emptying talking).drains[(47 : BaseNo)] = some d ∧ d.phase = .active ∧ (emptying talking).servedBy 47 ≠ []) ∧
      (emptying busy).servedBy 47 = [] ∧ (⟨31, none, .clearing, 0, 0, 0, 0⟩ : DrainRecord).phase = .clearing :=
  ⟨⟨_, by decide +kernel, by decide +kernel, rfl, rfl, rfl, rfl, rfl, by decide +kernel, by decide +kernel,
    by decide +kernel, by decide +kernel⟩, ⟨_, rfl, by decide⟩, ⟨_, rfl, rfl⟩, by decide +kernel,
    ⟨⟨31, none, .active, 0, 0, 0, 0⟩, by decide +kernel, rfl, by decide +kernel⟩, by decide +kernel, rfl⟩

/-! ### Witnesses: base service -/

theorem witness_DrainOfABase :
    (let s := dispatch (moving (link talking 45 .serving) 255 46 0 .reserving) 31 (.drainBase 46 0xFFFF)
     s.offers 31 (.drainBase 46 0xFFFF) ∧ s.service 46 = .serving ∧
       (∃ r, s.calls[(255 : CallNo)].handover = some r ∧ r.target = 46 ∧ r.state ≠ .switching ∧
         s.calls[(255 : CallNo)].base ≠ 46) ∧
       ∀ c : CallNo, ¬(callLive s.calls[c].state = true ∧ s.calls[c].base = 46)) ∧
      (let s := dispatch talking 31 (.drainBase 47 0)
       s.offers 31 (.drainBase 47 0) ∧ s.service 47 = .serving ∧
         ∃ c : CallNo, callLive s.calls[c].state = true ∧ s.calls[c].base = 47) ∧
      (link (at' 100) 47 .draining).service 47 = .draining ∧
      ((at' 100).service 47 ≠ .draining ∧ (at' 100).service 47 ≠ .serving) ∧
      (let s := (link talking 47 .draining).setDrain 47 (some ⟨31, some 100, .active, 0, 0, 0, 0⟩)
       ∃ d, s.serves = true ∧ s.drains[(47 : BaseNo)] = some d ∧ d.limit = some s.now ∧ d.cleared = 0 ∧
         s.service 47 = .draining) := by
  simp only [State.offers]
  refine ⟨⟨by decide +kernel, by decide +kernel, ⟨_, rfl, by decide +kernel, by decide +kernel, by decide +kernel⟩,
    by decide +kernel⟩, ⟨by decide +kernel, by decide +kernel, 255, by decide +kernel⟩, by decide +kernel, by decide +kernel,
    ⟨_, by decide +kernel, rfl, rfl, rfl, by decide +kernel⟩⟩

theorem witness_StopAndStartBaseOrders :
    (dispatch talking 31 (.stopBase 47)).offers 31 (.stopBase 47) ∧
      (callLive (dispatch talking 31 (.stopBase 47)).calls[(255 : CallNo)].state = true ∧
        (dispatch talking 31 (.stopBase 47)).calls[(255 : CallNo)].base = 47) ∧
      (let s := dispatch (link (at' 100) 47 .stopped) 31 (.startBase 47)
       s.offers 31 (.startBase 47) ∧ s.service 47 = .stopped) ∧
      (dispatch busy 31 (.startBase 47)).service 47 ≠ .stopped ∧
      ((dispatch (emptying talking) 30 (.stopBase 47)).offers 30 (.stopBase 47) ∧
        ∃ d, (dispatch (emptying talking) 30 (.stopBase 47)).drains[(47 : BaseNo)] = some d) := by
  simp only [State.offers]
  exact ⟨by decide +kernel, by decide +kernel, by decide +kernel, by decide +kernel, by decide +kernel,
    ⟨31, none, .active, 0, 0, 0, 0⟩, by decide +kernel⟩

theorem witness_WithdrawalClearsTheBase :
    (callLive talking.calls[(255 : CallNo)].state = true ∧ talking.calls[(255 : CallNo)].base = 47) ∧
      talking.channelsOk ∧ talking.startOk ∧ ∃ t, exec (.callEnd 47 7) talking = .next t := by
  have hk : ∀ (b : BaseNo) (k : ChanNo), talking.chan b k = if b = 47 ∧ k = 7 then .held 255 else .free := by
    decide +kernel
  have hc : ∀ c : CallNo, talking.calls[c].handover = none ∧ talking.calls[c].neighbours = [] ∧
      (callLive talking.calls[c].state = true → c = 255) := by decide +kernel
  have hs : talking.calls[(255 : CallNo)].base = 47 ∧ talking.calls[(255 : CallNo)].channel = 7 ∧
      callLive talking.calls[(255 : CallNo)].state = true ∧ talking.service 47 = .serving ∧
      talking.links[(47 : BaseNo)].effCount = 8 := by decide +kernel
  refine ⟨by decide +kernel, ⟨fun b k => ?_, fun c h => ?_, fun c r h => ?_, fun c n h => ?_⟩, ?_, _, rfl⟩
  · unfold State.channelOk
    rw [hk b k]
    by_cases e : b = 47 ∧ k = 7
    · obtain ⟨rfl, rfl⟩ := e
      refine ⟨⟨hs.2.2.1, hs.1, hs.2.1, fun r h => ?_⟩, fun _ => ⟨by rw [hs.2.2.2.2]; decide, .inl hs.2.2.2.1⟩⟩
      rw [(hc 255).1] at h; cases h
    · simp [e, chanInUse]
  · obtain rfl := (hc c).2.2 h
    rw [hs.1, hs.2.1]; exact .inl (hk 47 7)
  · rw [(hc c).1] at h; cases h
  · rw [(hc c).2.1] at h; cases h
  · exact ⟨fun h => absurd (by decide +kernel) h, by decide +kernel, fun n => ⟨by
      rw [show talking.oru.queue = [] by decide +kernel]; exact List.not_mem_nil, fun h => by
      rw [show talking.accessKind = none by decide +kernel] at h; cases h⟩⟩

/-! ### Witnesses: orders and exchange memory -/

/-- The intake scans at slot `i`, whose owner byte is being read. -/
def scanning (i : SlotNo) : State :=
  accessed ((at' 100).updOru fun o => { o with intake := .scanning i }) (.ownerByte i)

/-- An order of a slot in flight, in a phase. -/
def inFlight (s : State) (i : SlotNo) (k : Byte) (p : OrderPhase) : State :=
  s.updOru fun o => { o with inFlight := [⟨i, k, 0, none, p⟩] }

theorem witness_nothingDue : (at' 0xFFFFFFFF).serves = true ∧ (at' 0xFFFFFFFF).nothingDue := by
  have hh : ∀ b : BaseNo, (at' 0xFFFFFFFF).links[b].head = none := by decide +kernel
  have hc : ∀ c : CallNo, (at' 0xFFFFFFFF).calls[c].settle = none ∧ (at' 0xFFFFFFFF).calls[c].hold = none ∧
      (at' 0xFFFFFFFF).calls[c].handover = none := by decide +kernel
  have hd : ∀ b : BaseNo, (at' 0xFFFFFFFF).drains[b] = none := by decide +kernel
  refine ⟨by decide +kernel, fun b => ⟨?_, ?_, fun f n g h => ?_, fun n f h => ?_⟩, by decide +kernel, by decide +kernel,
    fun c => ⟨?_, ?_, fun r h => ?_⟩, by decide +kernel, fun b d h => ?_, by decide +kernel⟩
  · revert b; decide +kernel
  · revert b; decide +kernel
  · rw [hh b] at h; cases h
  · rw [hh b] at h; cases h
  · rw [(hc c).1]; exact fun h => by cases h
  · rw [(hc c).2.1]; exact fun h => by cases h
  · rw [(hc c).2.2] at h; cases h
  · rw [hd b] at h; cases h

theorem witness_MarksAndTheIntake :
    (at' 0xFFFFFFFF).serves = true ∧
      (let s := (at' 100).updOru fun o => { o with intakeDue := true }
       s.serves = true ∧ s.oru.intakeDue = true ∧ s.oru.intake = .idle) ∧
      (let s := accessed (at' 100) .postedCount
       s.accessing .postedCount ∧ s.oru.intake = .idle ∧ (0 : BitVec 32) = s.oru.lastSeen ∧ (1 : BitVec 32) ≠ s.oru.lastSeen) ∧
      (let s := scanning 31
       s.accessing (.ownerByte 31) ∧ s.oru.intake = .scanning 31 ∧ s.inFlightAt 31 = none) ∧
      (scanning 0).accessing (.ownerByte 0) ∧ (1 : SlotNo).val = (0 : SlotNo).val + 1 ∧
      (inFlight (scanning 31) 31 2 .carryingOut).inFlightAt 31 ≠ none := by
  simp only [State.accessing]; decide +kernel

/-- A slot POSTED with a kind and its first parameter bytes. -/
def slotWord (kind params : Nat) : BitVec 512 := BitVec.ofNat 512 (1 + kind * 2 ^ 8 + params * 2 ^ 64)

/-- The error of a refused form check. -/
def errorOf : Except FormCode Order → Option FormCode
  | .ok _ => none
  | .error e => some e

theorem ok_of_toOption {r : Except FormCode Order} {o : Order} (h : r.toOption = some o) : r = .ok o := by
  cases r <;> simp_all [Except.toOption]

theorem error_of_errorOf {r : Except FormCode Order} {e : FormCode} (h : errorOf r = some e) : r = .error e := by
  cases r <;> simp_all [errorOf]

/-- The parameter bytes that a kind does not occupy are 0. -/
def clean (kind : Byte) (p : BitVec 192) : Prop := ∀ i, i < 24 → i ∉ occupiedBytes kind.toNat → byteNat p i = 0

/-- Each kind of order with its numbers at the ends of their ranges. -/
theorem witness_kinds :
    (clean 1 511 ∧ clean 2 511 ∧ byteNat (511 : BitVec 192) 0 + 256 * byteNat (511 : BitVec 192) 1 = (511 : HandsetNo).val) ∧
      (clean 3 31 ∧ byteNat (31 : BitVec 192) 0 = (31 : SlotNo).val) ∧
      (clean 4 255 ∧ byteNat (255 : BitVec 192) 0 + 256 * byteNat (255 : BitVec 192) 1 = (255 : CallNo).val) ∧
      (clean 5 0x2F00FF ∧ byteNat (0x2F00FF : BitVec 192) 2 = (47 : BaseNo).val) ∧
      (clean 6 0xFFFF002F ∧ byteNat (0xFFFF002F : BitVec 192) 0 = (47 : BaseNo).val ∧
        byteNat (0xFFFF002F : BitVec 192) 2 + 256 * byteNat (0xFFFF002F : BitVec 192) 3 = (0xFFFF : BitVec 16).toNat) ∧
      (clean 7 47 ∧ clean 8 47) ∧
      (clean 9 0x72F ∧ clean 10 0x72F ∧ byteNat (0x72F : BitVec 192) 0 = (47 : BaseNo).val ∧
        byteNat (0x72F : BitVec 192) 1 = (7 : ChanNo).val) ∧
      (clean 11 0xF00 ∧ byteNat (0xF00 : BitVec 192) 0 = 0 ∧ byteNat (0xF00 : BitVec 192) 1 = (15 : ZoneNo).val) ∧
      (clean 11 0x2F01 ∧ byteNat (0x2F01 : BitVec 192) 0 = 1 ∧ byteNat (0x2F01 : BitVec 192) 1 = (47 : BaseNo).val) ∧
      (clean 12 1 ∧ byteNat (1 : BitVec 192) 0 = true.toNat) := by
  unfold clean
  refine ⟨?_, ?_, ?_, ?_, ?_, ?_, ?_, ?_, ?_, ?_⟩ <;> decide +kernel

theorem witness_FormChecksAndTheSlotRead :
    (let s := accessed ((at' 100).updOru fun o => { o with intake := .scanning 31 }) (.slotRead 31)
     s.serves = true ∧ s.accessing (.slotRead 31)) ∧
      formCheck (slotKind (slotWord 2 511)) (slotParams (slotWord 2 511)) = .ok (.page 511) ∧
      formCheck (slotKind (slotWord 2 512)) (slotParams (slotWord 2 512)) = .error .badNumber :=
  ⟨by simp only [State.accessing]; decide +kernel, ok_of_toOption (by decide +kernel),
    error_of_errorOf (by decide +kernel)⟩

theorem witness_SlotWritesReachTheSlotOnly :
    (accessed (at' 100) (.takenWrite 31)).port.access = some ⟨.takenWrite 31, 0x0800 + 64 * (31 : SlotNo).val, 1, some [2]⟩ ∧
      (accessed (at' 100) (.resultWrite 31 ⟨.done .ok, 9, []⟩)).port.access =
        some ⟨.resultWrite 31 ⟨.done .ok, 9, []⟩, 0x0800 + 64 * (31 : SlotNo).val + 32, 20, some (resultBytes ⟨.done .ok, 9, []⟩)⟩ ∧
      (accessed (at' 100) (.answeredWrite 31)).port.access =
        some ⟨.answeredWrite 31, 0x0800 + 64 * (31 : SlotNo).val, 1, some [3]⟩ := by
  decide +kernel

/-- CANCEL of slot 6 stands dispatched from slot 31, over an order in flight in slot 6. -/
def cancelling (s : State) (k : Byte) (p : OrderPhase) : State := dispatch (inFlight s 6 k p) 31 (.cancel 6)

theorem witness_CancelOrder :
    (dispatch (at' 100) 31 (.cancel 6)).offers 31 (.cancel 6) ∧
      (let s := cancelling (paging zones37 [4] 0) kindPage .carryingOut
       ∃ e p, s.offers 31 (.cancel 6) ∧ s.inFlightAt 6 = some e ∧ e.phase = .carryingOut ∧ e.kind = kindPage ∧
         s.pageBySlot 6 = some p) ∧
      (let s := cancelling (moving talking 255 46 0 .awaitMark (some 6)) kindForceMove .carryingOut
       ∃ e r, s.offers 31 (.cancel 6) ∧ s.inFlightAt 6 = some e ∧ e.phase = .carryingOut ∧ e.kind = kindForceMove ∧
         s.moveBySlot 6 = some 255 ∧ s.calls[(255 : CallNo)].handover = some r ∧ r.state ≠ .switching) ∧
      (let s := cancelling (moving talking 255 46 0 .switching (some 6)) kindForceMove .carryingOut
       ∃ r, s.moveBySlot 6 = some 255 ∧ s.calls[(255 : CallNo)].handover = some r ∧ r.state = .switching) ∧
      (let s := cancelling ((link talking 47 .draining).setDrain 47 (some ⟨6, none, .active, 0, 0, 0, 0⟩)) kindDrainBase
         .carryingOut
       ∃ e d, s.offers 31 (.cancel 6) ∧ s.inFlightAt 6 = some e ∧ e.phase = .carryingOut ∧ e.kind = kindDrainBase ∧
         s.drainBySlot 6 = some 47 ∧ s.drains[(47 : BaseNo)] = some d) ∧
      ∃ e, (cancelling (at' 100) kindPage .answering).inFlightAt 6 = some e ∧ e.phase = .answering := by
  simp only [State.offers]
  refine ⟨by decide +kernel, ⟨_, _, by decide +kernel, rfl, rfl, rfl, rfl⟩,
    ⟨_, _, by decide +kernel, rfl, rfl, rfl, by decide +kernel, rfl, by decide⟩, ⟨_, by decide +kernel, rfl, rfl⟩,
    ⟨_, _, by decide +kernel, rfl, rfl, rfl, by decide +kernel, rfl⟩, ⟨_, rfl, rfl⟩⟩

/-- A base record: enabled, zone 15, count 8, offset −16, guard 7. -/
def baseRecord : BitVec 256 := BitVec.ofNat 256 (1 + 15 * 2 ^ 8 + 8 * 2 ^ 16 + 0xF0 * 2 ^ 24 + 7 * 2 ^ 32)

theorem witness_AmendPlanAppliesItsRecord :
    (dispatch busy 31 (.amendPlan (.base 47))).offers 31 (.amendPlan (.base 47)) ∧
      (let s := accessed busy (.planRead 31 (.zone 15))
       s.serves = true ∧ s.accessing (.planRead 31 (.zone 15))) ∧
      (let s := accessed busy (.planRead 31 (.base 47))
       s.accessing (.planRead 31 (.base 47)) ∧ linkActive (s.service 47) = true ∧
         (baseOf baseRecord).zone ≠ s.links[(47 : BaseNo)].zone) ∧
      (let s := accessed busy (.planRead 31 (.base 0))
       s.accessing (.planRead 31 (.base 0)) ∧ linkActive (s.service 0) = false) ∧
      (let s := accessed (link (at' 100) 47 .serving 15) (.planRead 31 (.base 47))
       s.accessing (.planRead 31 (.base 47)) ∧ (baseOf baseRecord).zone = s.links[(47 : BaseNo)].zone ∧
         (baseOf baseRecord).count = s.links[(47 : BaseNo)].planCount) ∧
      0 < zoneClamps 0 ∧ 0 < baseClamps 0 ∧ baseClamps baseRecord = 0 := by
  simp only [State.offers, State.accessing]; decide +kernel

/-! ### Witnesses: attention, counters, start-up, halt, registers -/

/-- The ACU at work on a job, with an access in progress. -/
def working (j : AcuJob) (k : AccessKind) : State := accessed ((at' 100).updAcu fun a => { a with job := some j }) k

theorem witness_marksAndPendingBits :
    ((at' 100).acu.handsetMarks[(511 : HandsetNo)] = none ∧ (at' 100).acu.callMarks[(255 : CallNo)] = none ∧
        ((at' 100).markHandset 511 attnReg).acu.handsetMarks[(511 : HandsetNo)] = some attnReg ∧
        ((at' 100).markCall 255 0).acu.callMarks[(255 : CallNo)] = some 0) ∧
      (let s := ((at' 100).pendDevice 1).pendBase 0 1
       s.regs.halting = false ∧ s.acu.devicePending ≠ 0 ∧ s.acu.job = none ∧ s.regs.part = .running ∧
         s.pendingByte = some .device) ∧
      (let s := ((at' 100).pendBase 47 2).pendSlot 0 1
       s.acu.devicePending = 0 ∧ s.acu.basePending[(47 : BaseNo)] ≠ 0 ∧ (∀ x < (47 : BaseNo), s.acu.basePending[x] = 0) ∧
         s.pendingByte = some (.base 47)) ∧
      (let s := (at' 100).pendSlot 31 1
       (∀ b : BaseNo, s.acu.basePending[b] = 0) ∧ s.acu.slotPending[(31 : SlotNo)] ≠ 0 ∧
         (∀ x < (31 : SlotNo), s.acu.slotPending[x] = 0) ∧ s.pendingByte = some (.slot 31)) ∧
      (∀ i : SlotNo, (at' 100).acu.slotPending[i] = 0) ∧
      (let s := (((at' 100).updRegs fun r => { r with halting := true, haltSlots := [31] }).pendSlot 31 1).pendSlot 0 1
       s.regs.halting = true ∧ 31 ∈ s.regs.haltSlots ∧ s.acu.slotPending[(31 : SlotNo)] ≠ 0 ∧
         (∀ x ∈ s.regs.haltSlots, x < 31 → s.acu.slotPending[x] = 0)) ∧
      (let s := ((at' 100).updRegs fun r => { r with halting := true, haltSlots := [31] }).pendSlot 0 1
       ∀ i ∈ s.regs.haltSlots, s.acu.slotPending[i] = 0) := by
  refine ⟨by decide +kernel, by decide +kernel, by decide +kernel, by decide +kernel, by decide +kernel, by decide +kernel,
    by decide +kernel⟩

theorem witness_WriteBackSetsItsBits :
    (let s := (at' 100).markHandset 511 attnReg
     s.acu.job = none ∧ s.serves = true ∧ s.pendingByte = none ∧ s.acu.snapshots = [] ∧ s.acu.queue = .handset 511 :: []) ∧
      (let s := working (.record (.call 255) 1 true) (.recordWrite (.call 255))
       s.accessing (.recordWrite (.call 255)) ∧ s.acu.job = some (.record (.call 255) 1 true) ∧ (1 : Byte) ≠ 0) ∧
      (let s := working (.setBits .device 1 .readByte none) (.attnRead .device)
       s.accessing (.attnRead .device) ∧ s.acu.job = some (.setBits .device 1 .readByte none)) ∧
      (let s := working (.setBits .device 1 (.writeByte 1) none) (.attnWrite .device 1)
       s.accessing (.attnWrite .device 1) ∧ s.acu.job = some (.setBits .device 1 (.writeByte 1) none)) ∧
      (let s := working (.setBits (.slot 31) 1 (.writeByte 1) none) (.attnWrite (.slot 31) 1)
       s.accessing (.attnWrite (.slot 31) 1) ∧ AttnByte.slot 31 ≠ .device) ∧
      (let s := working (.setBits (.slot 31) 1 .readSummary none) (.sumRead (.slot 31))
       s.accessing (.sumRead (.slot 31)) ∧ s.acu.job = some (.setBits (.slot 31) 1 .readSummary none)) ∧
      (let s := working (.setBits (.slot 31) 1 (.writeSummary 1) none) (.sumWrite (.slot 31) 1)
       s.accessing (.sumWrite (.slot 31) 1) ∧ s.acu.job = some (.setBits (.slot 31) 1 (.writeSummary 1) none)) ∧
      (let s := (at' 100).updCall 255 fun e => { e with state := .ended }
       s.calls[(255 : CallNo)].state = .ended ∧ s.acu.callMarks[(255 : CallNo)] = none) := by
  simp only [State.accessing]; decide +kernel

theorem witness_SnapshotMakesItsWrites :
    (dispatch (at' 100) 31 (.snapshot true)).offers 31 (.snapshot true) ∧
      (let s := (at' 100).updAcu fun a => { a with snapshots := [⟨31, true, 48⟩] }
       s.acu.job = none ∧ s.serves = true ∧ s.pendingByte = none ∧ s.acu.snapshots = ⟨31, true, 48⟩ :: [] ∧
         (accessed s (.counterWrite 48)).accessing (.counterWrite 48) ∧ 49 ≤ (⟨31, true, 48⟩ : Snapshot).next + 1) ∧
      (⟨31, true, 47⟩ : Snapshot).next + 1 < 49 := by
  simp only [State.offers, State.accessing]; decide +kernel

/-- The part STARTING with an access of the start-up sequence in progress. -/
def starting (k : AccessKind) : State :=
  accessed { State.reset with regs := { Regs.start with run := true, part := .starting } } k

theorem witness_StartupReadsThePlanAndEndsRunning :
    (starting .startHeader).accessing .startHeader ∧ (2 : BitVec 16) ≠ 1 ∧ (starting .startParams).accessing .startParams ∧
      (starting (.startZone 15)).accessing (.startZone 15) ∧ (starting (.startBase 47)).accessing (.startBase 47) ∧
      (starting (.startBase 46)).accessing (.startBase 46) ∧ (46 : BaseNo).val + 1 < 48 ∧
      (starting (.zeroWrite 27)).accessing (.zeroWrite 27) ∧ Config.zeroWrites ≤ 27 + 1 ∧ 26 + 1 < Config.zeroWrites ∧
      (starting (.scanOwner 31)).accessing (.scanOwner 31) ∧ (starting .postedCount).regs.part = .starting ∧
      (starting .postedCount).accessing .postedCount ∧ (starting .startCountRead).accessing .startCountRead ∧
      (starting (.startCountWrite 0xFFFFFFFF)).accessing (.startCountWrite 0xFFFFFFFF) := by
  simp only [State.accessing]; decide +kernel

theorem witness_FaultsAndResetsClearTheTables :
    (Instr.busError = .busError ∨ Instr.busError = .accessTimeout) ∧ (starting .startHeader).port.access.isSome = true ∧
      memWf (starting .startHeader).mem = true := by
  decide +kernel

theorem witness_RunStartsAndHaltsThePart :
    (State.reset.regs.halting = false ∧ State.reset.regs.run = false ∧ State.reset.regs.part = .halted) ∧
      (let r := { Regs.start with part := .faulted }
       r.halting = false ∧ r.run = false ∧ r.part = .faulted) ∧
      (busy.regs.halting = false ∧ busy.regs.run = true ∧ busy.regs.part = .running) ∧
      ((starting .startHeader).regs.halting = false ∧ (starting .startHeader).regs.part = .starting) ∧
      (let s := inFlight (paging zones37 [4] 0) 6 kindPage .carryingOut
       ∃ e p, e ∈ s.oru.inFlight ∧ e.kind = kindPage ∧ s.pageBySlot e.slot = some p) ∧
      (let s := inFlight (moving talking 255 46 0 .awaitMark (some 6)) 6 kindForceMove .carryingOut
       ∃ e r, e ∈ s.oru.inFlight ∧ e.kind = kindForceMove ∧ s.moveBySlot e.slot = some 255 ∧
         s.calls[(255 : CallNo)].handover = some r) ∧
      (let s := inFlight ((link talking 47 .draining).setDrain 47 (some ⟨6, none, .active, 0, 0, 0, 0⟩)) 6 kindDrainBase
         .carryingOut
       ∃ e d, e ∈ s.oru.inFlight ∧ e.kind = kindDrainBase ∧ s.drainBySlot e.slot = some 47 ∧
         s.drains[(47 : BaseNo)] = some d) ∧
      ((12 : Byte) ≠ kindPage ∧ (12 : Byte) ≠ kindForceMove ∧ (12 : Byte) ≠ kindDrainBase) :=
  ⟨by decide +kernel, by decide, by decide +kernel, by decide +kernel,
    ⟨_, _, List.mem_singleton.2 rfl, rfl, rfl⟩,
    ⟨_, _, List.mem_singleton.2 rfl, rfl, by decide +kernel, rfl⟩,
    ⟨_, _, List.mem_singleton.2 rfl, rfl, by decide +kernel, rfl⟩, by decide⟩

/-- A halt with nothing left to answer. -/
def halting (run : Bool) : State :=
  { State.reset with regs := { Regs.start with run := run, part := .running, halting := true, haltSlots := [31] } }

theorem witness_HaltEndsHalted :
    (halting false).regs.part = .running ∧ (halting false).regs.halting = true ∧
      (halting false).arbitrate.port.access = none ∧ (halting false).regs.run = false ∧ (halting true).regs.run = true := by
  decide +kernel

theorem witness_RegisterWindow :
    State.reset.regs.part = .halted ∧ ({ Regs.start with part := .faulted }).part = .faulted ∧
      busy.regs.part = .running ∧ (starting .startHeader).regs.part = .starting := by
  decide +kernel

/-- A port with a holder at its second access, the Order Unit with an access to make, the ACU with one or none. -/
def held (r : Requestor) (acu : Bool) : State :=
  let s := ((at' 100).updOru fun o => { o with queue := [.ownerByte 0] }).setPort ⟨some r, 1, some r, none⟩
  if acu then s.pendDevice 1 else s

/-- The next access of each requestor: a queue with a head, each stage of setting bits, a zero write, and nothing. -/
theorem witness_nextAccess :
    (held .oru false).oru.queue = .ownerByte 0 :: [] ∧ (at' 100).oru.queue = [] ∧
      (working (.setBits .device 1 .readByte none) .subCount).acu.job = some (.setBits .device 1 .readByte none) ∧
      (working (.setBits .device 1 (.writeByte 3) none) .subCount).acu.job = some (.setBits .device 1 (.writeByte 3) none) ∧
      (working (.setBits (.slot 31) 1 .readSummary none) .subCount).acu.job = some (.setBits (.slot 31) 1 .readSummary none) ∧
      (working (.setBits (.slot 31) 1 (.writeSummary 1) none) .subCount).acu.job =
        some (.setBits (.slot 31) 1 (.writeSummary 1) none) ∧
      (working (.zero 27) .subCount).acu.job = some (.zero 27) ∧
      ((at' 100).acu.job = none ∧ (at' 100).pendingByte = none ∧ (at' 100).acu.snapshots = [] ∧ (at' 100).acu.queue = []) ∧
      State.reset.acu.job = none ∧ State.reset.regs.part ≠ .running := by
  decide +kernel

theorem witness_ArbiterLeavesTheTables :
    busy.regs.halting = false ∧ (starting .startHeader).port.access.isSome = true ∧ State.reset.regs.part = .halted ∧
      ((held .oru false).regs.part = .running ∧ (held .oru false).port.access = none ∧
        (held .oru false).port.holder = some .oru ∧ (held .oru false).wants .oru = true ∧
        (held .oru false).wants .rsu = false ∧ (held .oru false).wants .acu = false) ∧
      ((held .oru true).wants .acu = true ∧ (held .oru true).plan.header.burst ≤ (held .oru true).port.count ∧
        rotationAfter (held .oru true).port.last = [] ++ .acu :: [.rsu, .oru]) ∧
      ((held .rsu false).wants .rsu = false ∧ rotationAfter (held .rsu false).port.last = [] ++ .oru :: [.acu, .rsu]) ∧
      ((at' 100).port.holder = none ∧ ∀ q, (at' 100).wants q = false) ∧
      (let s := (held .oru true).updPlan fun p => { p with header := { p.header with burst := 2 } }
       s.port.count < s.plan.header.burst) := by
  refine ⟨by decide +kernel, by decide +kernel, by decide +kernel, by decide +kernel, by decide +kernel,
    by decide +kernel, ⟨by decide +kernel, fun q => by cases q <;> decide +kernel⟩, by decide +kernel⟩

/-! ### Witnesses: the cases of the searches and operations that several statements name -/

/-- O11, O18, O22, O23: an identity, a page, a FREE call number found and not found. -/
theorem witness_searches :
    known.registeredWith known.roster[(511 : HandsetNo)].identity = some 511 ∧ busy.registeredWith 7 = none ∧
      (∃ p, (paging zones37 [4] 0).pageOf 75 = some p) ∧ busy.pageOf 511 = none ∧ busy.freeCall = some 0 ∧
      ({ busy with calls := .replicate 256 { Call.free with state := .ended } }).freeCall = none := by
  refine ⟨by decide +kernel, by decide +kernel, ⟨_, rfl⟩, by decide +kernel, by decide +kernel, by decide +kernel⟩

/-- O38, O39, O42, O45: no drain and no call at a base; the intake IDLE, at the last slot and before it; the move and
the drain that carry a slot, and none. -/
theorem witness_slots :
    (busy.drains[(47 : BaseNo)] = none ∧ busy.servedBy 47 = [] ∧ talking.servedBy 47 = [255]) ∧
      (busy.oru.intake = .idle ∧ (scanning 31).oru.intake = .scanning 31 ∧ (scanning 30).oru.intake = .scanning 30 ∧
        (31 : SlotNo).val = (30 : SlotNo).val + 1) ∧
      ((moving talking 255 46 0 .awaitMark (some 6)).moveBySlot 6 = some 255 ∧ talking.moveBySlot 6 = none) ∧
      ((talking.setDrain 47 (some ⟨31, none, .active, 0, 0, 0, 0⟩)).drainBySlot 31 = some 47 ∧
        talking.drainBySlot 31 = none) := by
  decide +kernel

/-- O54: an access that writes and one that reads. -/
theorem witness_accesses :
    (∃ x, (accessed (at' 100) (.takenWrite 31)).port.access = some x ∧ x.bytes = some [2]) ∧
      ∃ x, (accessed (at' 100) (.slotRead 31)).port.access = some x ∧ x.bytes = none ∧ x.length = 64 :=
  ⟨⟨_, rfl, rfl⟩, _, rfl, rfl, rfl⟩

/-! ### Witnesses: the laws that every command keeps -/

theorem witness_marksOk_ordersOk :
    (((at' 100).markHandset 511 attnReg).markCall 255 0).marksOk ∧ (scanning 31).ordersOk ∧
      (dispatch (inFlight ((at' 100).updOru fun o => { o with intake := .scanning 6 }) 6 2 .carryingOut) 6 (.page 511)).ordersOk ∧
      (inFlight (halting false) 31 2 .answering).ordersOk := by
  refine ⟨?_, ?_, ?_, ?_⟩
  · unfold State.marksOk; decide +kernel
  all_goals unfold State.ordersOk; decide +kernel

theorem witness_CommandsKeepMemoryAndCounters :
    State.reset.memoryOk ∧ State.reset.countersOk ∧ State.reset.tablesOk ∧
      (busy.setAttaches [pends 7, pends 8] (some .count)).attachesOk ∧ ∃ t, exec .restart State.reset = .next t := by
  refine ⟨rfl, ?_, ?_, ?_, _, rfl⟩
  · unfold State.countersOk
    exact ⟨fun b k => by cases k <;> revert b <;> decide +kernel, fun k => by cases k <;> decide +kernel⟩
  · unfold State.tablesOk; decide +kernel
  · unfold State.attachesOk; decide +kernel

theorem witness_CommandsKeepLinksInOrder :
    State.reset.linksOk ∧ (emptying busy).startOk ∧ (emptying busy).drainsOk ∧
      ∃ t, exec .restart State.reset = .next t := by
  refine ⟨?_, ⟨fun h => absurd (by decide +kernel) h, by decide +kernel, fun n => ⟨by
    rw [show (emptying busy).oru.queue = [] from by decide +kernel]; exact List.not_mem_nil, fun h => by
    rw [show (emptying busy).accessKind = none from by decide +kernel] at h; cases h⟩⟩, ⟨by decide +kernel, ?_, fun h =>
      absurd (by decide +kernel) h⟩, _, rfl⟩
  · unfold State.linksOk Link.ok; decide +kernel
  · intro b d h
    have hd : ∀ x : BaseNo, ((emptying busy).drains[x].map (·.phase)).getD .active = .active := by decide +kernel
    have := hd b
    rw [h] at this; exact this

theorem witness_CommandsKeepCallsBound :
    talking.callsOk ∧ callLive talking.calls[(255 : CallNo)].state = true ∧ ∃ t, exec .restart talking = .next t := by
  refine ⟨?_, by decide +kernel, _, rfl⟩
  unfold State.callsOk; decide +kernel

theorem witness_CommandsKeepTheSwitchBatch :
    State.reset.batchOk ∧ ∃ t, exec .restart State.reset = .next t := by
  refine ⟨⟨by decide +kernel, by decide +kernel, by decide +kernel, ?_⟩, _, rfl⟩
  intro e he; cases he

theorem witness_CommandsKeepLevelsInRange :
    State.reset.levelsOk ∧ talking.channelsOk ∧ talking.neighboursOk ∧ ∃ t, exec .restart State.reset = .next t := by
  refine ⟨fun c => ?_, witness_WithdrawalClearsTheBase.2.1, fun c => ?_, _, rfl⟩
  rotate_left
  · have h : ∀ d : CallNo, talking.calls[d].filter = none ∧ talking.calls[d].neighbours = [] ∧
        talking.calls[d].handover = none := by decide +kernel
    unfold Call.neighboursOk
    rw [(h c).1, (h c).2.1, (h c).2.2]
    exact ⟨fun _ => ⟨rfl, rfl⟩, .nil, fun n hn => (by cases hn), .nil, fun r hr => (by cases hr)⟩
  have h : ∀ d : CallNo, State.reset.calls[d].filter = none ∧ State.reset.calls[d].neighbours = [] := by decide +kernel
  unfold Call.levelsOk
  rw [(h c).1, (h c).2]
  exact ⟨fun f hf => (by cases hf), by decide, fun n hn => (by cases hn)⟩

/-! ### Worked examples of the later chapters -/

/-- 3.7, "order taken, 8000": zones 4, 9, 3, base 9 paged, base 10 skipped, the next round at 8040. -/
theorem test_page_first_round :
    (let s := dispatch (zones37.updPlan fun p => { p with header := { p.header with homeRounds := 2, pageSpacing := 40 } }) 6
       (.page 75)
     (after (.page 6 75) s).pages = [⟨75, 6, [4, 9, 3], 1, 8040, 1, 1, 1⟩]) := by
  decide +kernel

/-- 3.7, "Answer, frame 8131": located at base 2 in zone 3, and the result of slot 6. -/
theorem test_page_answered :
    (let s := { zones37 with pages := [⟨75, 6, [3], 0, 8160, 4, 5, 1⟩] }
     let t := after (.pageAnswer 2 75) s
     t.roster[(75 : HandsetNo)].lastBase = 2 ∧ t.roster[(75 : HandsetNo)].lastZone = 3 ∧ t.pages = [] ∧
       t.port.access.map (·.bytes) = some (some ([0, 1, 2, 0, 4, 3, 5, 0, 1, 0] ++ List.replicate 10 0))) := by
  decide +kernel

/-- Base 6 of 4.8 after BLOCK CHANNEL: 4 channels in zone 2, guard count 1, channel 2 BLOCKED. -/
def guarded : State :=
  let s := (link (at' 100) 6 .serving 2).updLink 6 fun l => { l with effCount := 4 }
  handset (handset ((s.updPlan fun p => { p with guards := p.guards.set 6 1 }).setChan 6 2 .blocked) 42 6) 43 6 none .priority

/-- 4.8: with one FREE channel STANDARD handset 42 is refused CONGESTED and PRIORITY handset 43 granted. -/
theorem test_guard_channel :
    (let s := (guarded.setChan 6 0 (.held 3)).setChan 6 1 (.held 4)
     let t := after (.callRequest 6 42 false) s
     let u := after (.callRequest 6 43 false) s
     t.links[(6 : BaseNo)].queue = [.callRefused 42 .congested] ∧ t.chans = s.chans ∧
       u.chan 6 3 = .held 0 ∧ u.links[(6 : BaseNo)].queue = [.channelGrant 43 3 0]) := by
  decide +kernel

/-- 5.5, report A: pairs taken in order, base 15 replaced by 21, the serving base ignored, base 3 aged out. -/
theorem test_report_a :
    (let s := [(3 : BaseNo), 6, 7, 8, 9, 12, 15, 21].foldl (fun u b => link u b .serving 1) (at' 100)
     let p := s.takePairs 7 2
       [⟨8, 800, 0, 1⟩, ⟨6, 768, 0, 0⟩, ⟨12, 720, 1, 0⟩, ⟨3, 640, 2, 0⟩, ⟨9, 600, 0, 0⟩, ⟨15, 560, 0, 0⟩]
       [(8, 52), (15, 30), (21, 40), (7, 60)]
     p.ignored = 1 ∧ rankNeighbours (ageNeighbours 3 p.named p.set) =
       [⟨8, 808, 0, 1⟩, ⟨6, 768, 1, 0⟩, ⟨12, 720, 2, 0⟩, ⟨21, 640, 0, 0⟩, ⟨9, 600, 1, 0⟩]) := by
  decide +kernel

/-- Call 31 of 6.8 before its third report, base 12 with channels 0 to 2 in use, tag counter 41. -/
def edge (n : FrameCount) : State :=
  let s := (link (link (at' n) 7 .serving 6) 12 .serving 6).updPlan fun p =>
    { p with offsets := (p.offsets.set 7 2).set 12 (-1), zones := p.zones.set 6 { zone68 with
        switchMode := .marked, spacingCode := 2, reserveLimit := 6, arrivalLimit := 10 } }
  let t := (((call s 31 50 7 1).setChan 12 0 (.held 100)).setChan 12 1 (.held 101)).setChan 12 2 (.reserved 52 17)
  t.updCall 31 fun e => { e with
    filter := some 625, watch := .suspect, watchCount := 1, tagCounter := 41, neighbours := [⟨12, 739, 0, 1⟩] }

/-- 6.8, report 3: WEAK by the count, lead 2 by the weak margin, and the record of 7.12 with tag 42. -/
theorem test_report_triggers :
    (let t := after (.levelReport 7 1 34 0 [(12, 50)]) (edge 9001)
     let e := t.calls[(31 : CallNo)]
     e.filter = some 613 ∧ e.neighbours = [⟨12, 750, 0, 2⟩] ∧ e.watch = .weak ∧ e.watchCount = 2 ∧ e.state = .moving ∧
       (e.handover.map fun r => (r.target, r.channel, r.tag, r.state, r.reserveTimer)) =
         some (12, some 3, 42, .reserving, some 9007) ∧ t.chan 12 3 = .reserved 31 42) := by
  decide +kernel

/-- 7.12, "READY at 9003": the move joins the batch, due at 9004. -/
theorem test_ready_joins_the_batch :
    (let s := (moving (edge 9003) 31 12 3 .reserving).updCall 31 fun e => { e with base := 7, channel := 1 }
     let t := after (.reserveAnswer 12 3 31 17 .ready 0) s
     t.batch = [⟨31, 9004⟩] ∧ dueFrame 9004 4 = 9008 ∧ dueFrame 9003 4 = 9004) := by
  decide +kernel

/-- 7.12, "mark 9004": one SWITCH LIST to base 7, its channel LEAVING, the arrival timer at 9014. -/
theorem test_switch_list_delivered :
    (let s := (moving (edge 9004) 31 12 3 .awaitMark).setBatch [⟨31, 9004⟩]
     let t := after .switchBatchDelivery s
     t.wire = [⟨7, .switchList [⟨1, 12, 3, 17⟩]⟩] ∧ t.chan 7 1 = .leaving 31 ∧ t.batch = [] ∧
       ((t.calls[(31 : CallNo)].handover.map fun r => (r.state, r.arrivalTimer)) = some (.switching, some 9014))) := by
  decide +kernel

/-- 7.12, "ARRIVED for call 31 at 9006". -/
theorem test_arrived_completes :
    (let s := (moving (edge 9006) 31 12 3 .switching).updCall 31 fun e => { e with
       filter := some 613, neighbours := [⟨12, 750, 0, 2⟩] }
     let t := after (.arrived 12 3 31 17) s
     let e := t.calls[(31 : CallNo)]
     t.chan 7 1 = .free ∧ t.chan 12 3 = .held 31 ∧ e.base = 12 ∧ e.channel = 3 ∧ e.handoverCount = 1 ∧
       e.filter = some 750 ∧ e.neighbours = [⟨7, 613, 0, 0⟩] ∧ e.settle = some 9056 ∧ e.state = .connected ∧
       t.roster[(50 : HandsetNo)].lastBase = 12) := by
  decide +kernel

/-- 8.6, "order taken": base 14 DRAINING, limit timer 40300, call 60 offered a move to base 15. -/
theorem test_drain_starts :
    (let s := call (link (link (at' 40000) 14 .serving 5) 15 .serving 6) 60 60 14 0
     let t := after (.drainBase 9 14 300) (dispatch (s.updCall 60 fun e => { e with neighbours := [⟨15, 600, 0, 0⟩] }) 9
       (.drainBase 14 300))
     t.service 14 = .draining ∧ t.drains[(14 : BaseNo)] = some ⟨9, some 40300, .active, 0, 0, 0, 1⟩ ∧
       ((t.calls[(60 : CallNo)].handover.map fun r => (r.kind, r.target)) = some (.drain, 15))) := by
  decide +kernel

end Sys2Proof.Tests
end

section
/-! SUPPORT. The outbound queues: an equation for each operation on a head or a queue (Chapter 1). -/

namespace Sys2Proof.Machine

open Sys2Proof

variable {s : State} {b : BaseNo}

/-- The changed link record read back. -/
theorem updLink_self (s : State) (b : BaseNo) (f : Link → Link) : (s.updLink b f).links[b] = f s.links[b] := by
  rw [updLink_get, if_pos rfl]

/-- The retry state of a head that is transmitted now (R14). -/
def State.freshHead (s : State) : Head := ⟨.awaitingAnswer, 0, s.now⟩

theorem transmitHead_of_nil (h : s.links[b].queue = []) : s.transmitHead b = s := by
  simp only [State.transmitHead, h]

theorem transmitHead_of_cons {m : Downlink} {r : List Downlink} (h : s.links[b].queue = m :: r) :
    s.transmitHead b = s.transmit b (stampMessage s.now m) := by
  simp only [State.transmitHead, h]

/-- The transmission of a head changes the record of transmissions alone. -/
theorem transmitHead_cases (s : State) (b : BaseNo) :
    s.transmitHead b = s ∨ ∃ m, s.transmitHead b = s.transmit b m := by
  cases h : s.links[b].queue with
  | nil => exact .inl (transmitHead_of_nil h)
  | cons m r => exact .inr ⟨_, transmitHead_of_cons h⟩

theorem startHead_of_nil (h : s.links[b].queue = []) :
    s.startHead b = s.updLink b fun l => { l with head := none } := by
  unfold State.startHead
  rw [transmitHead_of_nil (by rw [updLink_self]; exact h)]
  exact updLink_congr (by simp only [h, List.isEmpty_nil, if_true])

theorem startHead_of_cons {m : Downlink} {r : List Downlink} (h : s.links[b].queue = m :: r) :
    s.startHead b =
      (s.updLink b fun l => { l with head := some s.freshHead }).transmit b (stampMessage s.now m) := by
  unfold State.startHead
  rw [transmitHead_of_cons (m := m) (r := r) (by rw [updLink_self]; exact h)]
  congr 1
  exact updLink_congr (by rw [h]; rfl)

theorem enqueue_of_nil {m : Downlink} (h : s.links[b].queue = []) :
    s.enqueue b m =
      (s.updLink b fun l => { l with queue := [m], head := some s.freshHead }).transmit b (stampMessage s.now m) := by
  unfold State.enqueue
  rw [if_pos (List.isEmpty_iff.mpr h), startHead_of_cons (m := m) (r := []) (by rw [updLink_self]), updLink_updLink]
  rfl

theorem enqueue_of_ne_nil {m : Downlink} (h : s.links[b].queue ≠ []) :
    s.enqueue b m = s.updLink b fun l => { l with queue := l.queue ++ [m] } := by
  unfold State.enqueue
  rw [if_neg (fun e => h (List.isEmpty_iff.mp e))]

/-- The last message leaves the queue (R14). -/
theorem dropHead_of_singleton {m : Downlink} (h : s.links[b].queue = [m]) :
    s.dropHead b = s.updLink b fun l => { l with queue := [], head := none } := by
  unfold State.dropHead
  rw [startHead_of_nil (by rw [updLink_self, h, List.tail_cons]), updLink_updLink]
  exact updLink_congr (by rw [h, List.tail_cons])

/-- The head leaves the queue, and the next message becomes the head (R14). -/
theorem dropHead_of_cons {m m' : Downlink} {r : List Downlink} (h : s.links[b].queue = m :: m' :: r) :
    s.dropHead b =
      (s.updLink b fun l => { l with queue := m' :: r, head := some s.freshHead }).transmit b
        (stampMessage s.now m') := by
  unfold State.dropHead
  rw [startHead_of_cons (m := m') (r := r) (by rw [updLink_self, h, List.tail_cons]), updLink_updLink]
  exact congrArg (State.transmit · b (stampMessage s.now m')) (updLink_congr (by rw [h]; rfl))

theorem appendTaken_iff : s.appendTaken b = true ↔
    linkActive (s.service b) = true ∧ s.links[b].queue.length < 16 := by
  rw [State.appendTaken, Bool.and_eq_true, decide_eq_true_eq]
  rfl

theorem append_of_taken {m : Downlink} (h : s.appendTaken b = true) : s.append b m = (s.enqueue b m, true) :=
  if_pos h

theorem append_of_refused {m : Downlink} (h : s.appendTaken b = false) :
    s.append b m = (s.bumpBase b .discards, false) := by
  rw [State.append, h, if_neg Bool.false_ne_true]

end Sys2Proof.Machine
end

section
/-! SUPPORT. How each command of a base, a timer, an order or a completed access is taken: an equation per command. -/

namespace Sys2Proof.Machine

open Sys2Proof

variable (s : State)

/-! ### Messages of the bases (R6, R7) -/

theorem exec_hello (b : BaseNo) (a : ReportedBase) (n : Nat) : exec (.hello b a n) s =
    s.whileServing fun t => if 8 < n ∨ a.val ≠ b.val then t.bump .malformed else t.takeHello b n := rfl
theorem exec_ready (b : BaseNo) : exec (.ready b) s = s.messageFrom b fun t => t.takeReadyMessage b := rfl
theorem exec_beacon (b : BaseNo) : exec (.beacon b) s = s.messageFrom b id := rfl
theorem exec_malformedMessage (b : BaseNo) :
    exec (.malformedMessage b) s = s.whileServing fun t => t.bump .malformed := rfl
theorem exec_accept (b : BaseNo) : exec (.accept b) s = s.answerFrom b fun t => t.takeAccept b := rfl
theorem exec_defer (b : BaseNo) : exec (.defer b) s = s.answerFrom b fun t => t.takeDefer b := rfl
theorem exec_attach (b : BaseNo) (i : Identity) : exec (.attach b i) s =
    s.messageFrom b fun t => t.fromServing b fun u => u.takeAttach b i := rfl
theorem exec_refresh (b : BaseNo) (h : HandsetNo) (v : BitVec 16) : exec (.refresh b h v) s =
    s.messageFrom b fun t => t.fromServing b fun u => u.takeRefresh b h v := rfl
theorem exec_detach (b : BaseNo) (h : HandsetNo) : exec (.detach b h) s =
    s.messageFrom b fun t => t.fromServing b fun u => u.takeDetach h := rfl
theorem exec_callRequest (b : BaseNo) (h : HandsetNo) (p : Bool) : exec (.callRequest b h p) s =
    s.messageFrom b fun t => t.fromServing b fun u => u.takeCallRequest b h p := rfl
theorem exec_callEnd (b : BaseNo) (k : ChanNo) :
    exec (.callEnd b k) s = s.messageFrom b fun t => t.takeCallEnd b k := rfl
theorem exec_channelDropped (b : BaseNo) (k : ChanNo) :
    exec (.channelDropped b k) s = s.messageFrom b fun t => t.takeChannelDropped b k := rfl
theorem exec_reserveAnswer (b : BaseNo) (j : ChanNo) (c : CallNo) (g : AttemptTag) (v : ReserveVerdict) (r : Byte) :
    exec (.reserveAnswer b j c g v r) s = s.messageFrom b fun t => t.takeReserveAnswer b j c g v := rfl
theorem exec_arrived (b : BaseNo) (j : ChanNo) (c : CallNo) (g : AttemptTag) :
    exec (.arrived b j c g) s = s.messageFrom b fun t => t.takeArrived b j c g := rfl
theorem exec_pageAnswer (b : BaseNo) (h : HandsetNo) : exec (.pageAnswer b h) s =
    s.messageFrom b fun t => t.fromServing b fun u => u.pageAnswered b h := rfl

variable {s} in
/-- A LEVEL REPORT of 4 pairs at most is a traffic message (R6, R88). -/
theorem exec_levelReport_short {b : BaseNo} {k : ChanNo} {l : LevelCode} {n : Fin 16}
    {p : List (ReportedBase × LevelCode)} (hp : p.length ≤ 4) :
    exec (.levelReport b k l n p) s = s.messageFrom b fun t => t.takeLevelReport b k l n.val p := if_pos hp

variable {s} in
/-- A LEVEL REPORT of more pairs is malformed (R6). -/
theorem exec_levelReport_long {b : BaseNo} {k : ChanNo} {l : LevelCode} {n : Fin 16}
    {p : List (ReportedBase × LevelCode)} (hp : 4 < p.length) :
    exec (.levelReport b k l n p) s = s.whileServing fun t => t.bump .malformed := if_neg (Nat.not_le.mpr hp)

/-! ### The frame mark and the timers (R4, R5) -/

theorem exec_frameMark : exec .frameMark s = s.whileServing fun t => t.dueWork.advanceFrame := rfl
theorem exec_joinTimerExpiry (b : BaseNo) :
    exec (.joinTimerExpiry b) s = s.whileServing fun t => t.takeJoinTimer b := rfl
theorem exec_silenceTimerExpiry (b : BaseNo) :
    exec (.silenceTimerExpiry b) s = s.whileServing fun t => t.takeSilenceTimer b := rfl
theorem exec_headRetransmit (b : BaseNo) :
    exec (.headRetransmit b) s = s.whileServing fun t => t.takeRetransmit b := rfl
theorem exec_headAnswerTimeout (b : BaseNo) :
    exec (.headAnswerTimeout b) s = s.whileServing fun t => t.takeAnswerTimeout b := rfl
theorem exec_lifetimeExpiry (h : HandsetNo) :
    exec (.lifetimeExpiry h) s = s.whileServing fun t => t.takeLifetime h := rfl
theorem exec_roundTimerExpiry (h : HandsetNo) :
    exec (.roundTimerExpiry h) s = s.whileServing fun t => t.takeRoundTimer h := rfl
theorem exec_reserveTimerExpiry (c : CallNo) :
    exec (.reserveTimerExpiry c) s = s.whileServing fun t => t.takeReserveTimer c := rfl
theorem exec_arrivalTimerExpiry (c : CallNo) :
    exec (.arrivalTimerExpiry c) s = s.whileServing fun t => t.takeArrivalTimer c := rfl
theorem exec_settleTimerExpiry (c : CallNo) :
    exec (.settleTimerExpiry c) s = s.whileServing fun t => t.takeSettleTimer c := rfl
theorem exec_holdTimerExpiry (c : CallNo) :
    exec (.holdTimerExpiry c) s = s.whileServing fun t => t.takeHoldTimer c := rfl
theorem exec_switchBatchDelivery : exec .switchBatchDelivery s = s.whileServing fun t => t.deliverBatch := rfl
theorem exec_drainLimitExpiry (b : BaseNo) :
    exec (.drainLimitExpiry b) s = s.whileServing fun t => t.takeDrainLimit b := rfl
theorem exec_orderIntake : exec .orderIntake s = s.whileServing fun t => t.takeIntake := rfl

/-! ### Orders (R153) -/

theorem exec_deregister (i : SlotNo) (h : HandsetNo) :
    exec (.deregister i h) s = s.takeOrder i (.deregister h) fun t => t.takeDeregister i h := rfl
theorem exec_page (i : SlotNo) (h : HandsetNo) :
    exec (.page i h) s = s.takeOrder i (.page h) fun t => t.takePage i h := rfl
theorem exec_cancel (i x : SlotNo) : exec (.cancel i x) s = s.takeOrder i (.cancel x) fun t => t.takeCancel i x := rfl
theorem exec_clearCall (i : SlotNo) (c : CallNo) :
    exec (.clearCall i c) s = s.takeOrder i (.clearCall c) fun t => t.takeClearCall i c := rfl
theorem exec_forceMove (i : SlotNo) (c : CallNo) (b : BaseNo) :
    exec (.forceMove i c b) s = s.takeOrder i (.forceMove c b) fun t => t.takeForceMove i c b := rfl
theorem exec_drainBase (i : SlotNo) (b : BaseNo) (n : BitVec 16) :
    exec (.drainBase i b n) s = s.takeOrder i (.drainBase b n) fun t => t.takeDrainBase i b n.toNat := rfl
theorem exec_stopBase (i : SlotNo) (b : BaseNo) :
    exec (.stopBase i b) s = s.takeOrder i (.stopBase b) fun t => t.takeStopBase i b := rfl
theorem exec_startBase (i : SlotNo) (b : BaseNo) :
    exec (.startBase i b) s = s.takeOrder i (.startBase b) fun t => t.takeStartBase i b := rfl
theorem exec_blockChannel (i : SlotNo) (b : BaseNo) (k : ChanNo) :
    exec (.blockChannel i b k) s = s.takeOrder i (.blockChannel b k) fun t => t.takeBlockChannel i b k := rfl
theorem exec_unblockChannel (i : SlotNo) (b : BaseNo) (k : ChanNo) :
    exec (.unblockChannel i b k) s = s.takeOrder i (.unblockChannel b k) fun t => t.takeUnblockChannel i b k := rfl
theorem exec_amendPlan (i : SlotNo) (r : PlanRecord) :
    exec (.amendPlan i r) s = s.takeOrder i (.amendPlan r) fun t => t.ask [.planRead i r] := rfl
theorem exec_snapshot (i : SlotNo) (v : Bool) : exec (.snapshot i v) s = s.takeOrder i (.snapshot v) fun t =>
    t.updAcu fun a => { a with snapshots := a.snapshots ++ [⟨i, v, 0⟩] } := rfl

/-! ### Completed accesses (R146) -/

theorem exec_postedCountReadDone (n : BitVec 32) :
    exec (.postedCountReadDone n) s = execPostedCountReadDone n s := rfl
theorem exec_ownerByteReadDone (v : Byte) : exec (.ownerByteReadDone v) s = execOwnerByteReadDone v s := rfl
theorem exec_planRecordReadDone (w : BitVec 256) :
    exec (.planRecordReadDone w) s = execPlanRecordReadDone w s := rfl
theorem exec_startupHeaderReadDone (v : BitVec 16) :
    exec (.startupHeaderReadDone v) s = execStartupHeaderReadDone v s := rfl
theorem exec_startupPlanReadDone (w : BitVec 256) :
    exec (.startupPlanReadDone w) s = execStartupPlanReadDone w s := rfl
theorem exec_startupZeroWriteDone : exec .startupZeroWriteDone s = execStartupZeroWriteDone s := rfl
theorem exec_startupSlotScanReadDone (v : Byte) :
    exec (.startupSlotScanReadDone v) s = execStartupSlotScanReadDone v s := rfl
theorem exec_startCountAccessDone (n : BitVec 32) :
    exec (.startCountAccessDone n) s = execStartCountAccessDone n s := rfl

end Sys2Proof.Machine
end

section
/-! SUPPORT. What the work of the blocks keeps of the links, the drains and the Order Unit, said once for every
operation. A lemma `Keeps….op` says that the relation goes on over `op`, so a proof about a composed operation is the
chain of its parts. -/

namespace Sys2Proof.Machine

open Sys2Proof

variable {s t u : State}

/-! ### The laws of the links, one record at a time -/

theorem linksOk_updLink {b : BaseNo} {f : Link → Link} (h : s.linksOk) (hf : s.links[b].ok → (f s.links[b]).ok) :
    (s.updLink b f).linksOk := by
  intro x
  rw [updLink_get]
  split
  · exact hf (h b)
  · exact h x

theorem linksOk_of_links (h : s.linksOk) (e : t.links = s.links) : t.linksOk := by
  intro b
  rw [e]
  exact h b

theorem Link.ok_start : Link.start.ok := by
  refine ⟨Nat.zero_le _, ?_, fun _ => ?_⟩ <;> simp [Link.start]

/-- Links ABSENT or STOPPED with nothing queued are in order. -/
theorem Link.ok_closed {l : Link} (hq : l.queue = []) (hh : l.head = none) (hj : l.joinTimer = none)
    (hs : l.silenceTimer = none) : l.ok := by
  refine ⟨by simp [hq], by simp [hq, hh], fun _ => ⟨hq, hj, hs⟩⟩

/-! ### What every block's work keeps -/

/-- What every block's work keeps: the law of the links, the accesses already asked for, the intake, and a LINK bit
raised. -/
structure BlockWork (s t : State) : Prop where
  linksOk : s.linksOk → t.linksOk
  asks    : s.oru.queue <+: t.oru.queue
  intake  : t.oru.intake = s.oru.intake ∧ t.oru.intakeDue = s.oru.intakeDue
  raised  : ∀ b : BaseNo, s.acu.basePending[b] &&& attnLink = attnLink → t.acu.basePending[b] &&& attnLink = attnLink

theorem BlockWork.refl (s : State) : BlockWork s s := ⟨id, ⟨[], List.append_nil _⟩, ⟨rfl, rfl⟩, fun _ => id⟩

theorem BlockWork.trans (h : BlockWork s t) (k : BlockWork t u) : BlockWork s u where
  linksOk := k.linksOk ∘ h.linksOk
  asks := h.asks.trans k.asks
  intake := ⟨k.intake.1.trans h.intake.1, k.intake.2.trans h.intake.2⟩
  raised b := k.raised b ∘ h.raised b

/-- Work that leaves the Order Unit and the pending bits of the bases alone. -/
theorem BlockWork.of_same (hl : s.linksOk → t.linksOk) (ho : t.oru = s.oru)
    (hp : t.acu.basePending = s.acu.basePending) : BlockWork s t where
  linksOk := hl
  asks := by rw [ho]
  intake := by rw [ho]; exact ⟨rfl, rfl⟩
  raised b := by rw [hp]; exact id

theorem BlockWork.updLink {b : BaseNo} {f : Link → Link} (hf : s.links[b].ok → (f s.links[b]).ok) :
    BlockWork s (s.updLink b f) :=
  .of_same (linksOk_updLink · hf) rfl rfl

theorem baseCount_bumpBase (s : State) (b x : BaseNo) (k j : BaseCounter) :
    (s.bumpBase b k).baseCount x j = if b = x ∧ k = j then satSucc (s.baseCount b k) else s.baseCount x j := by
  have hk : baseIndex k = baseIndex j ↔ k = j := by cases k <;> cases j <;> decide
  unfold State.baseCount State.bumpBase
  dsimp only
  rw [getElem_set_fin]
  by_cases hb : b = x
  · subst hb
    rw [if_pos rfl, getElem_set_fin]
    simp only [hk, true_and]
  · rw [if_neg hb, if_neg fun h => hb h.1]

/-- Bits that are set stay set where others are added. -/
theorem and_or_of_and {x v m : Byte} (h : x &&& m = m) : (x ||| v) &&& m = m := by
  rw [BitVec.and_comm, BitVec.and_or_distrib_left, BitVec.and_comm m x, h]
  exact BitVec.eq_of_getLsbD_eq fun i _ => by simp; tauto

theorem BlockWork.pendBase {b : BaseNo} {v : Byte} : BlockWork s (s.pendBase b v) where
  linksOk := id
  asks := ⟨[], List.append_nil _⟩
  intake := ⟨rfl, rfl⟩
  raised x h := by
    show (s.acu.basePending.set b (s.acu.basePending[b] ||| v))[x] &&& attnLink = attnLink
    rw [getElem_set_fin]
    split
    · next e => subst e; exact and_or_of_and h
    · exact h

/-! ### Work that leaves every service state and every drain alone -/

/-- Block work in which no link changes its service state, no link ABSENT or STOPPED changes at all, no drain record
changes, and no loss is counted. -/
structure KeepsService (s t : State) : Prop extends BlockWork s t where
  service : ∀ b : BaseNo, t.service b = s.service b
  closed  : ∀ b : BaseNo, linkActive (s.service b) = false → t.links[b] = s.links[b]
  drains  : t.drains = s.drains
  losses  : ∀ b : BaseNo, t.baseCount b .losses = s.baseCount b .losses

namespace KeepsService

theorem refl (s : State) : KeepsService s s := ⟨.refl s, fun _ => rfl, fun _ _ => rfl, rfl, fun _ => rfl⟩

theorem trans (h : KeepsService s t) (k : KeepsService t u) : KeepsService s u where
  toBlockWork := h.toBlockWork.trans k.toBlockWork
  service b := (k.service b).trans (h.service b)
  closed b hb := (k.closed b (by rw [h.service]; exact hb)).trans (h.closed b hb)
  drains := k.drains.trans h.drains
  losses b := (k.losses b).trans (h.losses b)

/-- Work on other tables than these. -/
theorem same (h : KeepsService s t) (hl : u.links = t.links) (hd : u.drains = t.drains) (ho : u.oru = t.oru)
    (hc : u.counters.base = t.counters.base) (hp : u.acu.basePending = t.acu.basePending) : KeepsService s u :=
  h.trans {
    toBlockWork := .of_same (linksOk_of_links · hl) ho hp
    service := fun b => by rw [State.service, hl]; rfl
    closed := fun b _ => by rw [hl]
    drains := hd
    losses := fun b => by rw [State.baseCount, State.baseCount, hc] }

theorem updEntry {i : HandsetNo} {f : RosterEntry → RosterEntry} (h : KeepsService s t) :
    KeepsService s (t.updEntry i f) := h.same rfl rfl rfl rfl rfl
theorem updCall {c : CallNo} {f : Call → Call} (h : KeepsService s t) : KeepsService s (t.updCall c f) :=
  h.same rfl rfl rfl rfl rfl
theorem updHandover {c : CallNo} {f : Handover → Handover} (h : KeepsService s t) :
    KeepsService s (t.updHandover c f) := h.updCall
theorem setChan {b : BaseNo} {k : ChanNo} {v : Chan} (h : KeepsService s t) : KeepsService s (t.setChan b k v) :=
  h.same rfl rfl rfl rfl rfl
theorem setPages {p : List PageRecord} (h : KeepsService s t) : KeepsService s (t.setPages p) :=
  h.same rfl rfl rfl rfl rfl
theorem setBatch {q : List BatchEntry} (h : KeepsService s t) : KeepsService s (t.setBatch q) :=
  h.same rfl rfl rfl rfl rfl
theorem setAttaches {l : List PendingAttach} {k : Option Lookup} (h : KeepsService s t) :
    KeepsService s (t.setAttaches l k) := h.same rfl rfl rfl rfl rfl
theorem bump {k : GlobalCounter} (h : KeepsService s t) : KeepsService s (t.bump k) := h.same rfl rfl rfl rfl rfl
theorem markHandset {i : HandsetNo} {v : Byte} (h : KeepsService s t) : KeepsService s (t.markHandset i v) :=
  h.same rfl rfl rfl rfl rfl
theorem markCall {c : CallNo} {v : Byte} (h : KeepsService s t) : KeepsService s (t.markCall c v) :=
  h.same rfl rfl rfl rfl rfl
theorem transmit {b : BaseNo} {m : Downlink} (h : KeepsService s t) : KeepsService s (t.transmit b m) :=
  h.same rfl rfl rfl rfl rfl
theorem freeChannelsOf {c : CallNo} (h : KeepsService s t) : KeepsService s (t.freeChannelsOf c) :=
  h.same rfl rfl rfl rfl rfl
theorem freeBase {b : BaseNo} (h : KeepsService s t) : KeepsService s (t.freeBase b) := h.same rfl rfl rfl rfl rfl

theorem bumpBase {b : BaseNo} {k : BaseCounter} (h : KeepsService s t) (hk : k ≠ .losses := by decide) :
    KeepsService s (t.bumpBase b k) :=
  h.trans ⟨.of_same id rfl rfl, fun _ => rfl, fun _ _ => rfl, rfl, fun x => by
    rw [baseCount_bumpBase, if_neg fun h => hk h.2]⟩

theorem pendBase {b : BaseNo} {v : Byte} (h : KeepsService s t) : KeepsService s (t.pendBase b v) :=
  h.trans ⟨.pendBase, fun _ => rfl, fun _ _ => rfl, rfl, fun _ => rfl⟩

theorem service_updLink {b : BaseNo} {f : Link → Link} (hf : (f s.links[b]).service = s.service b) (x : BaseNo) :
    (s.updLink b f).service x = s.service x := by
  rw [State.service, updLink_get]
  split
  · next e => subst e; exact hf
  · rfl

/-- A change of one active link that keeps its law and its service state. -/
theorem updLink {b : BaseNo} {f : Link → Link} (h : KeepsService s t) (ha : linkActive (t.service b) = true)
    (hs : (f t.links[b]).service = t.service b) (hf : t.links[b].ok → (f t.links[b]).ok) :
    KeepsService s (t.updLink b f) :=
  h.trans {
    toBlockWork := .updLink hf
    service := service_updLink hs
    closed := fun x hx => by
      rw [updLink_get, if_neg]
      rintro rfl
      rw [ha] at hx
      cases hx
    drains := rfl
    losses := fun _ => rfl }

/-- A fold of such operations is one. -/
theorem foldl {α : Type} {f : State → α → State} (hf : ∀ {v x}, KeepsService s v → KeepsService s (f v x))
    (h : KeepsService s t) (l : List α) : KeepsService s (l.foldl f t) := by
  induction l generalizing t with
  | nil => exact h
  | cons x r ih => exact ih (hf h)

/-! Messages and answers -/

theorem enqueue {b : BaseNo} {m : Downlink} (h : KeepsService s t) (ha : t.appendTaken b = true) :
    KeepsService s (t.enqueue b m) := by
  obtain ⟨hs, hq⟩ := appendTaken_iff.mp ha
  by_cases e : t.links[b].queue = []
  · rw [enqueue_of_nil e]
    refine (h.updLink hs rfl fun _ => ⟨?_, ?_, fun hn => ?_⟩).transmit
    · simp [Config.queueDepth]
    · simp
    · exact absurd (hs.symm.trans hn) (by decide)
  · rw [enqueue_of_ne_nil e]
    refine h.updLink hs rfl fun ⟨_, hh, _⟩ => ⟨?_, ?_, fun hn => ?_⟩
    · simpa [Config.queueDepth] using hq
    · exact ⟨fun hn => absurd (hh.mp hn) e, fun hn => absurd hn (by simp)⟩
    · exact absurd (hs.symm.trans hn) (by decide)

theorem append {b : BaseNo} {m : Downlink} (h : KeepsService s t) : KeepsService s (t.append b m).1 := by
  rcases append_cases t b m with ⟨ha, e⟩ | ⟨-, e⟩ <;> rw [e]
  · exact h.enqueue ha
  · exact h.bumpBase

theorem append_eq {b : BaseNo} {m : Downlink} {v : Bool} (h : KeepsService s t) (e : t.append b m = (u, v)) :
    KeepsService s u := by
  have := h.append (b := b) (m := m)
  rwa [e] at this

theorem send {b : BaseNo} {m : Downlink} (h : KeepsService s t) : KeepsService s (t.send b m) := h.append

theorem handBack {i : SlotNo} {r : OrderResult} (h : KeepsService s t) : KeepsService s (t.handBack i r) := by
  have hq : KeepsService s (t.updOru fun o => { o with
      inFlight := enterAnswering i o.inFlight, queue := o.queue ++ [.resultWrite i r, .answeredWrite i] }) :=
    h.trans ⟨⟨id, ⟨_, rfl⟩, ⟨rfl, rfl⟩, fun _ => id⟩, fun _ => rfl, fun _ _ => rfl, rfl, fun _ => rfl⟩
  unfold State.handBack
  dsimp only
  split
  · exact hq.bump
  · exact hq

/-! The roster -/

theorem locate {i : HandsetNo} {b : BaseNo} (h : KeepsService s t) : KeepsService s (t.locate i b) := by
  unfold State.locate
  split
  · exact h.updEntry.markHandset
  · exact h
theorem heard {i : HandsetNo} (h : KeepsService s t) : KeepsService s (t.heard i) := by
  unfold State.heard
  split
  · exact h.updEntry.markHandset
  · exact h
theorem renew {i : HandsetNo} (h : KeepsService s t) : KeepsService s (t.renew i) := h.updEntry.markHandset
theorem bindCall {i : HandsetNo} {c : CallNo} (h : KeepsService s t) : KeepsService s (t.bindCall i c) := by
  unfold State.bindCall
  split
  · exact h.updEntry.markHandset
  · exact h
theorem unbindCall {i : HandsetNo} (h : KeepsService s t) : KeepsService s (t.unbindCall i) := by
  unfold State.unbindCall
  split
  · exact h.updEntry.markHandset
  · exact h
theorem startLookup (h : KeepsService s t) : KeepsService s t.startLookup := h.setAttaches

/-! Channels and levels -/

theorem unreserve {b : BaseNo} {j : ChanNo} {c : CallNo} {g : AttemptTag} (h : KeepsService s t) :
    KeepsService s (t.unreserve b j c g) := by
  unfold State.unreserve
  split
  · exact h.setChan
  · exact h
theorem switchOut {c : CallNo} {b : BaseNo} {j : ChanNo} {g : AttemptTag} (h : KeepsService s t) :
    KeepsService s (t.switchOut c b j g) := by
  unfold State.switchOut
  dsimp only
  split
  · exact h.setChan.markCall
  · exact h
theorem completeMove {c : CallNo} {b : BaseNo} {j : ChanNo} {g : AttemptTag} (h : KeepsService s t) :
    KeepsService s (t.completeMove c b j g) := by
  unfold State.completeMove
  dsimp only
  split
  · exact h.setChan.setChan.updCall.markCall
  · exact h
theorem switchBack {c : CallNo} {b : BaseNo} {j : ChanNo} {g : AttemptTag} (h : KeepsService s t) :
    KeepsService s (t.switchBack c b j g) := by
  unfold State.switchBack
  dsimp only
  split
  · exact h.setChan.setChan.markCall
  · exact h
theorem moveBegin {c : CallNo} (h : KeepsService s t) : KeepsService s (t.moveBegin c) := by
  unfold State.moveBegin
  split
  · exact h.updCall.markCall
  · exact h
theorem moveEnd {c : CallNo} (h : KeepsService s t) : KeepsService s (t.moveEnd c) := by
  unfold State.moveEnd
  split
  · exact h.updCall.markCall
  · exact h
theorem countIgnored {n : Nat} (h : KeepsService s t) : KeepsService s (t.countIgnored n) := by
  induction n generalizing t with
  | zero => exact h
  | succ n ih => exact ih h.bump
theorem filterReport {c : CallNo} {b : BaseNo} {l : LevelCode} {p : List (ReportedBase × LevelCode)}
    (h : KeepsService s t) : KeepsService s (t.filterReport c b l p) := h.countIgnored.updCall.markCall
theorem servingChange {c : CallNo} {a b : BaseNo} (h : KeepsService s t) : KeepsService s (t.servingChange c a b) :=
  h.updCall.markCall
theorem dropFilters {c : CallNo} (h : KeepsService s t) : KeepsService s (t.dropFilters c) := h.updCall
theorem removeFromSets {b : BaseNo} (h : KeepsService s t) : KeepsService s (t.removeFromSets b) :=
  h.foldl (fun k => k.updCall.markCall) _

/-! Handovers -/

theorem dropBatch {c : CallNo} (h : KeepsService s t) : KeepsService s (t.dropBatch c) := h.setBatch
theorem answerMove {i : Option SlotNo} {r : OrderResult} (h : KeepsService s t) : KeepsService s (t.answerMove i r) := by
  unfold State.answerMove
  split
  · exact h.handBack
  · exact h
theorem startHold {c : CallNo} (h : KeepsService s t) : KeepsService s (t.startHold c) := by
  unfold State.startHold
  dsimp only
  split
  · exact h.updCall
  · exact h
theorem giveUp {c : CallNo} {r : Handover} (h : KeepsService s t) : KeepsService s (t.giveUp c r) := by
  unfold State.giveUp
  split
  · exact h
  · dsimp only
    split
    · exact h.switchBack.send.send.bumpBase
    · exact h.unreserve.send.bumpBase
theorem removeRecord {c : CallNo} (h : KeepsService s t) : KeepsService s (t.removeRecord c) := h.updCall.moveEnd
theorem noteAbort {c : CallNo} {a : AbortReason} (h : KeepsService s t) : KeepsService s (t.noteAbort c a) :=
  h.updCall.markCall
theorem attemptEnd {c : CallNo} {a : AbortReason} (h : KeepsService s t) : KeepsService s (t.attemptEnd c a) := by
  unfold State.attemptEnd
  split
  · exact h
  · dsimp only
    split
    · exact h.dropBatch.giveUp.removeRecord.noteAbort.startHold.answerMove
    · exact h.dropBatch.giveUp.removeRecord.noteAbort.answerMove
theorem endRecord {c : CallNo} (h : KeepsService s t) : KeepsService s (t.endRecord c) := by
  unfold State.endRecord
  split
  · exact h
  · dsimp only
    split
    · exact h.dropBatch.send.bumpBase.updCall.noteAbort.answerMove
    · exact h.dropBatch.updCall.noteAbort.answerMove
theorem noteFailure {c : CallNo} {a : AbortReason} (h : KeepsService s t) : KeepsService s (t.noteFailure c a) :=
  h.updHandover
theorem takeTarget {c : CallNo} {b : BaseNo} {r : List BaseNo} (h : KeepsService s t) :
    KeepsService s (t.takeTarget c b r) := h.updCall.markCall
theorem tryCandidates {c : CallNo} {l : List BaseNo} (h : KeepsService s t) : KeepsService s (t.tryCandidates c l) := by
  induction l generalizing t with
  | nil => exact h.attemptEnd
  | cons b r ih =>
    unfold State.tryCandidates
    dsimp only
    split
    · exact ih h.takeTarget.noteFailure
    · split
      · next e => exact (h.takeTarget.setChan.append_eq e).updHandover
      · next e => exact ih (h.takeTarget.setChan.append_eq e).unreserve.noteFailure
theorem startHandover {c : CallNo} {k : HandoverKind} {l : List BaseNo} {i : Option SlotNo} (h : KeepsService s t) :
    KeepsService s (t.startHandover c k l i) := h.updCall.moveBegin.tryCandidates
theorem giveUpCandidate {c : CallNo} {r : Handover} {a : AbortReason} (h : KeepsService s t) :
    KeepsService s (t.giveUpCandidate c r a) := by
  unfold State.giveUpCandidate
  split
  · exact h
  · dsimp only
    split
    · exact h.unreserve.bumpBase
    · exact h.unreserve.send.bumpBase
theorem candidateFail {c : CallNo} {a : AbortReason} (h : KeepsService s t) : KeepsService s (t.candidateFail c a) := by
  unfold State.candidateFail
  split
  · exact h
  · exact h.noteFailure.dropBatch.giveUpCandidate.updHandover.tryCandidates
theorem beginSwitch {c : CallNo} (h : KeepsService s t) : KeepsService s (t.beginSwitch c) := by
  unfold State.beginSwitch
  split
  · exact h
  · split
    · exact h
    · exact h.switchOut.updHandover.markCall
theorem sendSwitchList {b : BaseNo} {cs : List CallNo} (h : KeepsService s t) :
    KeepsService s (t.sendSwitchList b cs) := by
  unfold State.sendSwitchList
  split
  · next e => exact (h.append_eq e).foldl beginSwitch _
  · next e => exact (h.append_eq e).foldl attemptEnd _
theorem joinBatch {c : CallNo} {b : BaseNo} (h : KeepsService s t) : KeepsService s (t.joinBatch c b) :=
  h.setBatch.updHandover.markCall
theorem takeReady {c : CallNo} {r : Handover} (h : KeepsService s t) : KeepsService s (t.takeReady c r) := by
  unfold State.takeReady
  dsimp only
  split
  · exact h.updHandover.sendSwitchList
  · split
    · exact h.updHandover.joinBatch
    · exact h.updHandover.bump.sendSwitchList
theorem deliverBatch (h : KeepsService s t) : KeepsService s t.deliverBatch := h.setBatch.foldl sendSwitchList _
theorem settleCall {c : CallNo} {b : BaseNo} (h : KeepsService s t) : KeepsService s (t.settleCall c b) := by
  unfold State.settleCall
  exact h.updCall
theorem completeHandover {c : CallNo} {r : Handover} {j : ChanNo} (h : KeepsService s t) :
    KeepsService s (t.completeHandover c r j) :=
  h.completeMove.servingChange.settleCall.locate.removeRecord.markCall.bumpBase.bumpBase.answerMove
theorem drainStartNotice {b : BaseNo} (h : KeepsService s t) : KeepsService s (t.drainStartNotice b) :=
  h.foldl attemptEnd _
theorem targetLostNotice {b : BaseNo} (h : KeepsService s t) : KeepsService s (t.targetLostNotice b) :=
  h.foldl attemptEnd _

/-! The end of a call, and pages -/

theorem withdrawTail {b : BaseNo} (h : KeepsService s t) : KeepsService s (t.withdrawTail b) :=
  h.targetLostNotice.removeFromSets.freeBase
theorem releaseServing {c : CallNo} {r : EndReason} (h : KeepsService s t) : KeepsService s (t.releaseServing c r) := by
  unfold State.releaseServing
  split
  · exact h.send
  · exact h
theorem countLost {r : EndReason} (h : KeepsService s t) : KeepsService s (t.countLost r) := by
  unfold State.countLost
  split
  · exact h.bump
  · exact h
theorem callEndActions {c : CallNo} {r : EndReason} (h : KeepsService s t) : KeepsService s (t.callEndActions c r) :=
  (h.endRecord.releaseServing.freeChannelsOf.dropFilters.updCall.unbindCall.updCall.markCall).countLost
theorem endPage {p : PageRecord} {v : Verdict} {d z : Nat} (h : KeepsService s t) : KeepsService s (t.endPage p v d z) := by
  unfold State.endPage
  dsimp only
  split
  · exact h.handBack.setPages.bump
  · exact h.handBack.setPages
theorem pageCallNotice {i : HandsetNo} {b : BaseNo} (h : KeepsService s t) : KeepsService s (t.pageCallNotice i b) := by
  unfold State.pageCallNotice
  split
  · exact h.endPage
  · exact h
theorem pageFreedNotice {i : HandsetNo} (h : KeepsService s t) : KeepsService s (t.pageFreedNotice i) := by
  unfold State.pageFreedNotice
  split
  · exact h.endPage
  · exact h
theorem pageAppends {m : Downlink} (l : List BaseNo) {a : State × PageRecord} (h : KeepsService s a.1) :
    KeepsService s (l.foldl (pageAppend m) a).1 := by
  induction l generalizing a with
  | nil => exact h
  | cons b r ih =>
    refine ih ?_
    unfold pageAppend
    split
    · next e => exact h.append_eq e
    · next e => exact (h.append_eq e).bump
theorem makeRound {p : PageRecord} {z : ZoneNo} (h : KeepsService s t) : KeepsService s (t.makeRound p z) :=
  (h.pageAppends (a := (t, p)) _).setPages
theorem startPage {i : SlotNo} {x : HandsetNo} (h : KeepsService s t) : KeepsService s (t.startPage i x) := by
  unfold State.startPage
  split
  · exact h
  · exact h.setPages.makeRound
theorem expireRound {p : PageRecord} (h : KeepsService s t) : KeepsService s (t.expireRound p) := by
  unfold State.expireRound
  split
  · split
    · exact h.makeRound
    · split
      · exact h.makeRound
      · exact h.endPage
  · exact h.endPage
theorem takeRoundTimer {i : HandsetNo} (h : KeepsService s t) : KeepsService s (t.takeRoundTimer i) := by
  unfold State.takeRoundTimer
  split
  · split
    · exact h.expireRound
    · exact h
  · exact h
theorem pageAnswered {b : BaseNo} {i : HandsetNo} (h : KeepsService s t) : KeepsService s (t.pageAnswered b i) := by
  unfold State.pageAnswered
  split
  · split
    · exact h.locate.renew.endPage
    · exact h.locate
  · exact h.bump

end KeepsService

end Sys2Proof.Machine
end

section
/-! SUPPORT. Drain records and DRAINING links: what the end of a call may do to them, and what every block's event
keeps of them (1.5, R132). -/

namespace Sys2Proof.Machine

open Sys2Proof

variable {s t u : State}

/-! ### A drain record for exactly the DRAINING bases -/

/-- A base has a drain record exactly while its link is DRAINING, in the phase that `ph` gives for the base: inside an
event that clears a base, its record is CLEARING (R137). -/
def State.drainsIn (ph : BaseNo → DrainPhase) (s : State) : Prop :=
  ∀ b : BaseNo, (s.drains[b] ≠ none ↔ s.service b = .draining) ∧
    ∀ d : DrainRecord, s.drains[b] = some d → d.phase = ph b

/-- Between two events every record is ACTIVE. -/
abbrev State.drainsActive (s : State) : Prop := s.drainsIn fun _ => .active

theorem drainsOk_iff : s.drainsOk ↔
    s.drainsActive ∧ (s.regs.part ≠ .running → ∀ b : BaseNo, s.service b ≠ .draining) :=
  ⟨fun ⟨hd, hp, hr⟩ => ⟨fun b => ⟨hd b, hp b⟩, hr⟩, fun ⟨h, hr⟩ => ⟨fun b => (h b).1, fun b => (h b).2, hr⟩⟩

variable {ph : BaseNo → DrainPhase}

theorem drainsIn_of_same (h : s.drainsIn ph) (hs : ∀ b, t.service b = s.service b) (hd : t.drains = s.drains) :
    t.drainsIn ph := by
  intro b
  rw [hs, hd]
  exact h b

/-- The link and the drain record of one base change together. -/
theorem drainsIn_set {b : BaseNo} {l : Link} {d : Option DrainRecord} (h : s.drainsIn ph)
    (hl : t.links = s.links.set b l) (hd : t.drains = s.drains.set b d) (hiff : d ≠ none ↔ l.service = .draining)
    (hp : ∀ e, d = some e → e.phase = ph b) : t.drainsIn ph := by
  intro x
  rw [State.service, hl, hd, getElem_set_fin, getElem_set_fin]
  split
  · next e => subst e; exact ⟨hiff, hp⟩
  · exact h x

/-- The drain record of a base is renewed. -/
theorem drainsIn_setDrain {b : BaseNo} {d e : DrainRecord} (h : s.drainsIn ph) (hb : s.drains[b] = some d)
    (hp : d.phase = ph b → e.phase = ph b) : (s.setDrain b (some e)).drainsIn ph := by
  have hs : s.service b = .draining := (h b).1.mp (by rw [hb]; exact Option.some_ne_none d)
  refine drainsIn_set (l := s.links[b]) h (by simp) rfl (by simpa [State.service] using hs) ?_
  rintro _ ⟨rfl⟩
  exact hp ((h b).2 d hb)

/-- The link of a base changes, its drain record standing as before. -/
theorem drainsIn_updLink {b : BaseNo} {f : Link → Link} (h : s.drainsIn ph)
    (hs : (f s.links[b]).service = .draining ↔ s.service b = .draining) : (s.updLink b f).drainsIn ph :=
  drainsIn_set (d := s.drains[b]) h rfl (by simp) ((h b).1.trans hs.symm) (h b).2

/-! ### Entering STOPPED and the completion of a drain -/

theorem enterStopped_links (s : State) (b : BaseNo) (v : Byte) :
    (s.enterStopped b v).links = s.links.set b { s.links[b] with
      service := .stopped, joinTimer := none, silenceTimer := none, queue := [], head := none } := by
  simp [State.enterStopped, State.stopTransmit, State.emptyQueue]

theorem loseLink_links (s : State) (b : BaseNo) :
    (s.loseLink b).links = s.links.set b { s.links[b] with
      service := .absent, joinTimer := none, silenceTimer := none, queue := [], head := none } := by
  simp [State.loseLink, State.emptyQueue]

theorem linksOk_set {b : BaseNo} {l : Link} (h : s.linksOk) (hl : l.ok) (e : t.links = s.links.set b l) : t.linksOk := by
  intro x
  rw [e, getElem_set_fin]
  split
  · exact hl
  · exact h x

theorem enterStopped_linksOk {b : BaseNo} {v : Byte} (h : s.linksOk) : (s.enterStopped b v).linksOk :=
  linksOk_set h (Link.ok_closed rfl rfl rfl rfl) (enterStopped_links s b v)

theorem loseLink_linksOk {b : BaseNo} (h : s.linksOk) : (s.loseLink b).linksOk :=
  linksOk_set h (Link.ok_closed rfl rfl rfl rfl) (loseLink_links s b)

@[simp] theorem setDrain_service (s : State) (b x : BaseNo) (d : Option DrainRecord) :
    (s.setDrain b d).service x = s.service x := rfl

@[simp] theorem setDrain_baseCount (s : State) (b x : BaseNo) (d : Option DrainRecord) (k : BaseCounter) :
    (s.setDrain b d).baseCount x k = s.baseCount x k := rfl

/-- The answer of a drain leaves everything but the record as it stands. -/
theorem endDrain_keeps (s : State) (b : BaseNo) (d : DrainRecord) (v : Verdict) (n : Nat) :
    KeepsService (s.setDrain b none) (s.endDrain b d v n) := by
  unfold State.endDrain
  exact (KeepsService.refl _).handBack

/-- The withdrawal after a base has entered STOPPED. -/
theorem stoppedTail_keeps (s : State) (b : BaseNo) :
    KeepsService (s.enterStopped b (attnLink ||| attnDrained))
      ((s.enterStopped b (attnLink ||| attnDrained)).withdrawTail b) :=
  (KeepsService.refl _).withdrawTail

/-- The completion of a drain (R136): the base is STOPPED, and its record gone. -/
theorem drainComplete_service (s : State) (b x : BaseNo) (d : DrainRecord) (n : Nat) :
    (s.drainComplete b d n).service x = if b = x then .stopped else s.service x := by
  unfold State.drainComplete
  rw [(endDrain_keeps _ _ _ _ _).service, setDrain_service, (stoppedTail_keeps s b).service, State.service,
    enterStopped_links, getElem_set_fin]
  split <;> rfl

theorem drainComplete_drains (s : State) (b : BaseNo) (d : DrainRecord) (n : Nat) :
    (s.drainComplete b d n).drains = s.drains.set b none := by
  unfold State.drainComplete
  rw [(endDrain_keeps _ _ _ _ _).drains, State.setDrain_drains, (stoppedTail_keeps s b).drains]
  rfl

theorem drainComplete_drainsIn {b : BaseNo} {d : DrainRecord} {n : Nat} (h : s.drainsIn ph) :
    (s.drainComplete b d n).drainsIn ph := by
  intro x
  rw [drainComplete_service, drainComplete_drains, getElem_set_fin]
  split
  · simp
  · exact h x

theorem enterStopped_work (s : State) (b : BaseNo) (v : Byte) : BlockWork s (s.enterStopped b v) :=
  BlockWork.trans (t := (s.updLink b fun l => { l with
    service := .stopped, joinTimer := none, silenceTimer := none }).stopTransmit b)
    (.of_same (enterStopped_linksOk (v := v)) rfl rfl) .pendBase

theorem setDrain_work (s : State) (b : BaseNo) (d : Option DrainRecord) : BlockWork s (s.setDrain b d) :=
  .of_same id rfl rfl

theorem drainComplete_work (s : State) (b : BaseNo) (d : DrainRecord) (n : Nat) :
    BlockWork s (s.drainComplete b d n) := by
  unfold State.drainComplete
  exact (enterStopped_work s b _).trans <| (stoppedTail_keeps s b).toBlockWork.trans <|
    (setDrain_work _ b none).trans (endDrain_keeps _ b d _ n).toBlockWork

theorem drainComplete_losses (s : State) (b : BaseNo) (d : DrainRecord) (n : Nat) (x : BaseNo) :
    (s.drainComplete b d n).baseCount x .losses = s.baseCount x .losses := by
  unfold State.drainComplete
  rw [(endDrain_keeps _ _ _ _ _).losses, setDrain_baseCount, (stoppedTail_keeps s b).losses]
  rfl

/-- The completion of a drain leaves every other link that is ABSENT or STOPPED alone. -/
theorem drainComplete_closed {b x : BaseNo} {d : DrainRecord} {n : Nat} (hne : b ≠ x)
    (hx : linkActive (s.service x) = false) : (s.drainComplete b d n).links[x] = s.links[x] := by
  have hl : (s.enterStopped b (attnLink ||| attnDrained)).links[x] = s.links[x] := by
    rw [enterStopped_links, getElem_set_fin, if_neg hne]
  have hv : linkActive ((s.enterStopped b (attnLink ||| attnDrained)).service x) = false := by
    rwa [State.service, hl]
  have hw : linkActive ((((s.enterStopped b (attnLink ||| attnDrained)).withdrawTail b).setDrain b none).service x) =
      false := by
    rwa [setDrain_service, (stoppedTail_keeps s b).service]
  unfold State.drainComplete
  rw [(endDrain_keeps _ _ _ _ _).closed x hw, State.setDrain_links, (stoppedTail_keeps s b).closed x hv, hl]

/-! ### Work that completes drains, and changes no service state otherwise -/

/-- Block work in which no link changes its service state but a DRAINING one whose drain completes: the drain records
stay in step with the links, no link ABSENT or STOPPED changes nor gets a drain record, and no loss is counted. -/
structure EndsDrains (s t : State) : Prop extends BlockWork s t where
  drainsIn : ∀ ph, s.drainsIn ph → t.drainsIn ph
  closed   : ∀ b : BaseNo, linkActive (s.service b) = false → t.links[b] = s.links[b] ∧ t.drains[b] = s.drains[b]
  losses   : ∀ b : BaseNo, t.baseCount b .losses = s.baseCount b .losses

theorem KeepsService.endsDrains (h : KeepsService s t) : EndsDrains s t where
  toBlockWork := h.toBlockWork
  drainsIn _ hd := drainsIn_of_same hd h.service h.drains
  closed b hb := ⟨h.closed b hb, by rw [h.drains]⟩
  losses := h.losses

namespace EndsDrains

theorem trans (h : EndsDrains s t) (k : EndsDrains t u) : EndsDrains s u where
  toBlockWork := h.toBlockWork.trans k.toBlockWork
  drainsIn ph := k.drainsIn ph ∘ h.drainsIn ph
  closed b hb := by
    obtain ⟨hl, hd⟩ := h.closed b hb
    obtain ⟨kl, kd⟩ := k.closed b (by rw [State.service, hl]; exact hb)
    exact ⟨kl.trans hl, kd.trans hd⟩
  losses b := (k.losses b).trans (h.losses b)

/-- Work that goes on in the way of `KeepsService`. -/
theorem keep (h : EndsDrains s t) (k : KeepsService t u) : EndsDrains s u := h.trans k.endsDrains

theorem foldl {α : Type} {f : State → α → State} (hf : ∀ {v x}, EndsDrains s v → EndsDrains s (f v x))
    (h : EndsDrains s t) (l : List α) : EndsDrains s (l.foldl f t) := by
  induction l generalizing t with
  | nil => exact h
  | cons x r ih => exact ih (hf h)

/-- The drain record of a DRAINING base is renewed in its phase. -/
theorem setDrain {b : BaseNo} {d e : DrainRecord} (h : EndsDrains s t) (hs : t.service b = .draining)
    (hd : t.drains[b] = some d) (hp : e.phase = d.phase) : EndsDrains s (t.setDrain b (some e)) :=
  h.trans {
    toBlockWork := .of_same id rfl rfl
    drainsIn := fun _ hi => drainsIn_setDrain hi hd fun he => hp.trans he
    closed := fun x hx => by
      refine ⟨rfl, ?_⟩
      rw [setDrain_get, if_neg]
      rintro rfl
      rw [hs] at hx
      cases hx
    losses := fun _ => rfl }

/-- The drain of a DRAINING base completes (R136). -/
theorem drainComplete {b : BaseNo} {d : DrainRecord} {n : Nat} (h : EndsDrains s t) (hs : t.service b = .draining) :
    EndsDrains s (t.drainComplete b d n) :=
  h.trans {
    toBlockWork := drainComplete_work t b d n
    drainsIn := fun _ hi => drainComplete_drainsIn hi
    closed := fun x hx => by
      have hne : b ≠ x := by
        rintro rfl
        rw [hs] at hx
        cases hx
      exact ⟨drainComplete_closed hne hx, by rw [drainComplete_drains, getElem_set_fin, if_neg hne]⟩
    losses := drainComplete_losses t b d n }

theorem drainCheck {b : BaseNo} (h : EndsDrains s t) (hs : t.service b = .draining) : EndsDrains s (t.drainCheck b) := by
  unfold State.drainCheck
  split
  · split
    · exact h.drainComplete hs
    · exact h
  · exact h

theorem callEndNotice {b : BaseNo} (h : EndsDrains s t) (hs : t.service b = .draining) :
    EndsDrains s (t.callEndNotice b) := by
  unfold State.callEndNotice
  split
  · next d hd =>
    split
    · exact (h.setDrain (e := { d with ended := satSucc d.ended }) hs hd rfl).drainCheck hs
    · exact h.setDrain (e := { d with cleared := satSucc d.cleared }) hs hd rfl
  · exact h

theorem endCall {c : CallNo} {r : EndReason} (h : EndsDrains s t) : EndsDrains s (t.endCall c r) := by
  have hk : KeepsService t (t.callEndActions c r) := (KeepsService.refl t).callEndActions
  unfold State.endCall
  split
  · dsimp only
    split
    · next hs => exact (h.keep hk).callEndNotice ((hk.service _).trans hs)
    · exact h.keep hk
  · exact h

theorem endServed {b : BaseNo} {r : EndReason} (h : EndsDrains s t) : EndsDrains s (t.endServed b r) :=
  h.foldl endCall _

theorem withdraw {b : BaseNo} {r : EndReason} (h : EndsDrains s t) : EndsDrains s (t.withdraw b r) :=
  h.endServed.keep (KeepsService.refl _).withdrawTail

end EndsDrains

/-! ### What every event of the blocks keeps -/

/-- Block work that keeps the drain records in step with the links, whatever service states it changes. -/
structure KeepsLaws (s t : State) : Prop extends BlockWork s t where
  drains : s.drainsActive → t.drainsActive

theorem EndsDrains.keepsLaws (h : EndsDrains s t) : KeepsLaws s t := ⟨h.toBlockWork, h.drainsIn _⟩

theorem KeepsService.keepsLaws (h : KeepsService s t) : KeepsLaws s t := h.endsDrains.keepsLaws

namespace KeepsLaws

theorem refl (s : State) : KeepsLaws s s := ⟨.refl s, id⟩

theorem trans (h : KeepsLaws s t) (k : KeepsLaws t u) : KeepsLaws s u :=
  ⟨h.toBlockWork.trans k.toBlockWork, k.drains ∘ h.drains⟩

/-- Work that goes on in the way of `KeepsService`. -/
theorem keep (h : KeepsLaws s t) (k : KeepsService t u) : KeepsLaws s u := h.trans k.keepsLaws

/-- Work that goes on in the way of `EndsDrains`. -/
theorem ends (h : KeepsLaws s t) (k : EndsDrains t u) : KeepsLaws s u := h.trans k.keepsLaws

theorem foldl {α : Type} {f : State → α → State} (hf : ∀ {v x}, KeepsLaws s v → KeepsLaws s (f v x))
    (h : KeepsLaws s t) (l : List α) : KeepsLaws s (l.foldl f t) := by
  induction l generalizing t with
  | nil => exact h
  | cons x r ih => exact ih (hf h)

theorem endCall {c : CallNo} {r : EndReason} (h : KeepsLaws s t) : KeepsLaws s (t.endCall c r) :=
  h.ends (KeepsService.refl t).endsDrains.endCall

/-- A link changes, without entering or leaving DRAINING. -/
theorem updLink {b : BaseNo} {f : Link → Link} (h : KeepsLaws s t)
    (hs : (f t.links[b]).service = .draining ↔ t.service b = .draining) (hf : t.links[b].ok → (f t.links[b]).ok) :
    KeepsLaws s (t.updLink b f) :=
  h.trans ⟨.updLink hf, fun hd => drainsIn_updLink hd hs⟩

/-! Links -/

theorem restartSilence {b : BaseNo} (h : KeepsLaws s t) : KeepsLaws s (t.restartSilence b) := by
  unfold State.restartSilence
  split
  · next ha => exact h.updLink Iff.rfl fun ⟨hq, hh, _⟩ => ⟨hq, hh, fun hn => absurd (ha.symm.trans hn) (by decide)⟩
  · exact h

theorem setHead {b : BaseNo} {x : Head} (h : KeepsLaws s t) (hx : t.links[b].head ≠ none) :
    KeepsLaws s (t.setHead b x) :=
  h.updLink Iff.rfl fun ⟨hq, hh, hc⟩ => ⟨hq, ⟨(by simp), fun e => absurd (hh.mpr e) hx⟩, hc⟩

theorem transmitHead {b : BaseNo} (h : KeepsLaws s t) : KeepsLaws s (t.transmitHead b) := by
  rcases transmitHead_cases t b with e | ⟨m, e⟩ <;> rw [e]
  · exact h
  · exact h.keep (KeepsService.refl t).transmit

theorem startHead {b : BaseNo} (h : KeepsLaws s t) : KeepsLaws s (t.startHead b) := by
  refine (h.updLink Iff.rfl fun ⟨hq, _, hc⟩ => ⟨hq, ?_, hc⟩).transmitHead
  dsimp only
  cases t.links[b].queue <;> simp

end KeepsLaws

end Sys2Proof.Machine
end

section
/-! SUPPORT. What every event keeps of the links and the drains, one lemma per event. -/

namespace Sys2Proof.Machine

open Sys2Proof

variable {s t u : State}

/-! ### Drains answered before their base leaves service (R140, R142) -/

@[simp] theorem handBack_links (s : State) (i : SlotNo) (r : OrderResult) : (s.handBack i r).links = s.links := by
  unfold State.handBack
  dsimp only
  split <;> rfl

@[simp] theorem handBack_drains (s : State) (i : SlotNo) (r : OrderResult) : (s.handBack i r).drains = s.drains := by
  unfold State.handBack
  dsimp only
  split <;> rfl

@[simp] theorem failDrain_links (s : State) (b : BaseNo) (f : FailCode) : (s.failDrain b f).links = s.links := by
  unfold State.failDrain
  split
  · simp [State.endDrain]
  · rfl

theorem failDrain_get (s : State) (b x : BaseNo) (f : FailCode) :
    (s.failDrain b f).drains[x] = if b = x then none else s.drains[x] := by
  unfold State.failDrain
  split
  · rw [State.endDrain, handBack_drains, setDrain_get]
  · next e =>
    split
    · next hx => exact hx ▸ e
    · rfl

theorem failDrain_work (s : State) (b : BaseNo) (f : FailCode) : BlockWork s (s.failDrain b f) := by
  unfold State.failDrain
  split
  · exact (setDrain_work s b none).trans (endDrain_keeps s b _ _ _).toBlockWork
  · exact .refl s

theorem loseLink_work (s : State) (b : BaseNo) : BlockWork s (s.loseLink b) :=
  BlockWork.trans (t := ((s.updLink b fun l => { l with
    service := .absent, joinTimer := none, silenceTimer := none }).emptyQueue b).bumpBase b .losses)
    (.of_same loseLink_linksOk rfl rfl) .pendBase

/-- A base leaves service for good once its drain is answered. -/
theorem drainsActive_closed {b : BaseNo} {f : FailCode} {l : Link} (h : s.drainsActive)
    (hl : u.links = (s.failDrain b f).links.set b l) (hd : u.drains = (s.failDrain b f).drains)
    (hs : l.service ≠ .draining) : u.drainsActive := by
  intro x
  rw [State.service, hl, hd, failDrain_get, getElem_set_fin, failDrain_links]
  split
  · exact ⟨by simp [hs], by simp⟩
  · exact h x

theorem changeService_links (s : State) (b : BaseNo) (v : Service) :
    (s.changeService b v).links = s.links.set b { s.links[b] with service := v } := rfl

/-- A service state may change where the link is active after it or was not before it. -/
theorem changeService_work {b : BaseNo} {v : Service} (h : linkActive v = true ∨ linkActive (s.service b) = false) :
    BlockWork s (s.changeService b v) := by
  refine (BlockWork.updLink fun ⟨hq, hh, hc⟩ => ⟨hq, hh, fun hn => ?_⟩).trans .pendBase
  rcases h with h | h
  · exact absurd (h.symm.trans hn) (by decide)
  · exact hc h

/-- The phase of each base's drain while base `b` is cleared (R137). -/
def clearingAt (b : BaseNo) : BaseNo → DrainPhase := fun x => if x = b then .clearing else .active

/-- While the calls of a base are cleared its record is CLEARING (R137). -/
theorem endServed_clearing {b : BaseNo} {d : DrainRecord} (h : s.drainsActive) (hd : s.drains[b] = some d) :
    ((s.setDrain b (some { d with phase := .clearing })).endServed b .drained).drainsIn (clearingAt b) := by
  refine ((KeepsService.refl _).endsDrains.endServed).drainsIn _ fun x => ?_
  rw [setDrain_service, setDrain_get]
  split
  · next e =>
    subst e
    have hs : s.service b = .draining := (h b).1.mp (by rw [hd]; exact Option.some_ne_none d)
    exact ⟨by simp [hs], by rintro _ ⟨rfl⟩; simp [clearingAt]⟩
  · next e => simpa [clearingAt, Ne.symm e] using h x

/-- A base whose record is gone has no phase left. -/
theorem drainsActive_of_clearing {b : BaseNo} (h : s.drainsIn (clearingAt b)) (hn : s.drains[b] = none) :
    s.drainsActive := by
  intro x
  refine ⟨(h x).1, fun d hd => ?_⟩
  have hne : x ≠ b := by
    rintro rfl
    rw [hn] at hd
    cases hd
  rw [(h x).2 d hd, clearingAt, if_neg hne]

namespace KeepsService

/-! ### Events that change no service state -/

theorem pendDevice {v : Byte} (h : KeepsService s t) : KeepsService s (t.pendDevice v) := h.same rfl rfl rfl rfl rfl
theorem answerAgain {b : BaseNo} {i : Identity} (h : KeepsService s t) : KeepsService s (t.answerAgain b i) :=
  h.send.bump
theorem refreshEntry {b : BaseNo} {i : HandsetNo} (h : KeepsService s t) : KeepsService s (t.refreshEntry b i) := by
  unfold State.refreshEntry
  dsimp only
  split
  · exact h.updEntry.renew.markHandset
  · exact h.updEntry.renew.markHandset.locate
theorem takeRefresh {b : BaseNo} {i : HandsetNo} {c : BitVec 16} (h : KeepsService s t) :
    KeepsService s (t.takeRefresh b i c) := by
  unfold State.takeRefresh
  split
  · exact h.refreshEntry
  · exact h.answerAgain
theorem registerHandset {r : PendingAttach} {i : HandsetNo} {p : Nat} {e : Subscription} (h : KeepsService s t) :
    KeepsService s (t.registerHandset r i p e) := by
  unfold State.registerHandset
  split
  · next e => exact (h.append_eq e).updEntry.markHandset.bump
  · next e => exact (h.append_eq e).bump
theorem rejectAttach {r : PendingAttach} {v : AttachVerdict} (h : KeepsService s t) :
    KeepsService s (t.rejectAttach r v) := h.send.bump
theorem answerLookup {r : PendingAttach} {f : Option (Nat × Subscription)} (h : KeepsService s t) :
    KeepsService s (t.answerLookup r f) := by
  unfold State.answerLookup
  split
  · exact h.rejectAttach
  · split
    · exact h.rejectAttach
    · split
      · exact h.rejectAttach
      · split
        · exact h.rejectAttach
        · exact h.registerHandset
theorem endLookup {f : Option (Nat × Subscription)} (h : KeepsService s t) : KeepsService s (t.endLookup f) := by
  unfold State.endLookup
  split
  · exact h.setAttaches
  · refine startLookup ?_
    split
    · exact h.setAttaches.answerLookup
    · exact h.setAttaches.bump
theorem searchBounds {x y : Nat} (h : KeepsService s t) : KeepsService s (t.searchBounds x y) := h.setAttaches
theorem takeSubCount {n : Nat} (h : KeepsService s t) : KeepsService s (t.takeSubCount n) := by
  unfold State.takeSubCount
  dsimp only
  split
  · exact h.endLookup
  · exact h.searchBounds
theorem takeSubEntry {i : Identity} {x y : Nat} {e : Subscription} (h : KeepsService s t) :
    KeepsService s (t.takeSubEntry i x y e) := by
  unfold State.takeSubEntry
  dsimp only
  split
  · exact h.endLookup
  · split
    · split
      · exact h.endLookup
      · exact h.searchBounds
    · split
      · exact h.endLookup
      · exact h.searchBounds
theorem takePage {i : SlotNo} {x : HandsetNo} (h : KeepsService s t) : KeepsService s (t.takePage i x) := by
  unfold State.takePage
  split
  · exact h.handBack
  · exact h.startPage
theorem admitCall {b : BaseNo} {i : HandsetNo} {k : ChanNo} {c : CallNo} {p : Bool} (h : KeepsService s t) :
    KeepsService s (t.admitCall b i k c p) := h.setChan.updCall.bindCall.locate.markCall.bumpBase
theorem admission {b : BaseNo} {i : HandsetNo} {p : Bool} (h : KeepsService s t) :
    KeepsService s (t.admission b i p) := by
  unfold State.admission
  split
  · split
    · next e => exact (h.append_eq e).admitCall
    · next e => exact (h.append_eq e).bumpBase
  · exact h
theorem takeCallRequest {b : BaseNo} {i : HandsetNo} {p : Bool} (h : KeepsService s t) :
    KeepsService s (t.takeCallRequest b i p) := by
  have hk : KeepsService s (if t.roster[i].registered then t.pageCallNotice i b else t) := by
    split
    · exact h.pageCallNotice
    · exact h
  unfold State.takeCallRequest
  dsimp only
  split
  · exact hk.send.bumpBase
  · exact hk.admission
theorem oldSideDropped {c : CallNo} (h : KeepsService s t) : KeepsService s (t.oldSideDropped c) := by
  unfold State.oldSideDropped
  split
  · split
    · exact h.updHandover.markCall
    · exact h.bump
  · exact h.bump
theorem takeBlockChannel {i : SlotNo} {b : BaseNo} {k : ChanNo} (h : KeepsService s t) :
    KeepsService s (t.takeBlockChannel i b k) := by
  unfold State.takeBlockChannel
  split
  · exact h.setChan.handBack
  · exact h.handBack
theorem takeUnblockChannel {i : SlotNo} {b : BaseNo} {k : ChanNo} (h : KeepsService s t) :
    KeepsService s (t.takeUnblockChannel i b k) := by
  unfold State.takeUnblockChannel
  split
  · exact h.setChan.handBack
  all_goals exact h.handBack
theorem staleRelease {b : BaseNo} {j : ChanNo} {c : CallNo} {g : AttemptTag} (h : KeepsService s t) :
    KeepsService s (t.staleRelease b j c g) := by
  unfold State.staleRelease
  dsimp only
  split
  · exact h.bump.send
  · exact h.bump
theorem takeReserveTimer {c : CallNo} (h : KeepsService s t) : KeepsService s (t.takeReserveTimer c) := by
  unfold State.takeReserveTimer
  split
  · split
    · exact h.candidateFail
    · exact h
  · exact h
theorem takeSettleTimer {c : CallNo} (h : KeepsService s t) : KeepsService s (t.takeSettleTimer c) := by
  unfold State.takeSettleTimer
  split
  · exact h.updCall
  · exact h
theorem takeHoldTimer {c : CallNo} (h : KeepsService s t) : KeepsService s (t.takeHoldTimer c) := by
  unfold State.takeHoldTimer
  split
  · exact h.updCall
  · exact h
theorem takeForceMove {i : SlotNo} {c : CallNo} {b : BaseNo} (h : KeepsService s t) :
    KeepsService s (t.takeForceMove i c b) := by
  unfold State.takeForceMove
  split
  · exact h.handBack
  · exact h.startHandover
theorem watchStep {c : CallNo} {z : ZoneParams} {f e : Nat} (h : KeepsService s t) :
    KeepsService s (t.watchStep c z f e) := h.updCall.markCall
theorem leadStep {c : CallNo} {z : ZoneParams} {f : Nat} (h : KeepsService s t) : KeepsService s (t.leadStep c z f) := by
  unfold State.leadStep
  exact h.updCall
theorem decisionTrigger {c : CallNo} {z : ZoneParams} (h : KeepsService s t) :
    KeepsService s (t.decisionTrigger c z) := by
  unfold State.decisionTrigger
  dsimp only
  split
  · split
    · exact h
    · exact h.startHandover
  · exact h
theorem counterWritten (h : KeepsService s t) : KeepsService s t.counterWritten := by
  unfold State.counterWritten
  split
  · split
    · exact h.same rfl rfl rfl rfl rfl
    · exact (h.same (u := t.updAcu _) rfl rfl rfl rfl rfl).handBack
  · exact h
theorem answerCancel {i x : SlotNo} {v : Verdict} (h : KeepsService s t) : KeepsService s (t.answerCancel i x v) :=
  h.handBack
theorem cancelMove {i x : SlotNo} {c : CallNo} {r : Handover} (h : KeepsService s t) :
    KeepsService s (t.cancelMove i x c r) := by
  unfold State.cancelMove
  split
  · exact h.answerCancel
  · exact h.attemptEnd.answerCancel

end KeepsService

namespace KeepsLaws

/-! ### The links -/

theorem dropHead {b : BaseNo} (h : KeepsLaws s t) : KeepsLaws s (t.dropHead b) := by
  unfold State.dropHead State.startHead
  rw [updLink_updLink]
  refine (h.updLink Iff.rfl fun ⟨hq, _, hc⟩ => ⟨?_, ?_, fun hn => ?_⟩).transmitHead
  · exact (by simp : t.links[b].queue.tail.length ≤ t.links[b].queue.length).trans hq
  · cases t.links[b].queue.tail <;> simp
  · obtain ⟨hn, hj, hs⟩ := hc hn
    exact ⟨by rw [hn]; rfl, hj, hs⟩

theorem stopTransmit {b : BaseNo} (h : KeepsLaws s t) : KeepsLaws s (t.stopTransmit b) :=
  (h.updLink Iff.rfl fun ⟨_, _, hc⟩ => ⟨Nat.zero_le _, by simp, fun hn => ⟨rfl, (hc hn).2⟩⟩).keep
    (KeepsService.refl _).transmit

/-- A drain in flight on a base that is lost fails, and the base is withdrawn (R142). -/
theorem baseLost {b : BaseNo} (h : KeepsLaws s t) : KeepsLaws s (t.baseLost b) := by
  refine (h.trans ⟨?_, fun hd => ?_⟩).ends (KeepsService.refl _).endsDrains.withdraw
  · exact (failDrain_work t b .baseLost).trans (loseLink_work _ b)
  · exact drainsActive_closed hd (loseLink_links _ b) rfl nofun

theorem retryAction {b : BaseNo} (h : KeepsLaws s t) : KeepsLaws s (t.retryAction b) := by
  unfold State.retryAction
  split
  · exact (h.keep (KeepsService.refl t).bumpBase).dropHead
  · exact h.baseLost

theorem deferHead {b : BaseNo} {x : Head} (h : KeepsLaws s t) (hx : t.links[b].head ≠ none) :
    KeepsLaws s (t.deferHead b x) := by
  have hk : KeepsLaws s (t.bumpBase b .defers) := h.keep (KeepsService.refl t).bumpBase
  unfold State.deferHead
  dsimp only
  split
  · exact hk.setHead hx
  · exact hk.retryAction

theorem expireHead {b : BaseNo} {x : Head} (h : KeepsLaws s t) (hx : t.links[b].head ≠ none) :
    KeepsLaws s (t.expireHead b x) := by
  have hk : KeepsLaws s (t.bumpBase b .defers) := h.keep (KeepsService.refl t).bumpBase
  unfold State.expireHead
  dsimp only
  split
  · exact (hk.setHead hx).transmitHead
  · exact hk.retryAction

theorem takeHello {b : BaseNo} {n : Nat} (h : KeepsLaws s t) : KeepsLaws s (t.takeHello b n) := by
  unfold State.takeHello
  split
  · next hs =>
    split
    · exact (h.updLink (by simp [hs]) fun ⟨hq, hh, _⟩ => ⟨hq, hh, nofun⟩).keep (KeepsService.refl _).send
    · exact h.stopTransmit
  · exact h.restartSilence
  · exact h.baseLost
  · exact h.baseLost
  · exact h.keep (KeepsService.refl t).bump

theorem takeReadyMessage {b : BaseNo} (h : KeepsLaws s t) : KeepsLaws s (t.takeReadyMessage b) := by
  unfold State.takeReadyMessage
  split
  · next hs =>
    exact (h.updLink (by simp [hs]) fun ⟨hq, hh, _⟩ => ⟨hq, hh, nofun⟩).keep (KeepsService.refl _).pendBase
  · exact h.keep (KeepsService.refl t).bump

theorem takeAccept {b : BaseNo} (h : KeepsLaws s t) : KeepsLaws s (t.takeAccept b) := by
  unfold State.takeAccept
  split
  · exact h.dropHead
  · exact h

theorem takeDefer {b : BaseNo} (h : KeepsLaws s t) : KeepsLaws s (t.takeDefer b) := by
  unfold State.takeDefer
  split
  · next e => exact h.deferHead (by rw [e]; simp)
  · exact h

theorem takeJoinTimer {b : BaseNo} (h : KeepsLaws s t) : KeepsLaws s (t.takeJoinTimer b) := by
  unfold State.takeJoinTimer State.emptyQueue
  split
  · next hs =>
    rw [updLink_updLink]
    exact h.updLink (by simp [hs.1]) fun _ => Link.ok_closed rfl rfl rfl rfl
  · exact h

theorem takeSilenceTimer {b : BaseNo} (h : KeepsLaws s t) : KeepsLaws s (t.takeSilenceTimer b) := by
  unfold State.takeSilenceTimer
  split
  · exact h.baseLost
  · exact h

theorem takeRetransmit {b : BaseNo} (h : KeepsLaws s t) : KeepsLaws s (t.takeRetransmit b) := by
  unfold State.takeRetransmit
  split
  · next e =>
    split
    · exact (h.setHead (by rw [e]; simp)).transmitHead
    · exact h
  · exact h

theorem takeAnswerTimeout {b : BaseNo} (h : KeepsLaws s t) : KeepsLaws s (t.takeAnswerTimeout b) := by
  unfold State.takeAnswerTimeout
  split
  · next e =>
    split
    · exact h.expireHead (by rw [e]; simp)
    · exact h
  · exact h

/-! ### The roster and the calls -/

theorem freeEntry {i : HandsetNo} {r : EndReason} (h : KeepsLaws s t) : KeepsLaws s (t.freeEntry i r) := by
  have hc : KeepsLaws s (t.endCallOf i r) := by
    unfold State.endCallOf
    split
    · exact h.endCall
    · exact h
  exact hc.keep (KeepsService.refl _).pageFreedNotice.updEntry.markHandset

theorem reattach {b : BaseNo} {x : HandsetNo} {i : Identity} (h : KeepsLaws s t) : KeepsLaws s (t.reattach b x i) := by
  have hc : KeepsLaws s (t.endCallOf x .reattach) := by
    unfold State.endCallOf
    split
    · exact h.endCall
    · exact h
  have hk : KeepsService (t.endCallOf x .reattach) (t.reattachEntry b x) := (KeepsService.refl _).locate.updEntry.renew
  unfold State.reattach
  split
  · next e => exact hc.keep (hk.append_eq e).bump
  · next e => exact hc.keep (hk.append_eq e).bump

theorem takeAttach {b : BaseNo} {i : Identity} (h : KeepsLaws s t) : KeepsLaws s (t.takeAttach b i) := by
  have hk := KeepsService.refl t
  unfold State.takeAttach
  split
  · exact h.reattach
  · split
    · exact h.keep hk.setAttaches
    · split
      · exact h.keep hk.answerAgain
      · exact h.keep hk.setAttaches

theorem takeDetach {i : HandsetNo} (h : KeepsLaws s t) : KeepsLaws s (t.takeDetach i) := by
  unfold State.takeDetach
  split
  · exact h.freeEntry.keep (KeepsService.refl _).bump
  · exact h.keep (KeepsService.refl t).bump

theorem takeLifetime {i : HandsetNo} (h : KeepsLaws s t) : KeepsLaws s (t.takeLifetime i) := by
  unfold State.takeLifetime
  split
  · exact h.freeEntry.keep (KeepsService.refl _).bump
  · exact h

theorem takeDeregister {i : SlotNo} {x : HandsetNo} (h : KeepsLaws s t) : KeepsLaws s (t.takeDeregister i x) := by
  unfold State.takeDeregister
  split
  · exact (h.keep (KeepsService.refl t).send).freeEntry.keep (KeepsService.refl _).bump.handBack
  · exact h.keep (KeepsService.refl t).handBack

theorem takeCallEnd {b : BaseNo} {k : ChanNo} (h : KeepsLaws s t) : KeepsLaws s (t.takeCallEnd b k) := by
  have hb : KeepsLaws s (t.bump .stale) := h.keep (KeepsService.refl t).bump
  unfold State.takeCallEnd
  split
  · split
    · exact h.endCall
    · exact h.endCall
    all_goals exact hb
  · exact hb

theorem targetDropped {c : CallNo} {r : Handover} (h : KeepsLaws s t) : KeepsLaws s (t.targetDropped c r) := by
  unfold State.targetDropped
  split
  · exact h.endCall
  · exact h.keep (KeepsService.refl t).attemptEnd

theorem reservedDropped {b : BaseNo} {k : ChanNo} {c : CallNo} {g : AttemptTag} (h : KeepsLaws s t) :
    KeepsLaws s (t.reservedDropped b k c g) := by
  have hb : KeepsLaws s (t.bump .stale) := h.keep (KeepsService.refl t).bump
  unfold State.reservedDropped
  split
  · split
    · split
      · exact h.targetDropped
      · exact h.keep (KeepsService.refl t).candidateFail
    · exact hb
  · exact hb

theorem takeChannelDropped {b : BaseNo} {k : ChanNo} (h : KeepsLaws s t) : KeepsLaws s (t.takeChannelDropped b k) := by
  have hb : KeepsLaws s (t.bump .stale) := h.keep (KeepsService.refl t).bump
  unfold State.takeChannelDropped
  split
  · split
    · exact h.endCall
    · exact h.keep (KeepsService.refl t).oldSideDropped
    · exact h.reservedDropped
    all_goals exact hb
  · exact hb

theorem takeClearCall {i : SlotNo} {c : CallNo} (h : KeepsLaws s t) : KeepsLaws s (t.takeClearCall i c) := by
  unfold State.takeClearCall
  split
  · exact h.endCall.keep (KeepsService.refl _).handBack
  · exact h.keep (KeepsService.refl t).handBack

/-! ### Drains -/

theorem drainComplete {b : BaseNo} {d : DrainRecord} {n : Nat} (h : KeepsLaws s t) :
    KeepsLaws s (t.drainComplete b d n) :=
  h.trans ⟨drainComplete_work t b d n, drainComplete_drainsIn⟩

theorem drainCheck {b : BaseNo} (h : KeepsLaws s t) : KeepsLaws s (t.drainCheck b) := by
  unfold State.drainCheck
  split
  · split
    · exact h.drainComplete
    · exact h
  · exact h

theorem setDrain {b : BaseNo} {d e : DrainRecord} (h : KeepsLaws s t) (hd : t.drains[b] = some d)
    (hp : e.phase = d.phase) : KeepsLaws s (t.setDrain b (some e)) :=
  h.trans ⟨setDrain_work t b _, fun hi => drainsIn_setDrain hi hd fun he => hp.trans he⟩

theorem callLeftNotice {b : BaseNo} (h : KeepsLaws s t) : KeepsLaws s (t.callLeftNotice b) := by
  unfold State.callLeftNotice
  split
  · next d hd =>
    split
    · exact (h.setDrain (e := { d with moved := satSucc d.moved }) hd rfl).drainCheck
    · exact h
  · exact h

theorem offerDrainMove {c : CallNo} (h : KeepsLaws s t) : KeepsLaws s (t.offerDrainMove c) := by
  unfold State.offerDrainMove
  split
  · split
    · exact h
    · split
      · next d hd =>
        exact (h.setDrain (e := { d with attempts := satSucc d.attempts }) hd rfl).keep
          (KeepsService.refl _).startHandover
      · exact h
  · exact h

theorem startDrain {i : SlotNo} {b : BaseNo} {n : Nat} (h : KeepsLaws s t) : KeepsLaws s (t.startDrain i b n) := by
  have hs : KeepsLaws s ((t.setDrain b (some (t.newDrain i n))).changeService b .draining) := by
    refine h.trans ⟨(setDrain_work t b _).trans (changeService_work (.inl rfl)), fun hd => ?_⟩
    exact drainsIn_set hd (changeService_links _ b _) rfl (by simp) (by rintro _ ⟨rfl⟩; rfl)
  exact ((hs.keep (KeepsService.refl _).drainStartNotice).foldl offerDrainMove _).drainCheck

theorem takeDrainBase {i : SlotNo} {b : BaseNo} {n : Nat} (h : KeepsLaws s t) : KeepsLaws s (t.takeDrainBase i b n) := by
  have hb : ∀ r, KeepsLaws s (t.handBack i r) := fun _ => h.keep (KeepsService.refl t).handBack
  unfold State.takeDrainBase
  split
  · exact hb _
  · exact h.startDrain
  all_goals exact hb _

/-- At its limit a base is cleared, and its drain then completes (R137). -/
theorem clearDrain {b : BaseNo} {d : DrainRecord} (h : KeepsLaws s t) (hd : t.drains[b] = some d) :
    KeepsLaws s (t.clearDrain b d) := by
  have hw : BlockWork t ((t.setDrain b (some { d with phase := .clearing })).endServed b .drained) :=
    (setDrain_work t b _).trans (KeepsService.refl _).endsDrains.endServed.toBlockWork
  have hi := fun hi : t.drainsActive => endServed_clearing hi hd
  unfold State.clearDrain
  dsimp only
  generalize (t.setDrain b (some { d with phase := .clearing })).endServed b .drained = w at hw hi ⊢
  split
  · refine h.trans ⟨hw.trans (drainComplete_work w b _ _), fun ha => ?_⟩
    exact drainsActive_of_clearing (drainComplete_drainsIn (hi ha)) (by rw [drainComplete_drains]; simp)
  · next e => exact h.trans ⟨hw, fun ha => drainsActive_of_clearing (hi ha) e⟩

theorem takeDrainLimit {b : BaseNo} (h : KeepsLaws s t) : KeepsLaws s (t.takeDrainLimit b) := by
  unfold State.takeDrainLimit
  split
  · next hd =>
    split
    · exact h.clearDrain hd
    · exact h
  · exact h

theorem takeStopBase {i : SlotNo} {b : BaseNo} (h : KeepsLaws s t) : KeepsLaws s (t.takeStopBase i b) := by
  refine (KeepsLaws.ends (h.trans ⟨?_, fun hd => ?_⟩) (KeepsService.refl _).endsDrains.withdraw).keep
    (KeepsService.refl _).handBack
  · exact (failDrain_work t b .stopped).trans (enterStopped_work _ b _)
  · exact drainsActive_closed hd (enterStopped_links _ b _) rfl nofun

theorem takeStartBase {i : SlotNo} {b : BaseNo} (h : KeepsLaws s t) : KeepsLaws s (t.takeStartBase i b) := by
  unfold State.takeStartBase
  split
  · next hs =>
    have hc : KeepsLaws t (t.changeService b .absent) :=
      ⟨changeService_work (.inr (by rw [hs]; rfl)), fun hd =>
        drainsIn_updLink (f := fun l => { l with service := .absent }) hd (by simp [hs])⟩
    exact (h.trans hc).keep (KeepsService.refl _).handBack
  · exact h.keep (KeepsService.refl t).handBack

theorem cancelDrain {i x : SlotNo} {b : BaseNo} {d : DrainRecord} (h : KeepsLaws s t) :
    KeepsLaws s (t.cancelDrain i x b d) := by
  have hc : KeepsLaws t ((t.changeService b .serving).setDrain b none) :=
    ⟨(changeService_work (.inl rfl)).trans (setDrain_work _ b none), fun hd =>
      drainsIn_set (l := { t.links[b] with service := .serving }) hd rfl rfl (by simp) nofun⟩
  exact (h.trans hc).keep ((endDrain_keeps _ b d _ _).trans (KeepsService.refl _).answerCancel)

/-! ### Handovers and level reports -/

theorem takeRefused {c : CallNo} {r : Handover} (h : KeepsLaws s t) : KeepsLaws s (t.takeRefused c r) := by
  unfold State.takeRefused
  split
  · exact h.keep (KeepsService.refl t).candidateFail
  · exact h.keep (KeepsService.refl t).candidateFail
  · exact h.targetDropped

theorem takeReserveAnswer {b : BaseNo} {j : ChanNo} {c : CallNo} {g : AttemptTag} {v : ReserveVerdict}
    (h : KeepsLaws s t) : KeepsLaws s (t.takeReserveAnswer b j c g v) := by
  have hk := KeepsService.refl t
  unfold State.takeReserveAnswer
  split
  · exact h.takeRefused
  · split
    · exact h.keep hk.takeReady
    · exact h.keep hk.bump
  · exact h.keep hk.staleRelease
  · exact h.keep hk.bump

theorem takeArrived {b : BaseNo} {j : ChanNo} {c : CallNo} {g : AttemptTag} (h : KeepsLaws s t) :
    KeepsLaws s (t.takeArrived b j c g) := by
  have hk := KeepsService.refl t
  unfold State.takeArrived
  split
  · split
    · unfold State.arrive
      dsimp only
      split
      · exact (h.keep hk.completeHandover).callLeftNotice
      · exact h.keep hk.completeHandover
    · exact h.keep hk.bump
  · exact h.keep hk.staleRelease

theorem takeArrivalTimer {c : CallNo} (h : KeepsLaws s t) : KeepsLaws s (t.takeArrivalTimer c) := by
  unfold State.takeArrivalTimer
  split
  · split
    · unfold State.noArrival
      split
      · exact h.endCall
      · exact h.keep (KeepsService.refl t).attemptEnd
    · exact h
  · exact h

theorem triggerStep {c : CallNo} {z : ZoneParams} (h : KeepsLaws s t) : KeepsLaws s (t.triggerStep c z) := by
  unfold State.triggerStep
  split
  · exact h.keep (KeepsService.refl t).decisionTrigger
  · exact h.offerDrainMove
  all_goals exact h

theorem handOff {c : CallNo} {e : Nat} (h : KeepsLaws s t) : KeepsLaws s (t.handOff c e) := by
  unfold State.handOff
  split
  · exact (h.keep (KeepsService.refl t).watchStep.leadStep).triggerStep
  · exact h

theorem takeLevelReport {b : BaseNo} {k : ChanNo} {l : LevelCode} {e : Nat} {p : List (ReportedBase × LevelCode)}
    (h : KeepsLaws s t) : KeepsLaws s (t.takeLevelReport b k l e p) := by
  have hr : ∀ c, KeepsLaws s (t.takeReport c b l e p) := fun c =>
    (h.keep (KeepsService.refl t).filterReport).handOff.keep (KeepsService.refl _).heard
  have hb : KeepsLaws s (t.bump .stale) := h.keep (KeepsService.refl t).bump
  unfold State.takeLevelReport
  split
  · split
    · exact hr _
    · exact hr _
    all_goals exact hb
  · exact hb

/-! ### Orders -/

theorem cancelKind {i x : SlotNo} {k : Byte} (h : KeepsLaws s t) : KeepsLaws s (t.cancelKind i x k) := by
  have hk := KeepsService.refl t
  have ha : ∀ v, KeepsLaws s (t.answerCancel i x v) := fun _ => h.keep hk.answerCancel
  unfold State.cancelKind
  split
  · split
    · exact h.keep hk.endPage.answerCancel
    · exact ha _
  · split
    · split
      · split
        · exact h.keep hk.cancelMove
        · exact ha _
      · exact ha _
    · split
      · split
        · split
          · exact h.cancelDrain
          · exact ha _
        · exact ha _
      · exact ha _

theorem takeCancel {i x : SlotNo} (h : KeepsLaws s t) : KeepsLaws s (t.takeCancel i x) := by
  have ha : ∀ v, KeepsLaws s (t.answerCancel i x v) := fun _ => h.keep (KeepsService.refl t).answerCancel
  unfold State.takeCancel
  split
  · split
    · exact h.cancelKind
    · exact ha _
  · exact ha _

/-- A plan record changes no service state, queue or timer of a link (R155). -/
theorem takePlanRecord {i : SlotNo} {r : PlanRecord} {w : BitVec 256} (h : KeepsLaws s t) :
    KeepsLaws s (t.takePlanRecord i r w) := by
  have hn : ∀ {v : State} {n : Nat}, KeepsLaws s v → KeepsLaws s ((v.noteClamps n).handBack i (plainResult (.done .ok) n)) := by
    intro v n hv
    unfold State.noteClamps
    split
    · exact hv.keep (KeepsService.refl v).pendDevice.handBack
    · exact hv.keep (KeepsService.refl v).handBack
  unfold State.takePlanRecord
  split
  · exact hn (h.keep ((KeepsService.refl t).same rfl rfl rfl rfl rfl))
  · next b =>
    split
    · exact h.keep (KeepsService.refl t).handBack
    · have hl : KeepsLaws s (t.updLink b fun l => { l with
          enabled := (baseOf w).enabled, zone := (baseOf w).zone, planCount := (baseOf w).count
          effCount := if linkActive l.service then l.effCount else (baseOf w).count }) :=
        h.updLink Iff.rfl id
      exact hn (hl.keep ((KeepsService.refl _).same rfl rfl rfl rfl rfl))

end KeepsLaws

end Sys2Proof.Machine
end

section
/-! SUPPORT. The laws of the links and the drains over every command (1.5, R13, R132). -/

namespace Sys2Proof.Machine

open Sys2Proof

variable {s t u : State}

/-! ### A command keeps both laws -/

/-- The law of the links and the law of the drains go over from a state to the next. -/
structure LawsGoOn (s t : State) : Prop where
  links  : s.linksOk → t.linksOk
  drains : s.drainsOk → t.drainsOk

namespace LawsGoOn

theorem refl (s : State) : LawsGoOn s s := ⟨id, id⟩

theorem trans (h : LawsGoOn s t) (k : LawsGoOn t u) : LawsGoOn s u := ⟨k.links ∘ h.links, k.drains ∘ h.drains⟩

/-- Work on other tables than these; the part may only become RUNNING. -/
theorem same (h : LawsGoOn s t) (hl : u.links = t.links) (hd : u.drains = t.drains)
    (hr : u.regs.part = .running ∨ u.regs.part = t.regs.part) : LawsGoOn s u := by
  refine h.trans ⟨(linksOk_of_links · hl), fun hk => ?_⟩
  rw [drainsOk_iff] at hk ⊢
  obtain ⟨ha, hn⟩ := hk
  refine ⟨drainsIn_of_same ha (fun b => by rw [State.service, hl]; rfl) hd, fun hp b => ?_⟩
  rw [State.service, hl]
  rcases hr with hr | hr
  · exact absurd hr hp
  · exact hn (hr ▸ hp) b

/-- An event of the running part that keeps the laws of its blocks. -/
theorem of_keepsLaws (h : KeepsLaws s t) (hs : t.regs.part = .running) : LawsGoOn s t := by
  refine ⟨h.linksOk, fun hk => ?_⟩
  rw [drainsOk_iff] at hk ⊢
  exact ⟨h.drains hk.1, fun hn => absurd hs hn⟩

/-- Cleared tables are in order, whatever went before. -/
theorem cleared (hl : t.links = State.reset.links) (hd : t.drains = State.reset.drains) : LawsGoOn s t := by
  have hs : ∀ b : BaseNo, t.links[b] = .start := fun b => by rw [hl]; exact getElem_replicate_fin _ b
  have hn : ∀ b : BaseNo, t.drains[b] = none := fun b => by rw [hd]; exact getElem_replicate_fin _ b
  have hv : ∀ b : BaseNo, t.service b ≠ .draining := fun b => by rw [State.service, hs]; decide
  refine ⟨fun _ b => by rw [hs]; exact Link.ok_start, fun _ => drainsOk_iff.mpr ⟨fun b => ⟨?_, ?_⟩, fun _ => hv⟩⟩
  · simp only [hn, hv, ne_eq, not_true_eq_false]
  · rw [hn]; exact nofun

theorem arbitrate (h : LawsGoOn s t) : LawsGoOn s t.arbitrate := by
  obtain ⟨hr, -, hl, -, -, -, -, -, -, -, hd, -⟩ := body_fields t.arbitrate_body
  exact h.same hl hd (.inr (by rw [hr]))

theorem beginStartup (s t : State) : LawsGoOn s t.beginStartup := by
  unfold State.beginStartup
  exact (cleared (by simp) (by simp)).arbitrate

theorem settle (h : LawsGoOn s t) : LawsGoOn s t.settle := by
  rcases settle_cases t with e | ⟨-, -, e⟩ <;> rw [e]
  · exact h.arbitrate
  · unfold State.endHalt
    dsimp only
    split
    · exact beginStartup s _
    · exact cleared rfl rfl

/-! ### The ways of taking a command -/

theorem whileServing {f : State → State} (hf : s.serves = true → LawsGoOn s (f s)) (e : s.whileServing f = .next t) :
    LawsGoOn s t := by
  cases hs : s.serves
  · rw [whileServing_off hs] at e
    cases e
    exact (refl s).settle
  · rw [whileServing_of hs] at e
    cases e
    exact (hf hs).settle

theorem part_of_serves (h : s.serves = true) : s.regs.part = .running := by
  rw [State.serves, Bool.and_eq_true] at h
  simpa using h.1

/-- An event of the blocks while the part serves. -/
theorem served (hk : KeepsLaws s t) (hr : t.still = s.still) (h : s.serves = true) : LawsGoOn s t :=
  of_keepsLaws hk (by rw [(still_fields hr).1]; exact part_of_serves h)

theorem event {f : State → State} (hk : KeepsLaws s (f s)) (hr : (f s).still = s.still)
    (e : s.whileServing f = .next t) : LawsGoOn s t := whileServing (served hk hr) e

theorem message {b : BaseNo} {f : State → State} (hk : ∀ {v}, KeepsLaws v (f v)) (hr : ∀ v, (f v).still = v.still)
    (e : s.messageFrom b f = .next t) : LawsGoOn s t := by
  refine event ?_ ?_ e
  · split
    · exact (KeepsLaws.refl s).restartSilence.trans hk
    · exact (KeepsLaws.refl s).keep (KeepsService.refl s).bump
  · split
    · rw [hr, State.restartSilence_still]
    · rfl

theorem answer {b : BaseNo} {f : State → State} (hk : ∀ {v}, KeepsLaws v (f v)) (hr : ∀ v, (f v).still = v.still)
    (e : s.answerFrom b f = .next t) : LawsGoOn s t := by
  refine event ?_ ?_ e
  · split
    · exact (KeepsLaws.refl s).restartSilence.trans hk
    · exact .refl s
  · split
    · rw [hr, State.restartSilence_still]
    · rfl

theorem scanOn (h : LawsGoOn s t) : LawsGoOn s t.scanOn := by
  unfold State.scanOn
  split
  · exact h
  · split
    · exact h.same rfl rfl (.inr rfl)
    · exact h.same rfl rfl (.inr rfl)

theorem order {i : SlotNo} {o : Order} {f : State → State} (hk : ∀ {v}, KeepsLaws v (f v))
    (hr : ∀ v, (f v).still = v.still) (e : s.takeOrder i o f = .next t) : LawsGoOn s t := by
  refine whileServing (fun h => ?_) e
  split
  · exact ((same (u := s.undispatched) (refl s) rfl rfl (.inr rfl)).trans (served hk (hr _) h)).scanOn
  · exact refl s

theorem completeAccess {n : Nat} (s : State) (data : BitVec n) : LawsGoOn s (s.completeAccess data) := by
  unfold State.completeAccess
  split
  · exact (refl s).same rfl rfl (.inr rfl)
  · exact refl s

theorem access {n : Nat} {data : BitVec n} {f : State → AccessKind → Option State}
    (hf : ∀ k v, s.accessing k → f (s.completeAccess data) k = some v → LawsGoOn (s.completeAccess data) v)
    (e : s.onAccess data f = .next t) : LawsGoOn s t := by
  rcases onAccess_cases s data f with h | ⟨k, v, hk, hv, h⟩ <;> rw [h] at e <;> cases e
  · exact refl s
  · exact ((completeAccess s data).trans (hf k v hk hv)).settle

/-- Work of the blocks on the completion of an access. -/
theorem service (hk : KeepsService s t) (hr : t.still = s.still) : LawsGoOn s t where
  links := hk.linksOk
  drains h := by
    rw [drainsOk_iff] at h ⊢
    obtain ⟨ha, hn⟩ := h
    refine ⟨drainsIn_of_same ha hk.service hk.drains, fun hp b => ?_⟩
    rw [hk.service]
    exact hn (by rwa [(still_fields hr).1] at hp) b

theorem ask (h : LawsGoOn s t) (l : List AccessKind) : LawsGoOn s (t.ask l) := h.same rfl rfl (.inr rfl)

theorem giveReport (h : LawsGoOn s t) (r : Option (CallNo × Bool)) : LawsGoOn s (t.giveReport r) := by
  unfold State.giveReport
  split
  · unfold State.writeReport
    split
    · exact h.same rfl rfl (.inr rfl)
    · exact h
  · exact h

theorem setJob (h : LawsGoOn s t) (j : Option AcuJob) : LawsGoOn s (t.setJob j) := h.same rfl rfl (.inr rfl)

theorem bitsSet (h : LawsGoOn s t) (r : Option (CallNo × Bool)) : LawsGoOn s (t.bitsSet r) :=
  ((h.same (u := t.setPending) rfl rfl (.inr rfl)).setJob none).giveReport r

theorem faultWith (s t : State) (f : FaultCode) : LawsGoOn s (t.faultWith f) := cleared rfl rfl

end LawsGoOn

/-! ### The frame mark's work -/

namespace KeepsLaws

theorem dueLinks (h : KeepsLaws s t) : KeepsLaws s t.dueLinks :=
  (((h.foldl takeJoinTimer _).foldl takeSilenceTimer _).foldl takeRetransmit _).foldl takeAnswerTimeout _

theorem dueRoster (h : KeepsLaws s t) : KeepsLaws s t.dueRoster :=
  (h.foldl takeLifetime _).foldl (fun k => k.keep (KeepsService.refl _).takeRoundTimer) _

theorem dueCalls (h : KeepsLaws s t) : KeepsLaws s t.dueCalls :=
  (((h.foldl (fun k => k.keep (KeepsService.refl _).takeReserveTimer) _).foldl takeArrivalTimer _).foldl
    (fun k => k.keep (KeepsService.refl _).takeSettleTimer) _).foldl
    (fun k => k.keep (KeepsService.refl _).takeHoldTimer) _

theorem dueBatch (h : KeepsLaws s t) : KeepsLaws s t.dueBatch :=
  (h.keep (KeepsService.refl t).deliverBatch).foldl takeDrainLimit _

theorem fromServing {b : BaseNo} {f : State → State} (h : KeepsLaws t (f t)) : KeepsLaws t (t.fromServing b f) := by
  unfold State.fromServing
  split
  · exact (refl t).keep (KeepsService.refl t).bump
  · exact h

end KeepsLaws

@[simp] theorem State.dueLinks_still (s : State) : s.dueLinks.still = s.still := by
  unfold State.dueLinks
  rw [foldl_still fun t b => t.takeAnswerTimeout_still b, foldl_still fun t b => t.takeRetransmit_still b,
    foldl_still fun t b => t.takeSilenceTimer_still b, foldl_still fun t b => t.takeJoinTimer_still b]

@[simp] theorem State.dueRoster_still (s : State) : s.dueRoster.still = s.still := by
  unfold State.dueRoster
  rw [foldl_still fun t h => t.takeRoundTimer_still h, foldl_still fun t h => t.takeLifetime_still h]

@[simp] theorem State.dueCalls_still (s : State) : s.dueCalls.still = s.still := by
  unfold State.dueCalls
  rw [foldl_still fun t c => t.takeHoldTimer_still c, foldl_still fun t c => t.takeSettleTimer_still c,
    foldl_still fun t c => t.takeArrivalTimer_still c, foldl_still fun t c => t.takeReserveTimer_still c]

@[simp] theorem State.dueBatch_still (s : State) : s.dueBatch.still = s.still := by
  unfold State.dueBatch
  rw [foldl_still fun t b => t.takeDrainLimit_still b, State.deliverBatch_still]

@[simp] theorem State.dueWork_still (s : State) : s.dueWork.still = s.still := by
  simp [State.dueWork]

/-- The intake asks for a count, or does nothing: no link or drain changes (R151). -/
theorem takeIntake_tables (s : State) :
    s.takeIntake.links = s.links ∧ s.takeIntake.drains = s.drains ∧ s.takeIntake.regs = s.regs := by
  unfold State.takeIntake
  split
  · dsimp only
    split <;> exact ⟨rfl, rfl, rfl⟩
  · exact ⟨rfl, rfl, rfl⟩

namespace LawsGoOn

theorem takeIntake (h : LawsGoOn s t) : LawsGoOn s t.takeIntake := by
  obtain ⟨hl, hd, hr⟩ := takeIntake_tables t
  exact h.same hl hd (.inr (by rw [hr]))

theorem dueWork (h : s.serves = true) : LawsGoOn s s.dueWork :=
  (served (KeepsLaws.refl s).dueLinks.dueRoster.dueCalls.dueBatch (by simp) h).takeIntake

/-- The halt's first step keeps the laws: every link sent a STOP keeps its service state (R161). -/
theorem beginHalt (hp : s.regs.part = .running) : LawsGoOn s s.beginHalt := by
  have hw : LawsGoOn s s.withdrawRequests := (refl s).same rfl rfl (.inr rfl)
  have hk : KeepsLaws s.withdrawRequests s.beginHalt :=
    ((KeepsLaws.refl _).foldl KeepsLaws.stopTransmit _).foldl (fun k => k.keep (KeepsService.refl _).handBack) _
  have hs : s.beginHalt.still = s.withdrawRequests.still := by
    unfold State.beginHalt State.haltAnswers State.stopAll
    rw [foldl_still fun t e => t.handBack_still _ _, foldl_still fun t b => t.stopTransmit_still b]
  exact hw.trans (of_keepsLaws hk (by rw [(still_fields hs).1]; exact hp))

theorem writeRun0 (s : State) (v : Bool) : LawsGoOn s (s.writeRun0 v) := by
  have hc : LawsGoOn s (s.clearRun v) := (refl s).same rfl rfl (.inr rfl)
  unfold State.writeRun0
  dsimp only
  split
  · exact hc
  · exact cleared rfl rfl
  · next hp =>
    split
    · exact hc
    · exact hc.trans (beginHalt hp)
  · next hp =>
    refine (refl s).trans ⟨hc.links, fun h => ?_⟩
    obtain ⟨ha, hn⟩ := drainsOk_iff.mp h
    exact drainsOk_iff.mpr ⟨ha, fun _ => hn (by rw [hp]; decide)⟩

theorem writeRun1 (s : State) (v : Bool) : LawsGoOn s (s.writeRun1 v) := by
  unfold State.writeRun1
  dsimp only
  split
  · exact beginStartup s _
  · exact (refl s).same rfl rfl (.inr rfl)

theorem writeWindow (s : State) (o : Nat) (v : BitVec 32) : LawsGoOn s (s.writeWindow o v) := by
  unfold State.writeWindow
  split
  · unfold State.writeControl
    split
    · exact cleared rfl rfl
    · split
      · exact (writeRun1 s _).settle
      · exact (writeRun0 s _).settle
  · unfold State.writeXbase
    split
    · exact (refl s).same rfl rfl (.inr rfl)
    · exact refl s
  · split
    · exact (refl s).same rfl rfl (.inr rfl)
    · exact refl s
  · exact refl s

end LawsGoOn

end Sys2Proof.Machine
end

section
/-! SUPPORT. Every command keeps the laws of the links and the drains (O57). -/

namespace Sys2Proof.Machine

open Sys2Proof

variable {s t u : State}

/-! ### Completions of accesses -/

@[simp] theorem noteClamps_regs (s : State) (n : Nat) : (s.noteClamps n).regs = s.regs := by
  unfold State.noteClamps
  split <;> rfl

theorem handBack_regs (s : State) (i : SlotNo) (r : OrderResult) : (s.handBack i r).regs = s.regs :=
  (still_fields (s.handBack_still i r)).1

/-- A plan record that has been read changes no register (R155). -/
theorem takePlanRecord_regs (s : State) (i : SlotNo) (r : PlanRecord) (w : BitVec 256) :
    (s.takePlanRecord i r w).regs = s.regs := by
  unfold State.takePlanRecord
  split
  · rw [handBack_regs, noteClamps_regs]
    rfl
  · split
    · rw [handBack_regs]
    · rw [handBack_regs, noteClamps_regs]
      rfl

namespace LawsGoOn

theorem advanceFrame (h : LawsGoOn s t) : LawsGoOn s t.advanceFrame := h.same rfl rfl (.inr rfl)

theorem updPlan (h : LawsGoOn s t) (f : Plan → Plan) : LawsGoOn s (t.updPlan f) := h.same rfl rfl (.inr rfl)

theorem noteStartClamps (h : LawsGoOn s t) (n : Nat) : LawsGoOn s (t.noteStartClamps n) := h.updPlan _

theorem updAcu (h : LawsGoOn s t) (f : Acu → Acu) : LawsGoOn s (t.updAcu f) := h.same rfl rfl (.inr rfl)

theorem updOru (h : LawsGoOn s t) (f : Oru → Oru) : LawsGoOn s (t.updOru f) := h.same rfl rfl (.inr rfl)

theorem takeSlot (s : State) (i : SlotNo) (w : BitVec 512) : LawsGoOn s (s.takeSlot i w) := by
  unfold State.takeSlot
  dsimp only
  split
  · exact (refl s).same rfl rfl (.inr rfl)
  · exact (((refl s).updOru _).trans (service (KeepsService.refl _).handBack (by simp))).scanOn

theorem takePostedCount (s : State) (v : BitVec 32) : LawsGoOn s (s.takePostedCount v) := by
  unfold State.takePostedCount
  split
  · exact refl s
  · dsimp only
    split <;> exact (refl s).same rfl rfl (.inr rfl)

theorem takeOwnerByte (s : State) (i : SlotNo) (v : Byte) : LawsGoOn s (s.takeOwnerByte i v) := by
  unfold State.takeOwnerByte
  split
  · exact (refl s).ask _
  · exact (refl s).scanOn

theorem takePlanRecord {i : SlotNo} {r : PlanRecord} {w : BitVec 256} (h : s.serves = true) :
    LawsGoOn s (s.takePlanRecord i r w) := by
  refine of_keepsLaws (KeepsLaws.refl s).takePlanRecord ?_
  rw [takePlanRecord_regs]
  exact part_of_serves h

theorem recordWritten (s : State) (r : RecordRef) (v : Byte) (e : Bool) : LawsGoOn s (s.recordWritten r v e) := by
  unfold State.recordWritten
  split
  · exact ((refl s).setJob none).giveReport _
  · exact (refl s).setJob _

theorem counterWritten (s : State) : LawsGoOn s s.counterWritten := by
  unfold State.counterWritten
  split
  · split
    · exact (refl s).same rfl rfl (.inr rfl)
    · exact ((refl s).updAcu _).trans (service (KeepsService.refl _).handBack (by simp))
  · exact refl s

theorem byteRead (s : State) (v : Byte) : LawsGoOn s (s.byteRead v) := by
  unfold State.byteRead
  split
  · exact (refl s).setJob _
  · exact refl s

theorem byteWritten (s : State) : LawsGoOn s s.byteWritten := by
  unfold State.byteWritten
  split
  · split
    · exact (refl s).bitsSet _
    · exact (refl s).setJob _
  · exact refl s

theorem summaryRead (s : State) (v : Byte) : LawsGoOn s (s.summaryRead v) := by
  unfold State.summaryRead
  split
  · exact (refl s).setJob _
  · exact refl s

theorem summaryWritten (s : State) : LawsGoOn s s.summaryWritten := by
  unfold State.summaryWritten
  split
  · exact (refl s).bitsSet _
  · exact refl s

end LawsGoOn

namespace KeepsService

/-- AMEND PLAN asks for its record (R155). -/
theorem askPlan {l : List AccessKind} (h : KeepsService s t) : KeepsService s (t.ask l) :=
  h.trans ⟨⟨id, ⟨_, rfl⟩, ⟨rfl, rfl⟩, fun _ => id⟩, fun _ => rfl, fun _ _ => rfl, rfl, fun _ => rfl⟩

/-- A SNAPSHOT joins the others (R159). -/
theorem joinSnapshots {l : Acu → List Snapshot} (h : KeepsService s t) :
    KeepsService s (t.updAcu fun a => { a with snapshots := l a }) := h.same rfl rfl rfl rfl rfl

end KeepsService

/-! ### A base record is loaded only in STARTING (R160) -/

/-- While a base record of start-up is read the part is STARTING. -/
theorem starting_of_startBase {b : BaseNo} (h : s.startOk) (hk : s.accessing (.startBase b)) :
    s.regs.part = .starting := by
  obtain ⟨-, hsteps, -⟩ := h
  have hk' : s.accessKind = some (.startBase b) := hk
  have hu : startsUp (s.regs.part == .starting) (.startBase b) = true := rfl
  by_contra hp
  rw [if_neg hp, State.startSteps, hk', Option.toList_some, List.singleton_append, List.filter_cons_of_pos hu,
    List.length_cons] at hsteps
  omega

/-- The link record that a base record of start-up gives (R1, R160). -/
def loadedLink (r : BaseRecord) : Link where
  service := if r.enabled then .absent else .stopped
  enabled := r.enabled
  zone := r.zone
  planCount := r.count
  effCount := r.count
  joinTimer := none
  silenceTimer := none
  queue := []
  head := none

theorem loadBase_links (s : State) (b : BaseNo) (r : BaseRecord) :
    (s.loadBase b r).links = s.links.set b (loadedLink r) := rfl

theorem loadedLink_service (r : BaseRecord) : (loadedLink r).service ≠ .draining := by
  show (if r.enabled then Service.absent else Service.stopped) ≠ .draining
  cases r.enabled <;> decide

/-- The laws go over the load of a base record where no link is DRAINING. -/
theorem loadBase_laws {b : BaseNo} {r : BaseRecord} (hl : t.links = s.links.set b (loadedLink r))
    (hd : t.drains = s.drains) :
    (s.linksOk → t.linksOk) ∧ (s.regs.part ≠ .running → s.drainsOk → t.drainsOk) := by
  refine ⟨fun h => linksOk_set h (Link.ok_closed rfl rfl rfl rfl) hl, fun hp h => ?_⟩
  obtain ⟨ha, hn⟩ := drainsOk_iff.mp h
  have hv : ∀ x, t.service x ≠ .draining := fun x => by
    rw [State.service, hl, getElem_set_fin]
    split
    · exact loadedLink_service r
    · exact hn hp x
  refine drainsOk_iff.mpr ⟨fun x => ?_, fun _ => hv⟩
  rw [hd]
  exact ⟨by simpa [hn hp x, hv x] using (ha x).1, (ha x).2⟩

/-- What follows the record of a base at start-up (R160 steps 3 and 4). -/
def State.afterBase (s : State) (b : BaseNo) : State :=
  if h : b.val + 1 < 48 then s.ask [.startBase ⟨b.val + 1, h⟩] else s.startTables

/-- The part with the record of a base loaded (R160 step 3). -/
def State.startBaseLoaded (s : State) (b : BaseNo) (w : BitVec 256) : State :=
  (s.loadBase b (baseOf w)).noteStartClamps (baseClamps w)

theorem exec_startBase_read {w : BitVec 256} {b : BaseNo} (hk : s.accessing (.startBase b)) :
    exec (.startupPlanReadDone w) s = .next (((s.completeAccess w).startBaseLoaded b w).afterBase b).settle := by
  rw [exec_startupPlanReadDone, execStartupPlanReadDone]
  refine onAccess_of hk ?_
  dsimp only
  unfold State.afterBase finOf State.startBaseLoaded
  by_cases h : b.val + 1 < 48
  · rw [dif_pos h, dif_pos h]
  · rw [dif_neg h, dif_neg h]

/-- What follows the record of a base touches no link, drain or register. -/
theorem afterBase_tables (s : State) (b : BaseNo) :
    (s.afterBase b).links = s.links ∧ (s.afterBase b).drains = s.drains := by
  unfold State.afterBase
  split <;> exact ⟨rfl, rfl⟩

/-- The record of a base read at start-up: the part is STARTING then, and no link DRAINING (R132, R160). -/
theorem startBase_laws {b : BaseNo} {w : BitVec 256} (hk : s.accessing (.startBase b))
    (e : exec (.startupPlanReadDone w) s = .next t) :
    (s.linksOk → t.linksOk) ∧ (s.startOk → s.drainsOk → t.drainsOk) := by
  have hc : LawsGoOn s (s.completeAccess w) := .completeAccess s w
  have hv := (LawsGoOn.refl (((s.completeAccess w).startBaseLoaded b w).afterBase b)).settle
  obtain ⟨hl, hd⟩ := afterBase_tables ((s.completeAccess w).startBaseLoaded b w) b
  obtain ⟨hlinks, hdrains⟩ := loadBase_laws (hl.trans (loadBase_links (s.completeAccess w) b (baseOf w))) hd
  rw [exec_startBase_read hk] at e
  cases e
  refine ⟨fun h => hv.links (hlinks (hc.links h)), fun hs h => hv.drains (hdrains ?_ (hc.drains h))⟩
  rw [(completeAccess_fields s w).1, starting_of_startBase hs hk]
  decide

/-- Any other record read at start-up changes the plan copies and asks for the next (R160). -/
theorem startupPlanRead_lawsGoOn {w : BitVec 256} (hb : ¬∃ b, s.accessing (.startBase b))
    (e : exec (.startupPlanReadDone w) s = .next t) : LawsGoOn s t := by
  rw [exec_startupPlanReadDone] at e
  refine .access (fun k v hk hv => ?_) e
  split at hv <;> cases hv
  · exact (((LawsGoOn.refl _).updPlan fun p => { p with header := headerOf w }).noteStartClamps _).ask _
  · next z =>
    exact (((LawsGoOn.refl _).updPlan fun p => { p with zones := p.zones.set z (zoneOf w) }).noteStartClamps _).ask _
  · exact absurd ⟨_, hk⟩ hb

/-! ### Every command -/

/-- Every command but the read of a plan record at start-up keeps both laws. -/
theorem exec_lawsGoOn {c : Instr} (hc : ∀ w, c ≠ .startupPlanReadDone w) (e : exec c s = .next t) : LawsGoOn s t := by
  have hk := KeepsService.refl s
  cases c with dsimp only [exec] at e
  | hello b a n =>
    refine .event ?_ ?_ e
    · split
      · exact hk.bump.keepsLaws
      · exact (KeepsLaws.refl s).takeHello
    · split <;> simp
  | ready b => exact .message (KeepsLaws.refl _).takeReadyMessage (by simp) e
  | beacon b => exact .message (KeepsLaws.refl _) (fun _ => rfl) e
  | malformedMessage b => exact .event hk.bump.keepsLaws rfl e
  | accept b => exact .answer (KeepsLaws.refl _).takeAccept (by simp) e
  | defer b => exact .answer (KeepsLaws.refl _).takeDefer (by simp) e
  | attach b i => exact .message (.fromServing (KeepsLaws.refl _).takeAttach) (by simp) e
  | refresh b h v => exact .message (.fromServing (KeepsService.refl _).takeRefresh.keepsLaws) (by simp) e
  | detach b h => exact .message (.fromServing (KeepsLaws.refl _).takeDetach) (by simp) e
  | callRequest b h p => exact .message (.fromServing (KeepsService.refl _).takeCallRequest.keepsLaws) (by simp) e
  | callEnd b k => exact .message (KeepsLaws.refl _).takeCallEnd (by simp) e
  | channelDropped b k => exact .message (KeepsLaws.refl _).takeChannelDropped (by simp) e
  | levelReport b k l n p =>
    change execLevelReport b k l n p s = .next t at e
    unfold execLevelReport at e
    split at e
    · exact .message (KeepsLaws.refl _).takeLevelReport (by simp) e
    · exact .event hk.bump.keepsLaws rfl e
  | reserveAnswer b j c g v r => exact .message (KeepsLaws.refl _).takeReserveAnswer (by simp) e
  | arrived b j c g => exact .message (KeepsLaws.refl _).takeArrived (by simp) e
  | pageAnswer b h => exact .message (.fromServing (KeepsService.refl _).pageAnswered.keepsLaws) (by simp) e
  | frameMark =>
    refine .whileServing (f := fun v => v.dueWork.advanceFrame) (fun h => ?_) e
    exact (LawsGoOn.dueWork h).advanceFrame
  | joinTimerExpiry b => exact .event (KeepsLaws.refl s).takeJoinTimer (s.takeJoinTimer_still b) e
  | silenceTimerExpiry b => exact .event (KeepsLaws.refl s).takeSilenceTimer (s.takeSilenceTimer_still b) e
  | headRetransmit b => exact .event (KeepsLaws.refl s).takeRetransmit (s.takeRetransmit_still b) e
  | headAnswerTimeout b => exact .event (KeepsLaws.refl s).takeAnswerTimeout (s.takeAnswerTimeout_still b) e
  | lifetimeExpiry h => exact .event (KeepsLaws.refl s).takeLifetime (s.takeLifetime_still h) e
  | roundTimerExpiry h => exact .event hk.takeRoundTimer.keepsLaws (s.takeRoundTimer_still h) e
  | reserveTimerExpiry c => exact .event hk.takeReserveTimer.keepsLaws (s.takeReserveTimer_still c) e
  | arrivalTimerExpiry c => exact .event (KeepsLaws.refl s).takeArrivalTimer (s.takeArrivalTimer_still c) e
  | settleTimerExpiry c => exact .event hk.takeSettleTimer.keepsLaws (s.takeSettleTimer_still c) e
  | holdTimerExpiry c => exact .event hk.takeHoldTimer.keepsLaws (s.takeHoldTimer_still c) e
  | switchBatchDelivery => exact .event hk.deliverBatch.keepsLaws s.deliverBatch_still e
  | drainLimitExpiry b => exact .event (KeepsLaws.refl s).takeDrainLimit (s.takeDrainLimit_still b) e
  | orderIntake => exact .whileServing (fun _ => (LawsGoOn.refl s).takeIntake) e
  | accessTimeout | busError =>
    cases e
    split
    · exact .faultWith s s _
    · exact .refl s
  | subscriptionCountReadDone n =>
    refine .access (fun k v _ hv => ?_) e
    split at hv <;> cases hv
    split
    · exact .service (KeepsService.refl _).takeSubCount (by simp)
    · exact .refl _
  | subscriptionEntryReadDone w =>
    refine .access (fun k v _ hv => ?_) e
    split at hv <;> cases hv
    split
    · exact .service (KeepsService.refl _).takeSubEntry (by simp)
    · exact .refl _
  | postedCountReadDone n =>
    refine .access (fun k v _ hv => ?_) e
    split at hv <;> cases hv
    split
    · exact .takePostedCount _ _
    · split
      · exact ((LawsGoOn.refl _).updOru _).ask _
      · exact .refl _
  | ownerByteReadDone v =>
    refine .access (fun k v _ hv => ?_) e
    split at hv <;> cases hv
    split
    · exact .takeOwnerByte _ _ _
    · exact .refl _
  | slotReadDone w =>
    refine .access (fun k v _ hv => ?_) e
    split at hv <;> cases hv
    split
    · exact .takeSlot _ _ _
    · exact .refl _
  | takenWriteDone | resultWriteDone =>
    refine .access (fun k v _ hv => ?_) e
    split at hv <;> cases hv
    exact .refl _
  | answeredWriteDone =>
    refine .access (fun k v _ hv => ?_) e
    split at hv <;> cases hv
    exact (LawsGoOn.refl _).same rfl rfl (.inr rfl)
  | planRecordReadDone w =>
    refine .access (fun k v _ hv => ?_) e
    split at hv <;> cases hv
    split
    · next h => exact .takePlanRecord h
    · exact .refl _
  | recordWriteDone =>
    refine .access (fun k v _ hv => ?_) e
    split at hv <;> cases hv
    split
    · exact .recordWritten _ _ _ _
    · exact .refl _
  | attentionByteAccessDone v =>
    refine .access (fun k v _ hv => ?_) e
    split at hv <;> cases hv
    · exact .byteRead _ _
    · exact .byteWritten _
  | summaryByteAccessDone v =>
    refine .access (fun k v _ hv => ?_) e
    split at hv <;> cases hv
    · exact .summaryRead _ _
    · exact .summaryWritten _
  | counterWriteDone =>
    refine .access (fun k v _ hv => ?_) e
    split at hv <;> cases hv
    exact .counterWritten _
  | startupHeaderReadDone n =>
    refine .access (fun k v _ hv => ?_) e
    split at hv <;> cases hv
    split
    · exact (LawsGoOn.refl _).ask _
    · exact .faultWith _ _ _
  | startupPlanReadDone w => exact absurd rfl (hc w)
  | startupZeroWriteDone =>
    refine .access (fun k v _ hv => ?_) e
    split at hv <;> cases hv
    split
    · exact (LawsGoOn.refl _).setJob _
    · exact ((LawsGoOn.refl _).setJob _).ask _
  | startupSlotScanReadDone v =>
    refine .access (fun k v _ hv => ?_) e
    split at hv <;> cases hv
    exact (LawsGoOn.refl _).ask _
  | startCountAccessDone n =>
    refine .access (fun k v _ hv => ?_) e
    split at hv <;> cases hv
    · exact (LawsGoOn.refl _).ask _
    · exact (LawsGoOn.refl _).same rfl rfl (.inl rfl)
  | runSet v => cases e; exact (LawsGoOn.writeRun1 s v).settle
  | runClear v => cases e; exact (LawsGoOn.writeRun0 s v).settle
  | restart | resetPin => cases e; exact .cleared rfl rfl
  | xbaseWrite v =>
    cases e
    unfold State.writeXbase
    split
    · exact (LawsGoOn.refl s).same rfl rfl (.inr rfl)
    · exact .refl s
  | attnClear => cases e; exact (LawsGoOn.refl s).same rfl rfl (.inr rfl)
  | registerWrite o v =>
    change execRegisterWrite o v s = .next t at e
    unfold execRegisterWrite at e
    split at e <;> cases e
    exact .writeWindow s o v
  | deregister i h => exact .order (KeepsLaws.refl _).takeDeregister (by simp) e
  | page i h => exact .order (KeepsService.refl _).takePage.keepsLaws (by simp) e
  | cancel i x => exact .order (KeepsLaws.refl _).takeCancel (by simp) e
  | clearCall i c => exact .order (KeepsLaws.refl _).takeClearCall (by simp) e
  | forceMove i c b => exact .order (KeepsService.refl _).takeForceMove.keepsLaws (by simp) e
  | drainBase i b n => exact .order (KeepsLaws.refl _).takeDrainBase (by simp) e
  | stopBase i b => exact .order (KeepsLaws.refl _).takeStopBase (by simp) e
  | startBase i b => exact .order (KeepsLaws.refl _).takeStartBase (by simp) e
  | blockChannel i b k => exact .order (KeepsService.refl _).takeBlockChannel.keepsLaws (by simp) e
  | unblockChannel i b k => exact .order (KeepsService.refl _).takeUnblockChannel.keepsLaws (by simp) e
  | amendPlan i r => exact .order (KeepsService.refl _).askPlan.keepsLaws (by simp) e
  | snapshot i v => exact .order (KeepsService.refl _).joinSnapshots.keepsLaws (fun v => v.updAcu_still _) e

/-- Settles O57: by the ways of taking a command, from what each block's event keeps. -/
theorem commandsKeepLinksInOrder : Obligations.CommandsKeepLinksInOrder := by
  have key : ∀ (c : Instr) (s t : State), exec c s = .next t →
      (s.linksOk → t.linksOk) ∧ (s.startOk → s.drainsOk → t.drainsOk) := by
    intro c s t e
    have other : LawsGoOn s t → (s.linksOk → t.linksOk) ∧ (s.startOk → s.drainsOk → t.drainsOk) :=
      fun h => ⟨h.links, fun _ => h.drains⟩
    by_cases hc : ∃ w, c = .startupPlanReadDone w
    · obtain ⟨w, rfl⟩ := hc
      by_cases hb : ∃ b, s.accessing (.startBase b)
      · obtain ⟨b, hk⟩ := hb
        exact startBase_laws hk e
      · exact other (startupPlanRead_lawsGoOn hb e)
    · exact other (exec_lawsGoOn (fun w hw => hc ⟨w, hw⟩) e)
  exact ⟨fun c s t h e => (key c s t e).1 h, fun c s t hs h e => (key c s t e).2 hs h⟩

end Sys2Proof.Machine
end

section
/-! SUPPORT. The obligations of the base links (Chapter 1): O4 to O9. -/

namespace Sys2Proof.Machine

open Sys2Proof

variable {s : State} {b : BaseNo}

/-! ### Appends (R13, R14) -/

theorem append_to_empty {m : Downlink} (ha : linkActive (s.service b) = true) (hq : s.links[b].queue = []) :
    s.append b m =
      ((s.updLink b fun l => { l with queue := [m], head := some s.freshHead }).transmit b (stampMessage s.now m),
        true) := by
  rw [append_of_taken (appendTaken_iff.mpr ⟨ha, by rw [hq]; decide⟩), enqueue_of_nil hq]

theorem append_to_nonempty {m : Downlink} (ha : linkActive (s.service b) = true) (hq : s.links[b].queue ≠ [])
    (hl : s.links[b].queue.length < 16) :
    s.append b m = (s.updLink b fun l => { l with queue := l.queue ++ [m] }, true) := by
  rw [append_of_taken (appendTaken_iff.mpr ⟨ha, hl⟩), enqueue_of_ne_nil hq]

theorem append_not_taken {m : Downlink} (h : linkActive (s.service b) = false ∨ 16 ≤ s.links[b].queue.length) :
    s.append b m = (s.bumpBase b .discards, false) := by
  refine append_of_refused (Bool.eq_false_iff.mpr fun hn => ?_)
  obtain ⟨ha, hl⟩ := appendTaken_iff.mp hn
  rcases h with h | h
  · exact Bool.false_ne_true (h.symm.trans ha)
  · omega

/-- Only a SETUP is stamped (R14). -/
theorem stampMessage_of_ne_setup {m : Downlink} (now : FrameCount) (h : ∀ z n f, m ≠ .setup z n f) :
    stampMessage now m = m := by
  cases m
  case setup z n f => exact absurd rfl (h z n f)
  all_goals rfl

/-- Settles O6: from the equations of an append to an empty, a partly filled and a closed or full queue. -/
theorem appendTakenOrRefused : Obligations.AppendTakenOrRefused := by
  refine ⟨rfl, fun now m => ⟨?_, stampMessage_of_ne_setup now⟩, fun s b m f => ⟨rfl, rfl, rfl, rfl, appendTaken_iff⟩,
    fun s b m => ⟨append_to_empty, append_to_nonempty, append_not_taken⟩⟩
  rintro z n f rfl
  rfl

/-! ### The service state of a link -/

theorem linkActive_of_service {v : Service} (h : s.service b = v) (hv : linkActive v = true) :
    linkActive (s.service b) = true := h ▸ hv

theorem linkActive_inService (h : s.service b = .serving ∨ s.service b = .draining) :
    linkActive (s.service b) = true := by
  rcases h with h | h <;> rw [h] <;> rfl

theorem linkActive_closed (h : s.service b = .absent ∨ s.service b = .stopped) : linkActive (s.service b) = false := by
  rcases h with h | h <;> rw [h] <;> rfl

/-! ### HELLO (R8) -/

theorem exec_hello_of_malformed {announced : ReportedBase} {capacity : Nat} (hs : s.serves = true)
    (h : 8 < capacity ∨ announced.val ≠ b.val) :
    exec (.hello b announced capacity) s = .next (s.bump .malformed).settle := by
  rw [exec_hello, whileServing_of hs, if_pos h]

theorem exec_hello_of_named {announced : ReportedBase} {capacity : Nat} (hs : s.serves = true) (hc : capacity ≤ 8)
    (ha : announced.val = b.val) : exec (.hello b announced capacity) s = .next (s.takeHello b capacity).settle := by
  rw [exec_hello, whileServing_of hs, if_neg (by omega)]

/-- A base that joins an empty link is sent its SETUP at once (R8, R13). -/
theorem joinLink_of_nil {capacity : Nat} (hq : s.links[b].queue = []) :
    s.joinLink b capacity =
      (s.updLink b fun l => { l with
          service := .joining
          effCount := min l.planCount capacity
          joinTimer := some (s.after s.plan.header.joinLimit)
          silenceTimer := some (s.after s.plan.header.silenceLimit)
          queue := [.setup l.zone (min l.planCount capacity) 0]
          head := some s.freshHead }).transmit b
        (.setup s.links[b].zone (min s.links[b].planCount capacity) (s.now.setWidth 16)) := by
  unfold State.joinLink State.send
  dsimp only
  rw [append_to_empty (by rw [State.service, updLink_self]; rfl) (by rw [updLink_self]; exact hq), updLink_updLink]
  rfl

/-- Settles O4: HELLO by the service state of its link. -/
theorem helloActsByServiceState : Obligations.HelloActsByServiceState := by
  refine fun b announced capacity s hs hc => ⟨fun hne => exec_hello_of_malformed hs (.inr hne), fun ha => ?_⟩
  rw [exec_hello_of_named hs hc ha]
  refine ⟨fun hv he h1 hq => ?_, fun hv hr => ?_, fun hv => ?_, fun hv => ?_, fun hv => ?_⟩
  · rw [State.takeHello, hv]
    dsimp only
    rw [he, if_pos (by simpa using Nat.lt_of_succ_le h1), joinLink_of_nil hq]
    rfl
  · rw [State.takeHello, hv]
    dsimp only
    rw [if_neg fun hn => ?_]
    · rfl
    · obtain ⟨he, hp⟩ := (Bool.and_eq_true _ _).mp hn
      rcases hr with hr | hr
      · exact Bool.false_ne_true (hr.symm.trans he)
      · simp [hr] at hp
  · rw [State.takeHello, hv]
    dsimp only
    rw [restartSilence_active (linkActive_of_service hv rfl)]
  · rcases hv with hv | hv <;> rw [State.takeHello, hv]
  · rw [State.takeHello, hv]

/-! ### READY, BEACON and stale traffic (R7, R9, R22) -/

/-- A message for a block that takes none from a base JOINING is stale from one (R22). -/
theorem messageFrom_joining {f : State → State} (hs : s.serves = true) (hv : s.service b = .joining) :
    s.messageFrom b (fun t => t.fromServing b f) = .next ((s.restartSilence b).bump .stale).settle := by
  have ha := linkActive_of_service hv rfl
  rw [messageFrom_active hs ha, State.fromServing, if_pos]
  rw [restartSilence_active ha, State.service, updLink_self]
  exact hv

/-- READY from a base JOINING makes it SERVING (R9). -/
theorem exec_ready_joining (hs : s.serves = true) (hv : s.service b = .joining) :
    exec (.ready b) s =
      .next ((s.updLink b fun l => { l with
        service := .serving, joinTimer := none
        silenceTimer := some (s.after s.plan.header.silenceLimit) }).pendBase b attnLink).settle := by
  have ha := linkActive_of_service hv rfl
  rw [exec_ready, messageFrom_active hs ha, restartSilence_active ha, State.takeReadyMessage, if_pos, updLink_updLink]
  rw [State.service, updLink_self]
  exact hv

/-- READY from a base in service is stale, and its silence timer restarts (R7, R9). -/
theorem exec_ready_inService (hs : s.serves = true) (hv : s.service b = .serving ∨ s.service b = .draining) :
    exec (.ready b) s =
      .next ((s.updLink b fun l => { l with
        silenceTimer := some (s.after s.plan.header.silenceLimit) }).bump .stale).settle := by
  have ha := linkActive_inService hv
  have hj : s.service b ≠ .joining := by rcases hv with hv | hv <;> rw [hv] <;> decide
  rw [exec_ready, messageFrom_active hs ha, restartSilence_active ha, State.takeReadyMessage, if_neg]
  rw [State.service, updLink_self]
  exact hj

/-- Settles O5: READY and BEACON by service state, stale traffic, and malformed messages. -/
theorem readyAndBeaconByServiceState : Obligations.ReadyAndBeaconByServiceState := by
  refine ⟨fun b s => rfl, fun b s hs => ⟨exec_ready_joining hs, exec_ready_inService hs, fun hv => ?_⟩,
    fun b s hs => ⟨fun ha => ?_, fun hv => ?_⟩, fun b s hs hv => ?_, fun b s hs hv => ?_, fun b s hs => ?_⟩
  · rw [exec_ready, messageFrom_inactive hs (linkActive_closed hv)]
  · rw [exec_beacon, messageFrom_active hs ha, restartSilence_active ha, id]
  · rw [exec_beacon, messageFrom_inactive hs (linkActive_closed hv)]
  · have stale := messageFrom_inactive hs (linkActive_closed hv)
    refine ⟨fun i => ?_, fun h v => ?_, fun h => ?_, fun h p => ?_, fun k => ?_, fun k => ?_, fun k l n p hp => ?_,
      fun j c g v r => ?_, fun j c g => ?_, fun h => ?_⟩
    · rw [exec_attach, stale]
    · rw [exec_refresh, stale]
    · rw [exec_detach, stale]
    · rw [exec_callRequest, stale]
    · rw [exec_callEnd, stale]
    · rw [exec_channelDropped, stale]
    · rw [exec_levelReport_short hp, stale]
    · rw [exec_reserveAnswer, stale]
    · rw [exec_arrived, stale]
    · rw [exec_pageAnswer, stale]
  · refine ⟨fun h v => ?_, fun h => ?_⟩
    · rw [exec_refresh, messageFrom_joining hs hv]
    · rw [exec_detach, messageFrom_joining hs hv]
  · refine ⟨?_, fun a n hn => exec_hello_of_malformed hs (.inl hn), fun k l n p hp => ?_⟩
    · rw [exec_malformedMessage, whileServing_of hs]
    · rw [exec_levelReport_long hp, whileServing_of hs]

/-! ### ACCEPT and DEFER (R14 to R16) -/

/-- A restarted silence timer changes neither the head nor the queue. -/
theorem restartSilence_get (ha : linkActive (s.service b) = true) :
    (s.restartSilence b).links[b] =
      { s.links[b] with silenceTimer := some (s.after s.plan.header.silenceLimit) } := by
  rw [restartSilence_active ha, updLink_self]

/-- No head of link `b` awaits an answer. -/
def State.noAnswerDue (s : State) (b : BaseNo) : Prop :=
  s.links[b].head = none ∨ ∃ f n g, s.links[b].head = some ⟨.awaitingMark f, n, g⟩

theorem takeAccept_of_awaiting {n : Nat} {f : FrameCount} (h : s.links[b].head = some ⟨.awaitingAnswer, n, f⟩) :
    s.takeAccept b = s.dropHead b := by
  rw [State.takeAccept, h]

theorem takeAccept_of_none (h : s.noAnswerDue b) : s.takeAccept b = s := by
  rcases h with h | ⟨f, n, g, h⟩ <;> rw [State.takeAccept, h]

theorem takeDefer_of_awaiting {n : Nat} {f : FrameCount} (h : s.links[b].head = some ⟨.awaitingAnswer, n, f⟩) :
    s.takeDefer b = s.deferHead b ⟨.awaitingAnswer, n, f⟩ := by
  rw [State.takeDefer, h]

theorem takeDefer_of_none (h : s.noAnswerDue b) : s.takeDefer b = s := by
  rcases h with h | ⟨f, n, g, h⟩ <;> rw [State.takeDefer, h]

/-- Settles O7: an ACCEPT by the state of the link and its head. -/
theorem acceptRemovesTheHead : Obligations.AcceptRemovesTheHead := by
  refine fun b s hs => ⟨fun ha n f hh => ?_, fun ha hh => ?_, fun ha => by rw [exec_accept, answerFrom_inactive hs ha]⟩
  · have hg := restartSilence_get ha
    rw [exec_accept, answerFrom_active hs ha, takeAccept_of_awaiting (by rw [hg]; exact hh)]
    refine ⟨fun m hq => ?_, fun m m' r hq => ?_⟩
    · rw [dropHead_of_singleton (by rw [hg]; exact hq), restartSilence_active ha, updLink_updLink]
    · rw [dropHead_of_cons (by rw [hg]; exact hq), restartSilence_active ha, updLink_updLink]
      rfl
  · rw [exec_accept, answerFrom_active hs ha, takeAccept_of_none (by rw [State.noAnswerDue, restartSilence_get ha]; exact hh),
      restartSilence_active ha]

/-- The retry action DISCARD drops the head (R16). -/
theorem retryAction_discard (h : s.plan.header.retryAction = .discard) :
    s.retryAction b = (s.bumpBase b .discards).dropHead b := by
  rw [State.retryAction, h]

theorem retryAction_declareLost (h : s.plan.header.retryAction = .declareLost) : s.retryAction b = s.baseLost b := by
  rw [State.retryAction, h]

/-- A head deferred by a DEFER, with a retry left and with none (R15). -/
theorem exec_defer_head {n : Nat} {f : FrameCount} (hs : s.serves = true) (ha : linkActive (s.service b) = true)
    (hh : s.links[b].head = some ⟨.awaitingAnswer, n, f⟩) :
    (n < retryLimit s.plan.header.retryCode →
      exec (.defer b) s =
        .next (((s.restartSilence b).bumpBase b .defers).updLink b fun l => { l with
          head := some ⟨.awaitingMark s.now, n + 1, f⟩ }).settle) ∧
    (retryLimit s.plan.header.retryCode ≤ n →
      exec (.defer b) s = .next (((s.restartSilence b).bumpBase b .defers).retryAction b).settle) := by
  obtain ⟨hr, -, hp, -⟩ := still_fields (s.restartSilence_still b)
  have hnow : (s.restartSilence b).now = s.now := congrArg Regs.frame hr
  rw [exec_defer, answerFrom_active hs ha, takeDefer_of_awaiting (by rw [restartSilence_get ha]; exact hh), State.deferHead]
  dsimp only
  rw [hp, hnow]
  exact ⟨fun hn => by rw [if_pos hn]; rfl, fun hn => by rw [if_neg (by omega)]⟩

/-- A head without an answer by its second mark, with a retry left and with none (R15). -/
theorem exec_headAnswerTimeout_of_due {n : Nat} {f : FrameCount} (hs : s.serves = true)
    (hh : s.links[b].head = some ⟨.awaitingAnswer, n, f⟩) (hf : s.now = f + 2) :
    (n < retryLimit s.plan.header.retryCode → ∀ m r, s.links[b].queue = m :: r →
      exec (.headAnswerTimeout b) s =
        .next (((s.bumpBase b .defers).updLink b fun l => { l with
          head := some ⟨.awaitingAnswer, n + 1, s.now⟩ }).transmit b (stampMessage s.now m)).settle) ∧
    (retryLimit s.plan.header.retryCode ≤ n →
      exec (.headAnswerTimeout b) s = .next ((s.bumpBase b .defers).retryAction b).settle) := by
  have he : exec (.headAnswerTimeout b) s = .next (s.expireHead b ⟨.awaitingAnswer, n, f⟩).settle := by
    rw [exec_headAnswerTimeout, whileServing_of hs, State.takeAnswerTimeout, hh]
    dsimp only
    rw [if_pos hf]
  rw [he, State.expireHead]
  dsimp only
  refine ⟨fun hn m r hq => ?_, fun hn => by rw [if_neg (by omega)]⟩
  rw [if_pos hn, transmitHead_of_cons (m := m) (r := r) (by rw [State.setHead, updLink_self]; exact hq)]
  rfl

/-- A deferred head is transmitted again at the next mark (R15). -/
theorem exec_headRetransmit_of_due {n : Nat} {f g : FrameCount} {m : Downlink} {r : List Downlink} (hs : s.serves = true)
    (hh : s.links[b].head = some ⟨.awaitingMark f, n, g⟩) (hf : s.now = f + 1) (hq : s.links[b].queue = m :: r) :
    exec (.headRetransmit b) s =
      .next ((s.updLink b fun l => { l with
        head := some ⟨.awaitingAnswer, n, s.now⟩ }).transmit b (stampMessage s.now m)).settle := by
  rw [exec_headRetransmit, whileServing_of hs, State.takeRetransmit, hh]
  dsimp only
  rw [if_pos hf, transmitHead_of_cons (m := m) (r := r) (by rw [State.setHead, updLink_self]; exact hq)]
  rfl

/-- Settles O8: a DEFER, the second mark, the retransmission and the retry action. -/
theorem deferredHeadIsRetriedOrGivenUp : Obligations.DeferredHeadIsRetriedOrGivenUp := by
  refine ⟨fun b s hs => ⟨fun ha hh => ?_, fun ha => by rw [exec_defer, answerFrom_inactive hs ha]⟩,
    fun b s hs ha => ⟨fun n f hh => ?_, fun f n g hh hf m r hq => exec_headRetransmit_of_due hs hh hf hq⟩,
    ⟨rfl, rfl, rfl, rfl⟩, fun b s => ⟨fun hd => ?_, retryAction_declareLost⟩⟩
  · rw [exec_defer, answerFrom_active hs ha, takeDefer_of_none (by rw [State.noAnswerDue, restartSilence_get ha]; exact hh),
      restartSilence_active ha]
  · obtain ⟨hd, hg⟩ := exec_defer_head hs ha hh
    exact ⟨hd, hg, fun hf => (exec_headAnswerTimeout_of_due hs hh hf).1, fun hf => (exec_headAnswerTimeout_of_due hs hh hf).2⟩
  · rw [retryAction_discard hd]
    exact ⟨fun m hq => dropHead_of_singleton hq, fun m m' r hq => dropHead_of_cons hq⟩

/-! ### Timers and loss (R9, R10, R12, R142) -/

theorem takeJoinTimer_of_due (hv : s.service b = .joining) (ht : s.links[b].joinTimer = some s.now) :
    s.takeJoinTimer b = s.updLink b fun l => { l with
      service := .absent, joinTimer := none, silenceTimer := none, queue := [], head := none } := by
  rw [State.takeJoinTimer, if_pos ⟨hv, by rw [ht]; exact beq_self_eq_true _⟩, State.emptyQueue, updLink_updLink]

theorem takeSilenceTimer_of_due (ha : linkActive (s.service b) = true) (ht : s.links[b].silenceTimer = some s.now) :
    s.takeSilenceTimer b = s.baseLost b := by
  rw [State.takeSilenceTimer, if_pos ⟨ha, by rw [ht]; exact beq_self_eq_true _⟩]

/-- A base as its loss leaves it before its withdrawal (R142 steps 1 and 2). -/
def State.closedByLoss (s : State) (b : BaseNo) : State := (s.failDrain b .baseLost).loseLink b

theorem closedByLoss_link (s : State) (b : BaseNo) :
    (s.closedByLoss b).links[b] =
      { s.links[b] with service := .absent, joinTimer := none, silenceTimer := none, queue := [], head := none } := by
  rw [State.closedByLoss, loseLink_links, getElem_set_fin, if_pos rfl, failDrain_links]

theorem closedByLoss_inactive (s : State) (b : BaseNo) : linkActive ((s.closedByLoss b).service b) = false := by
  rw [State.service, closedByLoss_link]
  rfl

theorem closedByLoss_drain (s : State) (b : BaseNo) : (s.closedByLoss b).drains[b] = none :=
  (failDrain_get s b b .baseLost).trans (if_pos rfl)

/-- The withdrawal of a lost base leaves its link, its drain record and its losses alone. -/
theorem baseLost_endsDrains (s : State) (b : BaseNo) : EndsDrains (s.closedByLoss b) (s.baseLost b) :=
  (KeepsService.refl _).endsDrains.withdraw

theorem handBack_counters_base (s : State) (i : SlotNo) (r : OrderResult) :
    (s.handBack i r).counters.base = s.counters.base := by
  unfold State.handBack
  dsimp only
  split <;> rfl

theorem failDrain_baseCount (s : State) (b x : BaseNo) (f : FailCode) (k : BaseCounter) :
    (s.failDrain b f).baseCount x k = s.baseCount x k := by
  unfold State.failDrain
  split
  · rw [State.baseCount, State.endDrain, handBack_counters_base]
    rfl
  · rfl

theorem closedByLoss_losses (s : State) (b : BaseNo) :
    (s.closedByLoss b).baseCount b .losses = satSucc (s.baseCount b .losses) := by
  have h := baseCount_bumpBase (((s.failDrain b .baseLost).updLink b fun l => { l with
    service := .absent, joinTimer := none, silenceTimer := none }).emptyQueue b) b b .losses .losses
  rw [if_pos ⟨rfl, rfl⟩] at h
  exact h.trans (congrArg satSucc (failDrain_baseCount s b b .baseLost .losses))

/-- The LINK bit is raised by the loss (R12). -/
theorem closedByLoss_raised (s : State) (b : BaseNo) :
    (s.closedByLoss b).acu.basePending[b] &&& attnLink = attnLink := by
  have h : (s.closedByLoss b).acu.basePending[b] = (s.failDrain b .baseLost).acu.basePending[b] ||| attnLink :=
    (getElem_set_fin _ _ _ _).trans (if_pos rfl)
  rw [h, BitVec.or_comm]
  exact and_or_of_and (BitVec.and_self)

theorem handBack_queue (s : State) (i : SlotNo) (r : OrderResult) :
    (s.handBack i r).oru.queue = s.oru.queue ++ [.resultWrite i r, .answeredWrite i] := by
  unfold State.handBack
  dsimp only
  split <;> rfl

/-- The drain's answer is asked for before anything else that the loss asks for (R142 step 1). -/
theorem closedByLoss_asks {d : DrainRecord} (h : s.drains[b] = some d) :
    (s.closedByLoss b).oru.queue =
      s.oru.queue ++ [.resultWrite d.slot ⟨.failed .baseLost, (s.servedBy b).length, drainData d⟩,
        .answeredWrite d.slot] := by
  have hd : s.failDrain b .baseLost = s.endDrain b d (.failed .baseLost) (s.servedBy b).length := by
    rw [State.failDrain, h]
  have hq : (s.closedByLoss b).oru.queue = (s.failDrain b .baseLost).oru.queue := rfl
  rw [hq, hd, State.endDrain, handBack_queue]
  rfl

/-- Settles O9: the two timers, and what a loss leaves, from what the withdrawal keeps. -/
theorem linkTimersExpireAndLossClosesTheLink : Obligations.LinkTimersExpireAndLossClosesTheLink := by
  refine ⟨fun b s hs => ⟨fun hv ht => ?_, fun ha ht => ?_⟩, fun b s => ?_⟩
  · rw [exec_joinTimerExpiry, whileServing_of hs, takeJoinTimer_of_due hv ht]
  · rw [exec_silenceTimerExpiry, whileServing_of hs, takeSilenceTimer_of_due ha ht]
  · have hw := baseLost_endsDrains s b
    obtain ⟨hl, hd⟩ := hw.closed b (closedByLoss_inactive s b)
    refine ⟨hl.trans (closedByLoss_link s b), (hw.losses b).trans (closedByLoss_losses s b),
      hw.raised b (closedByLoss_raised s b), hd.trans (closedByLoss_drain s b), fun d h => ?_⟩
    obtain ⟨l, e⟩ := hw.asks
    exact ⟨l, by rw [← e, closedByLoss_asks h]⟩

end Sys2Proof.Machine
end

section
/-! SUPPORT. Outside RUNNING nothing is taken and nothing is transmitted (R1, R4, R161; O3). -/

namespace Sys2Proof.Machine

open Sys2Proof

variable {s t : State}

theorem serves_iff (s : State) : s.serves = true ↔ s.regs.part = .running ∧ s.regs.halting = false := by
  simp [State.serves]

theorem not_serves_of_part (h : s.regs.part ≠ .running) : s.serves = false :=
  Bool.eq_false_iff.mpr fun hs => h ((serves_iff s).mp hs).1

/-- A message, a timer's expiry, a frame mark or an order is an event of the running part (R1, R4, R161). -/
theorem exec_of_servingOnly {c : Instr} (h : c.servingOnly = true) (s : State) :
    ∃ f : State → State, exec c s = s.whileServing f := by
  cases c with
  | hello b a n => exact ⟨_, exec_hello s b a n⟩
  | ready b => exact ⟨_, exec_ready s b⟩
  | beacon b => exact ⟨_, exec_beacon s b⟩
  | malformedMessage b => exact ⟨_, exec_malformedMessage s b⟩
  | accept b => exact ⟨_, exec_accept s b⟩
  | defer b => exact ⟨_, exec_defer s b⟩
  | attach b i => exact ⟨_, exec_attach s b i⟩
  | refresh b x v => exact ⟨_, exec_refresh s b x v⟩
  | detach b x => exact ⟨_, exec_detach s b x⟩
  | callRequest b x p => exact ⟨_, exec_callRequest s b x p⟩
  | callEnd b k => exact ⟨_, exec_callEnd s b k⟩
  | channelDropped b k => exact ⟨_, exec_channelDropped s b k⟩
  | reserveAnswer b j c g v r => exact ⟨_, exec_reserveAnswer s b j c g v r⟩
  | arrived b j c g => exact ⟨_, exec_arrived s b j c g⟩
  | pageAnswer b x => exact ⟨_, exec_pageAnswer s b x⟩
  | frameMark => exact ⟨_, exec_frameMark s⟩
  | joinTimerExpiry b => exact ⟨_, exec_joinTimerExpiry s b⟩
  | silenceTimerExpiry b => exact ⟨_, exec_silenceTimerExpiry s b⟩
  | headRetransmit b => exact ⟨_, exec_headRetransmit s b⟩
  | headAnswerTimeout b => exact ⟨_, exec_headAnswerTimeout s b⟩
  | lifetimeExpiry x => exact ⟨_, exec_lifetimeExpiry s x⟩
  | roundTimerExpiry x => exact ⟨_, exec_roundTimerExpiry s x⟩
  | reserveTimerExpiry c => exact ⟨_, exec_reserveTimerExpiry s c⟩
  | arrivalTimerExpiry c => exact ⟨_, exec_arrivalTimerExpiry s c⟩
  | settleTimerExpiry c => exact ⟨_, exec_settleTimerExpiry s c⟩
  | holdTimerExpiry c => exact ⟨_, exec_holdTimerExpiry s c⟩
  | switchBatchDelivery => exact ⟨_, exec_switchBatchDelivery s⟩
  | drainLimitExpiry b => exact ⟨_, exec_drainLimitExpiry s b⟩
  | orderIntake => exact ⟨_, exec_orderIntake s⟩
  | deregister i x => exact ⟨_, exec_deregister s i x⟩
  | page i x => exact ⟨_, exec_page s i x⟩
  | cancel i x => exact ⟨_, exec_cancel s i x⟩
  | clearCall i c => exact ⟨_, exec_clearCall s i c⟩
  | forceMove i c b => exact ⟨_, exec_forceMove s i c b⟩
  | drainBase i b n => exact ⟨_, exec_drainBase s i b n⟩
  | stopBase i b => exact ⟨_, exec_stopBase s i b⟩
  | startBase i b => exact ⟨_, exec_startBase s i b⟩
  | blockChannel i b k => exact ⟨_, exec_blockChannel s i b k⟩
  | unblockChannel i b k => exact ⟨_, exec_unblockChannel s i b k⟩
  | amendPlan i r => exact ⟨_, exec_amendPlan s i r⟩
  | snapshot i v => exact ⟨_, exec_snapshot s i v⟩
  | levelReport b k l n p =>
    rcases Nat.lt_or_ge 4 p.length with hp | hp
    · exact ⟨_, exec_levelReport_long hp⟩
    · exact ⟨_, exec_levelReport_short hp⟩
  | _ => cases h

theorem exec_of_not_serves {c : Instr} (h : c.servingOnly = true) (hs : s.serves = false) :
    exec c s = .next s.settle := by
  obtain ⟨f, e⟩ := exec_of_servingOnly h s
  rw [e, whileServing_off hs]

/-! ### Nothing is transmitted (R1) -/

@[simp] theorem handBack_wire (s : State) (i : SlotNo) (r : OrderResult) : (s.handBack i r).wire = s.wire := by
  unfold State.handBack
  dsimp only
  split <;> rfl

@[simp] theorem giveReport_wire (s : State) (r : Option (CallNo × Bool)) : (s.giveReport r).wire = s.wire := by
  unfold State.giveReport State.writeReport
  split
  · split <;> rfl
  · rfl

@[simp] theorem abandonAccess_wire (s : State) : s.abandonAccess.wire = s.wire := by
  unfold State.abandonAccess
  split <;> rfl

theorem faultWith_wire (s : State) (f : FaultCode) : (s.faultWith f).wire = s.wire := abandonAccess_wire s

theorem recordWritten_wire (s : State) (r : RecordRef) (v : Byte) (e : Bool) :
    (s.recordWritten r v e).wire = s.wire := by
  unfold State.recordWritten
  split
  · exact giveReport_wire _ _
  · rfl

theorem bitsSet_wire (s : State) (r : Option (CallNo × Bool)) : (s.bitsSet r).wire = s.wire := giveReport_wire _ _

theorem byteRead_wire (s : State) (v : Byte) : (s.byteRead v).wire = s.wire := by
  unfold State.byteRead
  split <;> rfl

theorem byteWritten_wire (s : State) : s.byteWritten.wire = s.wire := by
  unfold State.byteWritten
  split
  · split
    · exact bitsSet_wire _ _
    · rfl
  · rfl

theorem summaryRead_wire (s : State) (v : Byte) : (s.summaryRead v).wire = s.wire := by
  unfold State.summaryRead
  split <;> rfl

theorem summaryWritten_wire (s : State) : s.summaryWritten.wire = s.wire := by
  unfold State.summaryWritten
  split
  · exact bitsSet_wire _ _
  · rfl

theorem counterWritten_wire (s : State) : s.counterWritten.wire = s.wire := by
  unfold State.counterWritten
  split
  · split
    · rfl
    · exact handBack_wire _ _ _
  · rfl

theorem settle_wire (s : State) : s.settle.wire = s.wire := (settle_fields s).2.1

/-- A completion whose effect transmits nothing transmits nothing. -/
theorem onAccess_wire {n : Nat} {data : BitVec n} {f : State → AccessKind → Option State}
    (hp : s.regs.part ≠ .running) (e : s.onAccess data f = .next t)
    (hf : ∀ u k v, u.serves = false → f u k = some v → v.wire = u.wire) : t.wire = s.wire := by
  obtain ⟨hr, -, hw⟩ := completeAccess_fields s data
  rcases onAccess_cases s data f with h | ⟨k, v, -, hv, h⟩ <;> rw [h] at e <;> cases e
  · rfl
  · rw [settle_wire, hf _ k v (not_serves_of_part (by rwa [hr])) hv, hw]

theorem writeRun1_wire (s : State) (v : Bool) : (s.writeRun1 v).wire = s.wire := by
  unfold State.writeRun1
  dsimp only
  split
  · exact (beginStartup_fields _).2.1
  · rfl

/-- CONTROL written with RUN 0 transmits STOPs in RUNNING only (R160 to R162). -/
theorem writeRun0_wire (hp : s.regs.part ≠ .running) (v : Bool) : (s.writeRun0 v).wire = s.wire := by
  unfold State.writeRun0
  dsimp only
  split
  · rfl
  · exact abandonAccess_wire _
  · next h => exact absurd h hp
  · rfl

theorem writeWindow_wire (hp : s.regs.part ≠ .running) (o : Nat) (v : BitVec 32) :
    (s.writeWindow o v).wire = s.wire := by
  unfold State.writeWindow
  split
  · unfold State.writeControl
    split
    · exact abandonAccess_wire s
    · split
      · rw [settle_wire, writeRun1_wire]
      · rw [settle_wire, writeRun0_wire hp]
  · unfold State.writeXbase
    split <;> rfl
  · split <;> rfl
  · rfl

/-- No command makes the part transmit outside RUNNING (R1). -/
theorem exec_wire {c : Instr} (hp : s.regs.part ≠ .running) (e : exec c s = .next t) : t.wire = s.wire := by
  by_cases hc : c.servingOnly = true
  · rw [exec_of_not_serves hc (not_serves_of_part hp)] at e
    cases e
    exact settle_wire s
  cases c with dsimp only [exec] at e
  | accessTimeout | busError =>
    cases e
    split
    · exact faultWith_wire s _
    · rfl
  | subscriptionCountReadDone n =>
    refine onAccess_wire hp e fun u k v hu hv => ?_
    split at hv <;> cases hv
    rw [hu]
  | subscriptionEntryReadDone w =>
    refine onAccess_wire hp e fun u k v hu hv => ?_
    split at hv <;> cases hv
    rw [hu]
  | postedCountReadDone n =>
    refine onAccess_wire hp e fun u k v hu hv => ?_
    split at hv <;> cases hv
    rw [hu, if_neg Bool.false_ne_true]
    split <;> rfl
  | ownerByteReadDone x | slotReadDone x | planRecordReadDone x =>
    refine onAccess_wire hp e fun u k v hu hv => ?_
    split at hv <;> cases hv
    rw [hu, if_neg Bool.false_ne_true]
  | takenWriteDone | resultWriteDone | answeredWriteDone =>
    refine onAccess_wire hp e fun u k v hu hv => ?_
    split at hv <;> cases hv
    rfl
  | recordWriteDone =>
    refine onAccess_wire hp e fun u k v hu hv => ?_
    split at hv <;> cases hv
    split
    · exact recordWritten_wire _ _ _ _
    · rfl
  | attentionByteAccessDone x =>
    refine onAccess_wire hp e fun u k v hu hv => ?_
    split at hv <;> cases hv
    · exact byteRead_wire _ _
    · exact byteWritten_wire _
  | summaryByteAccessDone x =>
    refine onAccess_wire hp e fun u k v hu hv => ?_
    split at hv <;> cases hv
    · exact summaryRead_wire _ _
    · exact summaryWritten_wire _
  | counterWriteDone =>
    refine onAccess_wire hp e fun u k v hu hv => ?_
    split at hv <;> cases hv
    exact counterWritten_wire _
  | startupHeaderReadDone x =>
    refine onAccess_wire hp e fun u k v hu hv => ?_
    split at hv <;> cases hv
    split
    · rfl
    · exact faultWith_wire _ _
  | startupPlanReadDone x =>
    refine onAccess_wire hp e fun u k v hu hv => ?_
    split at hv <;> cases hv
    · rfl
    · rfl
    · split <;> rfl
  | startupZeroWriteDone =>
    refine onAccess_wire hp e fun u k v hu hv => ?_
    split at hv <;> cases hv
    split <;> rfl
  | startupSlotScanReadDone x =>
    refine onAccess_wire hp e fun u k v hu hv => ?_
    split at hv <;> cases hv
    rfl
  | startCountAccessDone x =>
    refine onAccess_wire hp e fun u k v hu hv => ?_
    split at hv <;> cases hv
    · rfl
    · rfl
  | runSet x =>
    cases e
    rw [settle_wire, writeRun1_wire]
  | runClear x =>
    cases e
    rw [settle_wire, writeRun0_wire hp]
  | restart | resetPin =>
    cases e
    exact abandonAccess_wire s
  | xbaseWrite x =>
    cases e
    unfold State.writeXbase
    split <;> rfl
  | attnClear =>
    cases e
    rfl
  | registerWrite o x =>
    unfold execRegisterWrite at e
    split at e <;> cases e
    exact writeWindow_wire hp o x
  | _ => exact absurd rfl hc

/-- Settles O3: from the event's guard and, for the wire, by the commands that are taken outside RUNNING. -/
theorem nothingTakenOutsideRunning : Obligations.NothingTakenOutsideRunning :=
  ⟨serves_iff, fun _ _ _ hp e => exec_wire hp e, fun _ _ h hs => exec_of_not_serves h hs⟩

end Sys2Proof.Machine
end

section
/-! SUPPORT. The frame mark, the work still due at it, and the intake (R4, R5, R150, R151; O42). -/

namespace Sys2Proof.Machine

open Sys2Proof

variable {s : State}

/-! ### Where no work is due -/

theorem isDue_iff (s : State) (t : Option FrameCount) : s.isDue t = true ↔ t = some s.now := by
  simp [State.isDue, State.now]

/-- A fold of operations that each leave a state alone leaves it alone. -/
theorem foldl_eq_self {α : Type} {f : State → α → State} {l : List α} (h : ∀ x ∈ l, f s x = s) : l.foldl f s = s := by
  induction l with
  | nil => rfl
  | cons x r ih =>
    rw [List.foldl_cons, h x (by simp)]
    exact ih fun y hy => h y (by simp [hy])

theorem takeJoinTimer_of_not_due {b : BaseNo} (h : s.service b = .joining → s.links[b].joinTimer ≠ some s.now) :
    s.takeJoinTimer b = s :=
  if_neg fun ⟨hv, ht⟩ => h hv ((isDue_iff s _).mp ht)

theorem takeSilenceTimer_of_not_due {b : BaseNo}
    (h : linkActive (s.service b) = true → s.links[b].silenceTimer ≠ some s.now) : s.takeSilenceTimer b = s :=
  if_neg fun ⟨ha, ht⟩ => h ha ((isDue_iff s _).mp ht)

theorem takeRetransmit_of_not_due {b : BaseNo}
    (h : ∀ f n g, s.links[b].head = some ⟨.awaitingMark f, n, g⟩ → s.now ≠ f + 1) : s.takeRetransmit b = s := by
  unfold State.takeRetransmit
  split
  · next e => exact if_neg (h _ _ _ e)
  · rfl

theorem takeAnswerTimeout_of_not_due {b : BaseNo}
    (h : ∀ n f, s.links[b].head = some ⟨.awaitingAnswer, n, f⟩ → s.now ≠ f + 2) : s.takeAnswerTimeout b = s := by
  unfold State.takeAnswerTimeout
  split
  · next e => exact if_neg (h _ _ e)
  · rfl

theorem takeLifetime_of_not_due {h : HandsetNo} (hd : s.roster[h].registered = true → s.roster[h].expiry ≠ some s.now) :
    s.takeLifetime h = s :=
  if_neg fun ⟨hr, ht⟩ => hd hr ((isDue_iff s _).mp ht)

theorem takeRoundTimer_of_not_due {h : HandsetNo} (hd : ∀ p ∈ s.pages, p.nextRound ≠ s.now) :
    s.takeRoundTimer h = s := by
  unfold State.takeRoundTimer
  split
  · next e => exact if_neg (hd _ (List.mem_of_find?_eq_some e))
  · rfl

theorem takeReserveTimer_of_not_due {c : CallNo}
    (h : ∀ r, s.calls[c].handover = some r → r.state = .reserving → r.reserveTimer ≠ some s.now) :
    s.takeReserveTimer c = s := by
  unfold State.takeReserveTimer
  split
  · next e => exact if_neg fun ⟨hr, ht⟩ => h _ e hr ((isDue_iff s _).mp ht)
  · rfl

theorem takeArrivalTimer_of_not_due {c : CallNo}
    (h : ∀ r, s.calls[c].handover = some r → r.state = .switching → r.arrivalTimer ≠ some s.now) :
    s.takeArrivalTimer c = s := by
  unfold State.takeArrivalTimer
  split
  · next e => exact if_neg fun ⟨hr, ht⟩ => h _ e hr ((isDue_iff s _).mp ht)
  · rfl

theorem takeSettleTimer_of_not_due {c : CallNo} (h : s.calls[c].settle ≠ some s.now) : s.takeSettleTimer c = s :=
  if_neg fun ht => h ((isDue_iff s _).mp ht)

theorem takeHoldTimer_of_not_due {c : CallNo} (h : s.calls[c].hold ≠ some s.now) : s.takeHoldTimer c = s :=
  if_neg fun ht => h ((isDue_iff s _).mp ht)

theorem takeDrainLimit_of_not_due {b : BaseNo} (h : ∀ d, s.drains[b] = some d → d.limit ≠ some s.now) :
    s.takeDrainLimit b = s := by
  unfold State.takeDrainLimit
  split
  · next e => exact if_neg fun ht => h _ e ((isDue_iff s _).mp ht)
  · rfl

/-- No call due, no SWITCH LIST (R120). -/
theorem switchLists_nil (s : State) : s.switchLists [] = [] := by
  simp [State.switchLists, switchPieces]

theorem deliverBatch_of_not_due (h : ∀ e ∈ s.batch, e.due ≠ s.now) : s.deliverBatch = s := by
  have hd : (s.batch.filter fun e => e.due == s.now) = [] := by simpa using h
  have hk : (s.batch.filter fun e => e.due != s.now) = s.batch := by simpa using h
  unfold State.deliverBatch
  rw [hd, hk, List.map_nil]
  dsimp only
  rw [switchLists_nil]
  rfl

theorem dueLinks_of_nothingDue (h : s.nothingDue) : s.dueLinks = s := by
  obtain ⟨hl, -⟩ := h
  unfold State.dueLinks
  rw [foldl_eq_self fun b _ => takeJoinTimer_of_not_due (hl b).1]
  dsimp only
  rw [foldl_eq_self fun b _ => takeSilenceTimer_of_not_due (hl b).2.1,
    foldl_eq_self fun b _ => takeRetransmit_of_not_due (hl b).2.2.1]
  exact foldl_eq_self fun b _ => takeAnswerTimeout_of_not_due (hl b).2.2.2

theorem dueRoster_of_nothingDue (h : s.nothingDue) : s.dueRoster = s := by
  obtain ⟨-, hr, hp, -⟩ := h
  unfold State.dueRoster
  rw [foldl_eq_self fun x _ => takeLifetime_of_not_due (hr x)]
  exact foldl_eq_self fun x _ => takeRoundTimer_of_not_due hp

theorem dueCalls_of_nothingDue (h : s.nothingDue) : s.dueCalls = s := by
  obtain ⟨-, -, -, hc, -⟩ := h
  unfold State.dueCalls
  rw [foldl_eq_self fun c _ => takeReserveTimer_of_not_due fun r e => ((hc c).2.2 r e).1]
  dsimp only
  rw [foldl_eq_self fun c _ => takeArrivalTimer_of_not_due fun r e => ((hc c).2.2 r e).2,
    foldl_eq_self fun c _ => takeSettleTimer_of_not_due (hc c).1]
  exact foldl_eq_self fun c _ => takeHoldTimer_of_not_due (hc c).2.1

theorem dueBatch_of_nothingDue (h : s.nothingDue) : s.dueBatch = s := by
  obtain ⟨-, -, -, -, hb, hd, -⟩ := h
  unfold State.dueBatch
  rw [deliverBatch_of_not_due hb]
  exact foldl_eq_self fun b _ => takeDrainLimit_of_not_due (hd b)

/-- Without work due a mark takes none (log entry 3). -/
theorem dueWork_of_nothingDue (h : s.nothingDue) : s.dueWork = s := by
  rw [State.dueWork, dueLinks_of_nothingDue h, dueRoster_of_nothingDue h, dueCalls_of_nothingDue h,
    dueBatch_of_nothingDue h]
  obtain ⟨-, -, -, -, -, -, hi⟩ := h
  exact if_neg (Bool.eq_false_iff.mp hi)

/-! ### The mark -/

theorem takeIntake_oru (s : State) : s.takeIntake.oru.intake = s.oru.intake ∧ s.takeIntake.oru.intakeDue = false := by
  unfold State.takeIntake
  split
  · dsimp only
    split <;> exact ⟨rfl, rfl⟩
  · next h => exact ⟨rfl, Bool.eq_false_iff.mpr h⟩

/-- The work still due leaves the intake where it stands, and no intake due (R151). -/
theorem dueWork_oru (s : State) : s.dueWork.oru.intake = s.oru.intake ∧ s.dueWork.oru.intakeDue = false := by
  have hk : KeepsLaws s s.dueLinks.dueRoster.dueCalls.dueBatch :=
    (KeepsLaws.refl s).dueLinks.dueRoster.dueCalls.dueBatch
  unfold State.dueWork
  obtain ⟨hi, hd⟩ := takeIntake_oru s.dueLinks.dueRoster.dueCalls.dueBatch
  exact ⟨by rw [hi, hk.intake.1], hd⟩

/-- The mark counts from the registers and the intake that its work has left as they were (R4, R151). -/
theorem advanceFrame_of_same {t : State} (hr : t.regs = s.regs) (hi : t.oru.intake = s.oru.intake) :
    t.advanceFrame = (t.updRegs fun r => { r with frame := s.regs.frame + 1 }).updOru fun o => { o with
      intakeDue := s.oru.intake == .idle } := by
  rw [← hr, ← hi]
  rfl

theorem exec_frameMark_of_serves (h : s.serves = true) :
    exec .frameMark s =
      .next ((s.dueWork.updRegs fun r => { r with frame := s.regs.frame + 1 }).updOru fun o => { o with
        intakeDue := s.oru.intake == .idle }).settle := by
  rw [exec_frameMark, whileServing_of h, advanceFrame_of_same (still_fields s.dueWork_still).1 (dueWork_oru s).1]

/-- The intake of a mark asks for the posted-order count (R151). -/
theorem takeIntake_of_due (hd : s.oru.intakeDue = true) (hi : s.oru.intake = .idle) :
    s.takeIntake = s.updOru fun o => { o with intakeDue := false, queue := o.queue ++ [.postedCount] } := by
  rw [State.takeIntake, if_pos hd]
  exact if_pos hi

/-! ### The intake's scan (R151) -/

theorem nextSlot_of_succ {i j : SlotNo} (h : j.val = i.val + 1) : nextSlot i = some j := by
  have hlt : i.val + 1 < 32 := h ▸ j.isLt
  rw [nextSlot, finOf, dif_pos hlt]
  exact congrArg some (Fin.ext h.symm)

theorem scanOn_of_idle (h : s.oru.intake = .idle) : s.scanOn = s := by
  rw [State.scanOn, h]

theorem scanOn_of_last (h : s.oru.intake = .scanning 31) : s.scanOn = s.updOru fun o => { o with intake := .idle } := by
  rw [State.scanOn, h]
  rfl

theorem scanOn_of_succ {i j : SlotNo} (h : s.oru.intake = .scanning i) (hj : j.val = i.val + 1) :
    s.scanOn = s.updOru fun o => { o with intake := .scanning j, queue := o.queue ++ [.ownerByte j] } := by
  rw [State.scanOn, h]
  dsimp only
  rw [nextSlot_of_succ hj]
  rfl

/-! ### Reads of the intake (R150, R151) -/

/-- The completion of an access leaves the Order Unit alone. -/
theorem completeAccess_oru {n : Nat} (s : State) (data : BitVec n) : (s.completeAccess data).oru = s.oru := by
  unfold State.completeAccess
  split <;> rfl

theorem completeAccess_serves {n : Nat} (data : BitVec n) (h : s.serves = true) :
    (s.completeAccess data).serves = true := by
  rw [State.serves, (completeAccess_fields s data).1]
  exact h

theorem exec_postedCount {v : BitVec 32} (h : s.serves = true) (hk : s.accessing .postedCount) :
    exec (.postedCountReadDone v) s = .next ((s.completeAccess v).takePostedCount v).settle := by
  rw [exec_postedCountReadDone, execPostedCountReadDone]
  exact onAccess_of hk (by dsimp only; rw [if_pos (completeAccess_serves v h)])

theorem exec_ownerByte {i : SlotNo} {v : Byte} (h : s.serves = true) (hk : s.accessing (.ownerByte i)) :
    exec (.ownerByteReadDone v) s = .next ((s.completeAccess v).takeOwnerByte i v).settle := by
  rw [exec_ownerByteReadDone, execOwnerByteReadDone]
  exact onAccess_of hk (by dsimp only; rw [if_pos (completeAccess_serves v h)])

theorem takePostedCount_of_same {v : BitVec 32} (h : v = s.oru.lastSeen) : s.takePostedCount v = s := if_pos h

theorem takePostedCount_of_changed {v : BitVec 32} (h : v ≠ s.oru.lastSeen) (hi : s.oru.intake = .idle) :
    s.takePostedCount v = s.updOru fun o => { o with
      lastSeen := v, intake := .scanning 0, queue := o.queue ++ [.ownerByte 0] } := by
  rw [State.takePostedCount, if_neg h]
  exact if_pos hi

theorem takeOwnerByte_of_posted {i : SlotNo} (h : s.inFlightAt i = none) :
    s.takeOwnerByte i 1 = s.ask [.slotRead i, .takenWrite i] :=
  if_pos ⟨rfl, by rw [h]; rfl⟩

theorem takeOwnerByte_of_other {i : SlotNo} {v : Byte} (h : v ≠ 1 ∨ s.inFlightAt i ≠ none) :
    s.takeOwnerByte i v = s.scanOn := by
  refine if_neg fun ⟨hv, hn⟩ => ?_
  rcases h with h | h
  · exact h hv
  · exact h (Option.isNone_iff_eq_none.mp hn)

/-- Settles O42: the folds of a mark's work, each piece as its own command, and the intake's reads. -/
theorem marksAndTheIntake : Obligations.MarksAndTheIntake := by
  refine ⟨fun s j k m l r a e d => ⟨isDue_iff s, fun p => rfl, ?_, ?_, ?_, ?_⟩,
    fun s => ⟨scanOn_of_idle, scanOn_of_last, fun i j => scanOn_of_succ⟩, fun s hs => ?_, fun s hs => ?_,
    fun s hs => ⟨fun hd hi => ?_, fun hk hi v => ⟨fun hv => ?_, fun hv => ?_⟩, fun i v hk hi => ⟨?_, fun hn => ⟨?_, ?_⟩⟩⟩⟩
  · rintro rfl rfl rfl
    rfl
  · rintro rfl
    rfl
  · rintro rfl rfl rfl
    rfl
  · rintro rfl
    rfl
  · obtain ⟨hr, hp, hpl, hm, -⟩ := still_fields s.dueWork_still
    obtain ⟨hi, hd⟩ := dueWork_oru s
    exact ⟨exec_frameMark_of_serves hs, hr, hi, hpl, hp, hm, hd, dueWork_of_nothingDue⟩
  · have take := whileServing_of hs
    refine ⟨⟨rfl, ?_, ?_⟩, fun b => ⟨?_, ?_, ?_, ?_, ?_⟩, fun h => ⟨?_, ?_⟩, fun c => ⟨?_, ?_, ?_, ?_⟩⟩
    · rw [exec_orderIntake, take]
    · rw [exec_switchBatchDelivery, take]
    · rw [exec_joinTimerExpiry, take]
    · rw [exec_silenceTimerExpiry, take]
    · rw [exec_headRetransmit, take]
    · rw [exec_headAnswerTimeout, take]
    · rw [exec_drainLimitExpiry, take]
    · rw [exec_lifetimeExpiry, take]
    · rw [exec_roundTimerExpiry, take]
    · rw [exec_reserveTimerExpiry, take]
    · rw [exec_arrivalTimerExpiry, take]
    · rw [exec_settleTimerExpiry, take]
    · rw [exec_holdTimerExpiry, take]
  · rw [exec_orderIntake, whileServing_of hs, takeIntake_of_due hd hi]
  · rw [exec_postedCount hs hk, takePostedCount_of_same (by rw [completeAccess_oru]; exact hv)]
  · rw [exec_postedCount hs hk, takePostedCount_of_changed (by rw [completeAccess_oru]; exact hv)
      (by rw [completeAccess_oru]; exact hi)]
  · rintro rfl hn
    rw [exec_ownerByte hs hk, takeOwnerByte_of_posted (by rw [State.inFlightAt, completeAccess_oru]; exact hn)]
    rfl
  · intro j hj
    rw [exec_ownerByte hs hk, takeOwnerByte_of_other (by rw [State.inFlightAt, completeAccess_oru]; exact hn),
      scanOn_of_succ (by rw [completeAccess_oru]; exact hi) hj]
  · rintro rfl
    rw [exec_ownerByte hs hk, takeOwnerByte_of_other (by rw [State.inFlightAt, completeAccess_oru]; exact hn),
      scanOn_of_last (by rw [completeAccess_oru]; exact hi)]

end Sys2Proof.Machine
end

section
/-! SUPPORT. The clamps of the plan (R2, R3, R21, R43, R57, R76, R77, R95, R111, R147), AMEND PLAN (R155; O46) and
start-up (R160; O49). -/

namespace Sys2Proof.Machine

open Sys2Proof

variable {s : State}

/-! ### Clamps -/

theorem readAs_clampTo {lo hi : Nat} (h : lo ≤ hi) (n : Nat) : readAs lo hi n (clampTo lo hi n) := by
  unfold readAs clampTo
  refine ⟨fun h1 => if_pos h1, fun h1 h2 => ?_, fun h1 => ?_⟩
  · rw [if_neg (by omega), if_neg (by omega)]
  · rw [if_neg (by omega), if_pos h1]

theorem clampTo_le {lo hi : Nat} (h : lo ≤ hi) (n : Nat) : clampTo lo hi n ≤ hi := by
  unfold clampTo
  split
  · exact h
  · split <;> omega

@[simp] theorem outOfRange_nil (w : BitVec 256) : outOfRange w [] = 0 := rfl

/-- Each field outside its range counts once. -/
@[simp] theorem outOfRange_cons (w : BitVec 256) (i lo hi : Nat) (r : List (Nat × Nat × Nat)) :
    outOfRange w ((i, lo, hi) :: r) = clampCount lo hi (byteNat w i) + outOfRange w r := by
  unfold outOfRange clampCount
  rw [List.filter_cons]
  by_cases h : byteNat w i < lo ∨ hi < byteNat w i
  · rw [if_pos (by simpa using h), if_pos h, List.length_cons, Nat.add_comm]
  · rw [if_neg (by simpa using h), if_neg h, Nat.zero_add]

theorem noticeOf_eq (n : Nat) : noticeOf n = if n = 1 then .edge else if n = 2 then .level else .off := by
  unfold noticeOf
  split
  · rfl
  · rfl
  · next h1 h2 => rw [if_neg h1, if_neg h2]

theorem readAs_zoneNoOf (n : Nat) : readAs 0 15 n (zoneNoOf n).val := by
  unfold readAs zoneNoOf
  refine ⟨fun h => absurd h (Nat.not_lt_zero n), fun _ h => ?_, fun h => ?_⟩
  · rw [dif_pos (by omega)]
  · rw [dif_neg (by omega)]
    rfl

theorem levelOffsetOf_eq_iff (b : Byte) : levelOffsetOf b = b.toInt ↔ ¬(b.toInt < -16 ∨ 15 < b.toInt) := by
  unfold levelOffsetOf
  split
  · omega
  · split <;> omega

/-- The ranges of a header's parameters (Table 9-3). -/
theorem headerOf_ranges (w : BitVec 256) :
    readAs 2 255 (byteNat w 0) (headerOf w).joinLimit ∧ readAs 12 255 (byteNat w 1) (headerOf w).silenceLimit ∧
    readAs 0 3 (byteNat w 2) (headerOf w).retryCode ∧
    (headerOf w).retryAction = (if byteNat w 3 = 1 then .declareLost else .discard) ∧
    readAs 1 255 (byteNat w 4) (headerOf w).standardLife ∧ readAs 1 255 (byteNat w 5) (headerOf w).priorityLife ∧
    readAs 1 8 (byteNat w 6) (headerOf w).homeRounds ∧ readAs 4 255 (byteNat w 7) (headerOf w).pageSpacing ∧
    readAs 1 16 (byteNat w 8) (headerOf w).burst := by
  refine ⟨?_, ?_, ?_, rfl, ?_, ?_, ?_, ?_, ?_⟩ <;> exact readAs_clampTo (by decide) _

theorem headerClamps_eq (w : BitVec 256) : headerClamps w = outOfRange w [(0, 2, 255), (1, 12, 255), (2, 0, 3),
    (3, 0, 1), (4, 1, 255), (5, 1, 255), (6, 1, 8), (7, 4, 255), (8, 1, 16)] := by
  simp only [headerClamps, outOfRange_cons, outOfRange_nil, Nat.add_assoc, Nat.add_zero]

theorem zoneClamps_eq (w : BitVec 256) : zoneClamps w = outOfRange w [(0, 0, 5), (1, 1, 15), (2, 0, 127),
    (3, (zoneOf w).weak, 127), (4, 0, 15), (5, 1, 8), (6, 0, 2), (7, 0, 15), (8, 0, (zoneOf w).margin), (9, 0, 3),
    (10, 1, 8), (13, 0, 1), (14, 0, 3), (15, 2, 31), (16, 2, 63)] := by
  simp only [zoneClamps, zoneOf, outOfRange_cons, outOfRange_nil, Nat.add_assoc, Nat.add_zero]

theorem baseClamps_eq (w : BitVec 256) : baseClamps w =
    outOfRange w [(0, 0, 1), (1, 0, 15), (2, 1, 8), (4, 0, 7)] +
      (if (byteOf w 3).toInt < -16 ∨ 15 < (byteOf w 3).toInt then 1 else 0) := by
  simp only [baseClamps, levelOffsetOf_eq_iff, ite_not, outOfRange_cons, outOfRange_nil]
  omega

/-! ### The completion of an access leaves the tables alone -/

section
variable {n : Nat} (s : State) (data : BitVec n)

@[simp] theorem completeAccess_links : (s.completeAccess data).links = s.links := by
  unfold State.completeAccess
  split <;> rfl
@[simp] theorem completeAccess_plan : (s.completeAccess data).plan = s.plan := by
  unfold State.completeAccess
  split <;> rfl
@[simp] theorem completeAccess_acu : (s.completeAccess data).acu = s.acu := by
  unfold State.completeAccess
  split <;> rfl
@[simp] theorem completeAccess_regs : (s.completeAccess data).regs = s.regs := (completeAccess_fields s data).1
theorem completeAccess_access : (s.completeAccess data).port.access = none := by
  unfold State.completeAccess
  split
  · rfl
  · next h => exact h

end

/-! ### AMEND PLAN (R155) -/

theorem handBack_acu (s : State) (i : SlotNo) (r : OrderResult) : (s.handBack i r).acu = s.acu := by
  unfold State.handBack
  dsimp only
  split <;> rfl

theorem handBack_plan (s : State) (i : SlotNo) (r : OrderResult) : (s.handBack i r).plan = s.plan :=
  (still_fields (s.handBack_still i r)).2.2.1

/-- The answer is asked for in the same way whatever the other tables hold (R153). -/
theorem handBack_oru_congr {s t : State} (h : t.oru = s.oru) (i : SlotNo) (r : OrderResult) :
    (t.handBack i r).oru = (s.handBack i r).oru := by
  have key : ∀ u : State, (u.handBack i r).oru = { u.oru with
      inFlight := enterAnswering i u.oru.inFlight
      queue := u.oru.queue ++ [.resultWrite i r, .answeredWrite i] } := by
    intro u
    unfold State.handBack
    dsimp only
    split <;> rfl
  rw [key, key, h]

theorem noteClamps_devicePending (s : State) (n : Nat) :
    (s.noteClamps n).acu.devicePending = s.acu.devicePending ||| (if 0 < n then attnPlanClamped else 0) := by
  unfold State.noteClamps
  split
  · rfl
  · simp

/-- The end of an AMEND PLAN that is applied: the clamps noted and the answer asked for (R155). -/
def State.answerAmend (s : State) (i : SlotNo) (n : Nat) : State :=
  (s.noteClamps n).handBack i (plainResult (.done .ok) n)

theorem noteClamps_oru (s : State) (n : Nat) : (s.noteClamps n).oru = s.oru := by
  unfold State.noteClamps
  split <;> rfl

theorem noteClamps_plan (s : State) (n : Nat) : (s.noteClamps n).plan = s.plan := by
  unfold State.noteClamps
  split <;> rfl

theorem noteClamps_links (s : State) (n : Nat) : (s.noteClamps n).links = s.links := by
  unfold State.noteClamps
  split <;> rfl

theorem answerAmend_plan (s : State) (i : SlotNo) (n : Nat) : (s.answerAmend i n).plan = s.plan := by
  rw [State.answerAmend, handBack_plan, noteClamps_plan]

theorem answerAmend_links (s : State) (i : SlotNo) (n : Nat) : (s.answerAmend i n).links = s.links := by
  rw [State.answerAmend, handBack_links, noteClamps_links]

theorem answerAmend_devicePending (s : State) (i : SlotNo) (n : Nat) :
    (s.answerAmend i n).acu.devicePending = s.acu.devicePending ||| (if 0 < n then attnPlanClamped else 0) := by
  rw [State.answerAmend, handBack_acu, noteClamps_devicePending]

theorem answerAmend_oru {s t : State} (h : t.oru = s.oru) (i : SlotNo) (n : Nat) :
    (t.answerAmend i n).oru = (s.handBack i ⟨.done .ok, n, []⟩).oru :=
  handBack_oru_congr ((noteClamps_oru t n).trans h) i _

/-- All that an AMEND PLAN which is applied leaves alone. -/
theorem answerAmend_frame {s t : State} (i : SlotNo) (n : Nat)
    (h : { t with links := s.links, plan := s.plan, acu := s.acu, oru := s.oru } = s) :
    { t.answerAmend i n with links := s.links, plan := s.plan, acu := s.acu, oru := s.oru } = s := by
  refine Eq.trans ?_ h
  unfold State.answerAmend State.noteClamps
  split <;> rfl

theorem exec_planRecord {i : SlotNo} {r : PlanRecord} {w : BitVec 256} (h : s.serves = true)
    (hk : s.accessing (.planRead i r)) :
    exec (.planRecordReadDone w) s = .next ((s.completeAccess w).takePlanRecord i r w).settle := by
  rw [exec_planRecordReadDone, execPlanRecordReadDone]
  exact onAccess_of hk (by dsimp only; rw [if_pos (completeAccess_serves w h)])

theorem takePlanRecord_zone (s : State) (i : SlotNo) (z : ZoneNo) (w : BitVec 256) :
    s.takePlanRecord i (.zone z) w = (s.applyZone z (zoneOf w)).answerAmend i (zoneClamps w) := rfl

theorem amendInService_iff {b : BaseNo} {r : BaseRecord} : s.amendInService b r = true ↔
    linkActive (s.service b) = true ∧ (r.zone ≠ s.links[b].zone ∨ r.count ≠ s.links[b].planCount) := by
  unfold State.amendInService State.service
  simp only [Bool.and_eq_true, Bool.or_eq_true, bne_iff_ne]

theorem takePlanRecord_inService {i : SlotNo} {b : BaseNo} {w : BitVec 256} (ha : linkActive (s.service b) = true)
    (h : (baseOf w).zone ≠ s.links[b].zone ∨ (baseOf w).count ≠ s.links[b].planCount) :
    s.takePlanRecord i (.base b) w = s.handBack i ⟨.state .inService, 0, []⟩ :=
  if_pos (amendInService_iff.mpr ⟨ha, h⟩)

theorem takePlanRecord_base {i : SlotNo} {b : BaseNo} {w : BitVec 256} (h : linkActive (s.service b) = false ∨
      ((baseOf w).zone = s.links[b].zone ∧ (baseOf w).count = s.links[b].planCount)) :
    s.takePlanRecord i (.base b) w = (s.applyBase b (baseOf w)).answerAmend i (baseClamps w) := by
  refine if_neg fun hn => ?_
  obtain ⟨ha, hd⟩ := amendInService_iff.mp hn
  rcases h with h | ⟨hz, hc⟩
  · exact Bool.false_ne_true (h.symm.trans ha)
  · exact hd.elim (· hz) (· hc)

/-- What the record of a zone leaves of the part (R155). -/
theorem exec_planRecord_zone {i : SlotNo} {z : ZoneNo} {w : BitVec 256} (h : s.serves = true)
    (hk : s.accessing (.planRead i (.zone z))) :
    ∃ u : State, exec (.planRecordReadDone w) s = .next u.settle ∧
      u.plan = { s.plan with zones := s.plan.zones.set z (zoneOf w) } ∧
      u.acu.devicePending = s.acu.devicePending ||| (if 0 < zoneClamps w then attnPlanClamped else 0) ∧
      u.oru = ((s.completeAccess w).handBack i ⟨.done .ok, zoneClamps w, []⟩).oru ∧
      { u with plan := s.plan, acu := s.acu, oru := s.oru } = s.completeAccess w := by
  refine ⟨_, exec_planRecord h hk, ?_, ?_, ?_, ?_⟩
  · rw [takePlanRecord_zone, answerAmend_plan, State.applyZone, State.updPlan_plan, completeAccess_plan]
  · rw [takePlanRecord_zone, answerAmend_devicePending, State.applyZone, State.updPlan_acu, completeAccess_acu]
  · rw [takePlanRecord_zone]
    exact answerAmend_oru rfl i _
  · have hl : ((s.completeAccess w).takePlanRecord i (.zone z) w).links = (s.completeAccess w).links := by
      rw [takePlanRecord_zone, answerAmend_links]
      rfl
    have hf := answerAmend_frame (s := s.completeAccess w) (t := (s.completeAccess w).applyZone z (zoneOf w)) i
      (zoneClamps w) rfl
    rw [← takePlanRecord_zone, ← hl, completeAccess_plan, completeAccess_acu, completeAccess_oru] at hf
    exact hf

/-- What the record of a base leaves of the part where it may be applied (R155). -/
theorem exec_planRecord_base {i : SlotNo} {b : BaseNo} {w : BitVec 256} (h : s.serves = true)
    (hk : s.accessing (.planRead i (.base b))) (hb : linkActive (s.service b) = false ∨
      ((baseOf w).zone = s.links[b].zone ∧ (baseOf w).count = s.links[b].planCount)) :
    ∃ u : State, exec (.planRecordReadDone w) s = .next u.settle ∧
      u.links = s.links.set b { s.links[b] with
        enabled := (baseOf w).enabled, zone := (baseOf w).zone, planCount := (baseOf w).count
        effCount := if linkActive (s.service b) then s.links[b].effCount else (baseOf w).count } ∧
      u.plan = { s.plan with
        guards := s.plan.guards.set b (baseOf w).guard, offsets := s.plan.offsets.set b (baseOf w).offset } ∧
      u.acu.devicePending = s.acu.devicePending ||| (if 0 < baseClamps w then attnPlanClamped else 0) ∧
      u.oru = ((s.completeAccess w).handBack i ⟨.done .ok, baseClamps w, []⟩).oru ∧
      { u with links := s.links, plan := s.plan, acu := s.acu, oru := s.oru } = s.completeAccess w := by
  have hc : (s.completeAccess w).takePlanRecord i (.base b) w =
      ((s.completeAccess w).applyBase b (baseOf w)).answerAmend i (baseClamps w) :=
    takePlanRecord_base (by rw [State.service, completeAccess_links]; exact hb)
  refine ⟨_, exec_planRecord h hk, ?_, ?_, ?_, ?_, ?_⟩ <;> rw [hc]
  · rw [answerAmend_links, State.applyBase, State.updPlan_links, State.updLink_links, completeAccess_links]
    rfl
  · rw [answerAmend_plan, State.applyBase, State.updPlan_plan, State.updLink_plan, completeAccess_plan]
  · rw [answerAmend_devicePending, State.applyBase, State.updPlan_acu, State.updLink_acu, completeAccess_acu]
  · exact answerAmend_oru rfl i _
  · have hf := answerAmend_frame (s := s.completeAccess w) (t := (s.completeAccess w).applyBase b (baseOf w)) i
      (baseClamps w) rfl
    rw [completeAccess_links, completeAccess_plan, completeAccess_acu, completeAccess_oru] at hf
    exact hf

/-- Settles O46: the ranges of the records' fields, the request for the record, and its application. -/
theorem amendPlanAppliesItsRecord : Obligations.AmendPlanAppliesItsRecord := by
  refine ⟨fun s f => rfl, fun w => ?_, fun w => ?_, fun slot s => ⟨fun r ho => ?_, fun hs w => ⟨fun z hk => ?_,
    fun b hk => ⟨fun ha hd => ?_, fun hb => exec_planRecord_base hs hk hb⟩⟩⟩⟩
  · have r := fun lo hi (h : lo ≤ hi) i => readAs_clampTo h (byteNat w i)
    exact ⟨r 0 5 (by decide) 0, r 1 15 (by decide) 1, r 0 127 (by decide) 2, r (zoneOf w).weak 127 (clampTo_le (lo := 0) (by decide) _) 3,
      r 0 15 (by decide) 4, r 1 8 (by decide) 5, noticeOf_eq _, r 0 15 (by decide) 7, r 0 _ (Nat.zero_le _) 8,
      r 0 3 (by decide) 9, r 1 8 (by decide) 10, rfl, rfl, rfl, r 0 3 (by decide) 14, r 2 31 (by decide) 15,
      r 2 63 (by decide) 16, zoneClamps_eq w⟩
  · refine ⟨bne_iff_ne, readAs_zoneNoOf _, readAs_clampTo (by decide) _, readAs_clampTo (by decide) _, fun h => if_pos h,
      fun h => ?_, fun h1 h2 => ?_, baseClamps_eq w⟩
    · exact (if_neg (by omega)).trans (if_pos h)
    · exact (levelOffsetOf_eq_iff _).mpr (by omega)
  · rw [exec_amendPlan, takeOrder_of_offers ho]
    rfl
  · exact exec_planRecord_zone hs hk
  · rw [exec_planRecord hs hk, takePlanRecord_inService (by rw [State.service, completeAccess_links]; exact ha)
      (by rw [completeAccess_links]; exact hd)]

end Sys2Proof.Machine
end

section
/-! SUPPORT. The start-up sequence, step by step (R156, R157, R160, R162; O49). -/

namespace Sys2Proof.Machine

open Sys2Proof

variable {s : State}

/-! ### The header (R160 steps 2 and 3, R162) -/

theorem exec_startHeader_taken {v : BitVec 16} (hk : s.accessing .startHeader) (h : v = 1) :
    exec (.startupHeaderReadDone v) s = .next ((s.completeAccess v).ask [.startParams]).settle := by
  rw [exec_startupHeaderReadDone, execStartupHeaderReadDone]
  exact onAccess_of hk (congrArg some (if_pos h))

theorem exec_startHeader_faulted {v : BitVec 16} (hk : s.accessing .startHeader) (h : v ≠ 1) :
    exec (.startupHeaderReadDone v) s = .next ((s.completeAccess v).faultWith .layout).settle := by
  rw [exec_startupHeaderReadDone, execStartupHeaderReadDone]
  exact onAccess_of hk (congrArg some (if_neg h))

theorem abandonAccess_of_none (h : s.port.access = none) : s.abandonAccess = s := by
  rw [State.abandonAccess, h]

/-- A fault with no access in progress: the tables are cleared, and the rest stays (R162). -/
theorem faultWith_of_no_access (f : FaultCode) (h : s.port.access = none) :
    s.faultWith f = s.clearTables.updRegs fun r => { r with
      part := .faulted, fault := f, halting := false, haltSlots := [] } := by
  rw [State.faultWith, abandonAccess_of_none h]

/-! ### The plan (R160 step 3) -/

theorem exec_startParams {w : BitVec 256} (hk : s.accessing .startParams) :
    exec (.startupPlanReadDone w) s =
      .next (((s.completeAccess w).updPlan fun p => { p with
        header := headerOf w, clamped := p.clamped || decide (0 < headerClamps w) }).ask [.startZone 0]).settle := by
  rw [exec_startupPlanReadDone, execStartupPlanReadDone]
  exact onAccess_of hk rfl

theorem afterZone_eq (z : ZoneNo) :
    afterZone z = if h : z.val + 1 < 16 then .startZone ⟨z.val + 1, h⟩ else .startBase 0 := by
  unfold afterZone finOf
  by_cases h : z.val + 1 < 16
  · rw [dif_pos h, dif_pos h]
  · rw [dif_neg h, dif_neg h]

theorem exec_startZone {w : BitVec 256} {z : ZoneNo} (hk : s.accessing (.startZone z)) :
    exec (.startupPlanReadDone w) s =
      .next (((s.completeAccess w).updPlan fun p => { p with
        zones := p.zones.set z (zoneOf w), clamped := p.clamped || decide (0 < zoneClamps w) }).ask
          [afterZone z]).settle := by
  rw [exec_startupPlanReadDone, execStartupPlanReadDone]
  exact onAccess_of hk rfl

theorem afterBase_of_lt {b : BaseNo} (h : b.val + 1 < 48) : s.afterBase b = s.ask [.startBase ⟨b.val + 1, h⟩] :=
  dif_pos h

theorem afterBase_last : s.afterBase 47 = s.startTables := dif_neg (by decide)

/-- What follows a base record touches the Order Unit and the ACU alone. -/
theorem afterBase_frame (s : State) (b : BaseNo) (a : Acu) (o : Oru) :
    { s.afterBase b with acu := a, oru := o } = { s with acu := a, oru := o } := by
  unfold State.afterBase
  split <;> rfl

/-! ### The records marked at the end of the plan (R157, R160 step 4) -/

theorem allRecords_length : allRecords.length = 768 := by
  rw [allRecords, List.length_append, List.length_map, List.length_map, List.length_finRange, List.length_finRange]

theorem allRecords_nodup : allRecords.Nodup := by
  refine List.Nodup.append ((List.nodup_finRange 512).map fun _ _ h => RecordRef.handset.inj h)
    ((List.nodup_finRange 256).map fun _ _ h => RecordRef.call.inj h) fun x hx hy => ?_
  obtain ⟨h, -, rfl⟩ := List.mem_map.mp hx
  obtain ⟨c, -, hc⟩ := List.mem_map.mp hy
  cases hc

/-- What the record of a base leaves of the part (R160 steps 3 and 4). -/
theorem exec_startBase_tables {w : BitVec 256} {b : BaseNo} (hk : s.accessing (.startBase b)) :
    ∃ u : State, exec (.startupPlanReadDone w) s = .next u.settle ∧
      u.links = s.links.set b (loadedLink (baseOf w)) ∧
      u.plan = { s.plan with
        guards := s.plan.guards.set b (baseOf w).guard, offsets := s.plan.offsets.set b (baseOf w).offset
        clamped := s.plan.clamped || decide (0 < baseClamps w) } ∧
      { u with links := s.links, plan := s.plan, acu := s.acu, oru := s.oru } = s.completeAccess w ∧
      (∀ h : b.val + 1 < 48, u.acu = s.acu ∧
        u.oru = { s.oru with queue := s.oru.queue ++ [.startBase ⟨b.val + 1, h⟩] }) ∧
      (b = 47 → u.oru = s.oru ∧ u.acu.queue.length = 768 ∧ u.acu.queue.Nodup ∧ u.acu.job = some (.zero 0) ∧
        (∀ h : HandsetNo, u.acu.handsetMarks[h] = some 0) ∧ ∀ c : CallNo, u.acu.callMarks[c] = some 0) := by
  have hl : ((s.completeAccess w).startBaseLoaded b w).links = s.links.set b (loadedLink (baseOf w)) := by
    rw [← completeAccess_links s w]
    rfl
  have hp : ((s.completeAccess w).startBaseLoaded b w).plan = { s.plan with
      guards := s.plan.guards.set b (baseOf w).guard, offsets := s.plan.offsets.set b (baseOf w).offset
      clamped := s.plan.clamped || decide (0 < baseClamps w) } := by
    rw [← completeAccess_plan s w]
    rfl
  have ha : ((s.completeAccess w).startBaseLoaded b w).acu = s.acu := completeAccess_acu s w
  have ho : ((s.completeAccess w).startBaseLoaded b w).oru = s.oru := completeAccess_oru s w
  have hf : { (s.completeAccess w).startBaseLoaded b w with
      links := s.links, plan := s.plan, acu := s.acu, oru := s.oru } = s.completeAccess w := by
    rw [← completeAccess_links s w, ← completeAccess_plan s w, ← completeAccess_acu s w, ← completeAccess_oru s w]
    rfl
  refine ⟨_, exec_startBase_read hk, ?_⟩
  generalize (s.completeAccess w).startBaseLoaded b w = v at hl hp ha ho hf
  refine ⟨?_, ?_, ?_, fun h => ?_, ?_⟩
  · exact (congrArg State.links (afterBase_frame v b s.acu s.oru)).trans hl
  · exact (congrArg State.plan (afterBase_frame v b s.acu s.oru)).trans hp
  · exact (congrArg (fun u : State => { u with links := s.links, plan := s.plan }) (afterBase_frame v b s.acu s.oru)).trans hf
  · rw [afterBase_of_lt h]
    exact ⟨ha, by rw [← ho]; rfl⟩
  · rintro rfl
    rw [afterBase_last]
    exact ⟨ho, allRecords_length, allRecords_nodup, rfl, getElem_replicate_fin _, getElem_replicate_fin _⟩

/-! ### Zeros, slots and counts (R156, R160 steps 5 to 8) -/

theorem exec_zeroWrite {n : Nat} (hk : s.accessing (.zeroWrite n)) :
    exec .startupZeroWriteDone s = .next (if n + 1 < Config.zeroWrites then
        (s.completeAccess (0 : BitVec 0)).setJob (some (.zero (n + 1)))
      else ((s.completeAccess (0 : BitVec 0)).setJob none).ask [.scanOwner 0]).settle := by
  rw [exec_startupZeroWriteDone, execStartupZeroWriteDone]
  exact onAccess_of hk rfl

theorem afterScan_eq (i : SlotNo) (v : Byte) : afterScan i v =
    (if v = 2 then [.resultWrite i ⟨.cancelled .restart, 0, []⟩, .answeredWrite i] else []) ++
      [if h : i.val + 1 < 32 then .scanOwner ⟨i.val + 1, h⟩ else .postedCount] := by
  unfold afterScan nextSlot finOf
  by_cases h : i.val + 1 < 32
  · rw [dif_pos h, dif_pos h]
    rfl
  · rw [dif_neg h, dif_neg h]
    rfl

theorem exec_scanOwner {i : SlotNo} {v : Byte} (hk : s.accessing (.scanOwner i)) :
    exec (.startupSlotScanReadDone v) s = .next ((s.completeAccess v).ask (afterScan i v)).settle := by
  rw [exec_startupSlotScanReadDone, execStartupSlotScanReadDone]
  exact onAccess_of hk rfl

theorem exec_postedCount_starting {v : BitVec 32} (hp : s.regs.part = .starting) (hk : s.accessing .postedCount) :
    exec (.postedCountReadDone v) s =
      .next (((s.completeAccess v).updOru fun o => { o with lastSeen := v }).ask [.startCountRead]).settle := by
  have hs : (s.completeAccess v).serves = false := not_serves_of_part (by rw [completeAccess_regs, hp]; decide)
  rw [exec_postedCountReadDone, execPostedCountReadDone]
  refine onAccess_of hk ?_
  dsimp only
  rw [hs, if_neg Bool.false_ne_true, if_pos (by rw [completeAccess_regs]; exact hp)]

theorem exec_startCountRead {n : BitVec 32} (hk : s.accessing .startCountRead) :
    exec (.startCountAccessDone n) s = .next ((s.completeAccess n).ask [.startCountWrite (n + 1)]).settle := by
  rw [exec_startCountAccessDone, execStartCountAccessDone]
  exact onAccess_of hk rfl

theorem exec_startCountWrite {n v : BitVec 32} (hk : s.accessing (.startCountWrite v)) :
    exec (.startCountAccessDone n) s = .next (s.completeAccess n).enterRunning.settle := by
  rw [exec_startCountAccessDone, execStartCountAccessDone]
  exact onAccess_of hk rfl

/-- What the entry into RUNNING changes (R160 steps 7 and 8). -/
theorem enterRunning_frame (s : State) :
    { s.enterRunning with
      regs := s.regs, acu := { s.enterRunning.acu with devicePending := s.acu.devicePending } } = s := rfl

/-- What a layout that is not version 1 leaves (R162). -/
theorem exec_startHeader_fault_tables {v : BitVec 16} (hk : s.accessing .startHeader) (h : v ≠ 1) :
    ∃ u : State, exec (.startupHeaderReadDone v) s = .next u.settle ∧
      u.regs = { s.regs with part := .faulted, fault := .layout, halting := false, haltSlots := [] } ∧
      u.wire = s.wire ∧ u.pending = s.pending ∧ u.mem = (s.completeAccess v).mem ∧
      { u with regs := .start, mem := [], wire := [], pending := [] } = State.reset := by
  obtain ⟨hr, hp, hw⟩ := completeAccess_fields s v
  refine ⟨_, exec_startHeader_faulted hk h, ?_⟩
  rw [faultWith_of_no_access _ (completeAccess_access s v)]
  refine ⟨?_, hw, hp, rfl, rfl⟩
  rw [← hr]
  rfl

/-- What the completed write of the start count leaves (R160 steps 7 and 8). -/
theorem exec_startCountWrite_tables {n v : BitVec 32} (hk : s.accessing (.startCountWrite v)) :
    ∃ u : State, exec (.startCountAccessDone n) s = .next u.settle ∧
      u.regs = { s.regs with part := .running, frame := 0 } ∧
      u.acu.devicePending =
        s.acu.devicePending ||| (if s.plan.clamped then attnRestarted ||| attnPlanClamped else attnRestarted) ∧
      { u with regs := s.regs, acu := { u.acu with devicePending := s.acu.devicePending } } = s.completeAccess n := by
  refine ⟨_, exec_startCountWrite hk, ?_, ?_, ?_⟩
  · rw [← completeAccess_regs s n]
    rfl
  · rw [← completeAccess_acu s n, ← completeAccess_plan s n]
    rfl
  · have hf := enterRunning_frame (s.completeAccess n)
    rw [completeAccess_regs, completeAccess_acu] at hf
    exact hf

/-- Settles O49: the header's ranges, and each step of start-up from its own equation. -/
theorem startupReadsThePlanAndEndsRunning : Obligations.StartupReadsThePlanAndEndsRunning := by
  refine ⟨fun w => ?_, fun s => ⟨fun v hk => ⟨fun hv => ?_, exec_startHeader_fault_tables hk⟩, fun w => ⟨fun hk => ?_,
    fun z hk => ?_, fun b hk => exec_startBase_tables hk⟩⟩, fun s => ⟨fun n hk => ⟨fun hn => ?_, fun hn => ?_⟩,
    fun i v hk => ?_, fun hp hk v => ?_, fun n => ⟨fun hk => ?_, fun v hk => exec_startCountWrite_tables hk⟩⟩⟩
  · obtain ⟨h0, h1, h2, h3, h4, h5, h6, h7, h8⟩ := headerOf_ranges w
    exact ⟨h0, h1, h2, h3, h4, h5, h6, h7, h8, headerClamps_eq w⟩
  · rw [exec_startHeader_taken hk hv]
    rfl
  · rw [exec_startParams hk]
    rfl
  · rw [exec_startZone hk, afterZone_eq]
    rfl
  · rw [exec_zeroWrite hk, if_pos hn]
    rfl
  · rw [exec_zeroWrite hk, if_neg (Nat.not_lt.mpr hn)]
    rfl
  · rw [exec_scanOwner hk, afterScan_eq]
    simp only [State.ask, List.append_assoc]
  · rw [exec_postedCount_starting hp hk]
    rfl
  · rw [exec_startCountRead hk]
    rfl

end Sys2Proof.Machine
end

section
/-! SUPPORT. The Roster Unit's operations: one equation for each change of an entry, and what an append leaves of the
tables of the Roster Unit (Chapter 2, R13). -/

namespace Sys2Proof.Machine

open Sys2Proof

variable {s t : State}

/-! ### Marks of a roster entry (R157) -/

/-- Two marks of one handset in turn are one. -/
theorem markHandset_markHandset (s : State) (h : HandsetNo) (v w : Byte) :
    (s.markHandset h v).markHandset h w = s.markHandset h (v ||| w) := by
  unfold State.markHandset
  cases hm : s.acu.handsetMarks[h] with
  | none => simp [addMark, addToQueue]
  | some old => simp [addMark, addToQueue, BitVec.or_assoc]

/-- A mark without bits adds nothing to another. -/
theorem markHandset_zero (s : State) (h : HandsetNo) (v : Byte) :
    (s.markHandset h v).markHandset h 0 = s.markHandset h v :=
  (markHandset_markHandset s h v 0).trans (congrArg _ BitVec.or_zero)

/-- The mark of a handset after bits are added to it. -/
theorem markHandset_get (s : State) (h : HandsetNo) (v : Byte) :
    (s.markHandset h v).acu.handsetMarks[h] = some (s.acu.handsetMarks[h].getD 0 ||| v) := by
  refine (getElem_set_fin _ _ _ _).trans ((if_pos rfl).trans ?_)
  cases s.acu.handsetMarks[h] with
  | none => exact congrArg some BitVec.zero_or.symm
  | some old => rfl

/-- Bits that are added are set. -/
theorem or_and_added (m v : Byte) : (m ||| v) &&& v = v := by
  rw [BitVec.or_comm]
  exact and_or_of_and BitVec.and_self

/-- A mark holds the bits that were added last. -/
theorem markHandset_holds (s : State) (h : HandsetNo) (v : Byte) :
    ∃ w, (s.markHandset h v).acu.handsetMarks[h] = some w ∧ w &&& v = v :=
  ⟨_, markHandset_get s h v, or_and_added _ v⟩

/-! ### One entry changed and marked -/

/-- Roster entry `h` is changed and marked dirty with attention bits: what every request to the roster comes to. -/
def State.changeEntry (s : State) (h : HandsetNo) (f : RosterEntry → RosterEntry) (v : Byte) : State :=
  (s.updEntry h f).markHandset h v

theorem changeEntry_self (s : State) (h : HandsetNo) (f : RosterEntry → RosterEntry) (v : Byte) :
    (s.changeEntry h f v).roster[h] = f s.roster[h] :=
  (updEntry_get s h h f).trans (if_pos rfl)

theorem changeEntry_other {h x : HandsetNo} (hx : x ≠ h) (s : State) (f : RosterEntry → RosterEntry) (v : Byte) :
    (s.changeEntry h f v).roster[x] = s.roster[x] :=
  (updEntry_get s h x f).trans (if_neg hx.symm)

theorem changeEntry_mark (s : State) (h : HandsetNo) (f : RosterEntry → RosterEntry) (v : Byte) :
    (s.changeEntry h f v).acu.handsetMarks[h] = some (s.acu.handsetMarks[h].getD 0 ||| v) :=
  markHandset_get (s.updEntry h f) h v

/-- Two changes of one entry in turn are one. -/
theorem changeEntry_changeEntry (s : State) (h : HandsetNo) (f g : RosterEntry → RosterEntry) (v w : Byte) :
    (s.changeEntry h f v).changeEntry h g w = s.changeEntry h (fun e => g (f e)) (v ||| w) := by
  have hc : (s.changeEntry h f v).updEntry h g = ((s.updEntry h f).updEntry h g).markHandset h v := rfl
  rw [State.changeEntry, hc, updEntry_updEntry, markHandset_markHandset]
  rfl

/-- A change that raises no bit, before another. -/
theorem changeEntry_zero_changeEntry (s : State) (h : HandsetNo) (f g : RosterEntry → RosterEntry) (w : Byte) :
    (s.changeEntry h f 0).changeEntry h g w = s.changeEntry h (fun e => g (f e)) w :=
  (changeEntry_changeEntry s h f g 0 w).trans (congrArg _ BitVec.zero_or)

/-- A change that raises no bit, after another. -/
theorem changeEntry_changeEntry_zero (s : State) (h : HandsetNo) (f g : RosterEntry → RosterEntry) (v : Byte) :
    (s.changeEntry h f v).changeEntry h g 0 = s.changeEntry h (fun e => g (f e)) v :=
  (changeEntry_changeEntry s h f g v 0).trans (congrArg _ BitVec.or_zero)

theorem changeEntry_updEntry (s : State) (h : HandsetNo) (f g : RosterEntry → RosterEntry) (v : Byte) :
    (s.changeEntry h f v).updEntry h g = s.changeEntry h (fun e => g (f e)) v := by
  have hc : (s.changeEntry h f v).updEntry h g = ((s.updEntry h f).updEntry h g).markHandset h v := rfl
  rw [hc, updEntry_updEntry]
  rfl

/-- Only the new value of an entry counts. -/
theorem changeEntry_congr {h : HandsetNo} {f g : RosterEntry → RosterEntry} (e : f s.roster[h] = g s.roster[h])
    (v : Byte) : s.changeEntry h f v = s.changeEntry h g v := by
  rw [State.changeEntry, updEntry_congr e]
  rfl

/-! ### The requests (R33 to R37) -/

/-- The bits that a location request raises: LOC where the last base changes (R33). -/
def State.locationBits (s : State) (h : HandsetNo) (b : BaseNo) : Byte :=
  if s.roster[h].lastBase = b then 0 else attnLoc

theorem locate_of_registered {h : HandsetNo} (hr : s.roster[h].registered = true) (b : BaseNo) :
    s.locate h b =
      s.changeEntry h (fun e => { e with lastBase := b, lastZone := s.links[b].zone }) (s.locationBits h b) :=
  if_pos hr

theorem locate_of_free {h : HandsetNo} (hr : s.roster[h].registered = false) (b : BaseNo) : s.locate h b = s :=
  if_neg (by rw [hr]; decide)

theorem heard_of_registered {h : HandsetNo} (hr : s.roster[h].registered = true) :
    s.heard h = s.changeEntry h (fun e => { e with heardFrame := s.now }) 0 :=
  if_pos hr

theorem heard_of_free {h : HandsetNo} (hr : s.roster[h].registered = false) : s.heard h = s :=
  if_neg (by rw [hr]; decide)

theorem bindCall_of_idle {h : HandsetNo} (hr : s.roster[h].registered = true) (hc : s.roster[h].call = none)
    (c : CallNo) : s.bindCall h c = s.changeEntry h (fun e => { e with call := some c, expiry := none }) attnCall :=
  if_pos (by rw [hr, hc]; rfl)

theorem bindCall_of_free {h : HandsetNo} (hr : s.roster[h].registered = false) (c : CallNo) : s.bindCall h c = s :=
  if_neg (by rw [hr]; exact Bool.false_ne_true)

theorem bindCall_of_call {h : HandsetNo} {c : CallNo} (hc : s.roster[h].call = some c) (d : CallNo) :
    s.bindCall h d = s :=
  if_neg (by rw [hc, Option.isNone_some, Bool.and_false]; exact Bool.false_ne_true)

theorem unbindCall_of_call {h : HandsetNo} {c : CallNo} (hr : s.roster[h].registered = true)
    (hc : s.roster[h].call = some c) :
    s.unbindCall h =
      s.changeEntry h (fun e => { e with call := none, expiry := some (s.after (s.lifetime e.cls)) }) attnCall :=
  if_pos (by rw [hr, hc]; rfl)

theorem unbindCall_of_free {h : HandsetNo} (hr : s.roster[h].registered = false) : s.unbindCall h = s :=
  if_neg (by rw [hr]; exact Bool.false_ne_true)

theorem unbindCall_of_idle {h : HandsetNo} (hc : s.roster[h].call = none) : s.unbindCall h = s :=
  if_neg (by rw [hc, Option.isSome_none, Bool.and_false]; exact Bool.false_ne_true)

/-- A call unbind changes no entry but its own. -/
theorem unbindCall_other {h x : HandsetNo} (hx : x ≠ h) (s : State) : (s.unbindCall h).roster[x] = s.roster[x] := by
  unfold State.unbindCall
  split
  · exact changeEntry_other hx s _ attnCall
  · rfl

/-- The lifetime's expiry as the renewal of an entry leaves it: stopped while it has a call (R35). -/
def State.renewedExpiry (s : State) (e : RosterEntry) : Option FrameCount :=
  if e.call.isSome then none else some (s.after (s.lifetime e.cls))

theorem renewedExpiry_of_idle {e : RosterEntry} (h : e.call = none) :
    s.renewedExpiry e = some (s.after (s.lifetime e.cls)) := by
  rw [State.renewedExpiry, h, Option.isSome_none, if_neg Bool.false_ne_true]

theorem renew_eq (s : State) (h : HandsetNo) :
    s.renew h = s.changeEntry h (fun e => { e with expiry := s.renewedExpiry e }) 0 := rfl

/-- The end of a lifetime depends on the frame count and the plan alone. -/
theorem lifetimeEnd_of_still (h : t.still = s.still) (k : HandsetClass) :
    t.after (t.lifetime k) = s.after (s.lifetime k) := by
  obtain ⟨hr, -, hp, -⟩ := still_fields h
  have hl : t.lifetime k = s.lifetime k := by
    cases k <;> simp only [State.lifetime, hp]
  rw [hl, State.after, State.after, hr]

/-- A timer of `l` frames expires `l` marks after the present one, modulo 2^32 (R5). -/
theorem after_toNat (s : State) (l : Nat) : (s.after l).toNat = (s.now.toNat + l) % 2 ^ 32 := by
  rw [State.after, BitVec.toNat_add, BitVec.toNat_ofNat, Nat.add_mod_mod]
  rfl

/-- Settles O17: the lifetimes and timers, and each request by what the entry holds. -/
theorem rosterRequests : Obligations.RosterRequests := by
  refine ⟨fun s => ⟨rfl, rfl, rfl, after_toNat s⟩, fun s h f l k => ⟨rfl, rfl⟩, fun s h => ⟨fun hr => ?_, fun hr => ?_⟩⟩
  · exact ⟨locate_of_registered hr, heard_of_registered hr,
      fun hc => ⟨unbindCall_of_idle hc, bindCall_of_idle hr hc⟩,
      fun c hc => ⟨unbindCall_of_call hr hc, bindCall_of_call hc⟩⟩
  · exact ⟨heard_of_free hr, unbindCall_of_free hr, locate_of_free hr, bindCall_of_free hr⟩

/-! ### The roster search (R23) -/

theorem registeredWith_some {i : Identity} {h : HandsetNo} (e : s.registeredWith i = some h) :
    s.roster[h].registered = true ∧ s.roster[h].identity = i := by
  simpa using (lowestWhere_some e).1

theorem registeredWith_eq_none {i : Identity} :
    s.registeredWith i = none ↔ ∀ h : HandsetNo, s.roster[h].registered = true → s.roster[h].identity ≠ i := by
  rw [State.registeredWith, lowestWhere_none]
  exact forall_congr' fun h => by simp

/-! ### An append and the tables of the Roster Unit (R13) -/

/-- The state with the roster, the pending attach list, the lookup and the marks of another. -/
def State.withRosterOf (s t : State) : State :=
  { s with roster := t.roster, attaches := t.attaches, lookup := t.lookup, acu := t.acu }

theorem enqueue_withRosterOf (s t : State) (b : BaseNo) (m : Downlink) :
    (s.withRosterOf t).enqueue b m = (s.enqueue b m).withRosterOf t := by
  by_cases h : s.links[b].queue = []
  · rw [enqueue_of_nil (s := s.withRosterOf t) h, enqueue_of_nil h]
    rfl
  · rw [enqueue_of_ne_nil (s := s.withRosterOf t) h, enqueue_of_ne_nil h]
    rfl

/-- An append neither reads nor changes the tables of the Roster Unit. -/
theorem append_withRosterOf (s t : State) (b : BaseNo) (m : Downlink) :
    (s.withRosterOf t).append b m = ((s.append b m).1.withRosterOf t, (s.append b m).2) := by
  rcases append_cases s b m with ⟨h, e⟩ | ⟨h, e⟩ <;> rw [e]
  · rw [append_of_taken (s := s.withRosterOf t) h, enqueue_withRosterOf]
  · rw [append_of_refused (s := s.withRosterOf t) h]
    rfl

theorem send_withRosterOf (s t : State) (b : BaseNo) (m : Downlink) :
    (s.withRosterOf t).send b m = (s.send b m).withRosterOf t :=
  congrArg Prod.fst (append_withRosterOf s t b m)

/-- All that a message taken into a queue leaves alone (R13). -/
theorem enqueue_frame (s : State) (b : BaseNo) (m : Downlink) :
    { s.enqueue b m with links := s.links, wire := s.wire } = s := by
  by_cases h : s.links[b].queue = []
  · rw [enqueue_of_nil h]
    rfl
  · rw [enqueue_of_ne_nil h]
    rfl

/-- All that an append leaves alone (R13). -/
theorem send_frame (s : State) (b : BaseNo) (m : Downlink) :
    { s.send b m with links := s.links, wire := s.wire, counters := s.counters } = s := by
  unfold State.send
  rcases append_cases s b m with ⟨-, e⟩ | ⟨-, e⟩ <;> rw [e]
  · exact congrArg (fun u : State => { u with counters := s.counters }) (enqueue_frame s b m)
  · rfl

section
variable (s : State) (b : BaseNo) (m : Downlink)

@[simp] theorem enqueue_counters : (s.enqueue b m).counters = s.counters :=
  (congrArg State.counters (enqueue_frame s b m) :)
@[simp] theorem send_roster : (s.send b m).roster = s.roster := (congrArg State.roster (send_frame s b m) :)
@[simp] theorem send_pages : (s.send b m).pages = s.pages := (congrArg State.pages (send_frame s b m) :)
@[simp] theorem send_calls : (s.send b m).calls = s.calls := (congrArg State.calls (send_frame s b m) :)
@[simp] theorem send_acu : (s.send b m).acu = s.acu := (congrArg State.acu (send_frame s b m) :)

/-- A message taken into a queue leaves the zone of every link. -/
theorem enqueue_zone (x : BaseNo) : (s.enqueue b m).links[x].zone = s.links[x].zone := by
  have key : ∀ f : Link → Link, (f s.links[b]).zone = s.links[b].zone →
      (s.updLink b f).links[x].zone = s.links[x].zone := by
    intro f hf
    rw [updLink_get]
    split
    · next e => subst e; exact hf
    · rfl
  by_cases h : s.links[b].queue = []
  · rw [enqueue_of_nil h]
    exact key (fun l => { l with queue := [m], head := some s.freshHead }) rfl
  · rw [enqueue_of_ne_nil h]
    exact key (fun l => { l with queue := l.queue ++ [m] }) rfl

theorem send_zone (x : BaseNo) : (s.send b m).links[x].zone = s.links[x].zone := by
  unfold State.send
  rcases append_cases s b m with ⟨-, e⟩ | ⟨-, e⟩ <;> rw [e]
  · exact enqueue_zone s b m x
  · rfl

end

end Sys2Proof.Machine
end

section
/-! SUPPORT. ATTACH of an unknown handset, REFRESH, and the subscription lookup (R22 to R32; O11, O12, O15, O16). -/

namespace Sys2Proof.Machine

open Sys2Proof

variable {s : State} {b : BaseNo}

/-! ### Messages from a base in service (R7, R22) -/

/-- A restarted silence timer leaves everything but its link alone (R7). -/
theorem restartSilence_frame (s : State) (b : BaseNo) : { s.restartSilence b with links := s.links } = s := by
  unfold State.restartSilence
  split <;> rfl

section
variable (s : State) (b : BaseNo)

@[simp] theorem restartSilence_roster : (s.restartSilence b).roster = s.roster :=
  (congrArg State.roster (restartSilence_frame s b) :)
@[simp] theorem restartSilence_attaches : (s.restartSilence b).attaches = s.attaches :=
  (congrArg State.attaches (restartSilence_frame s b) :)
@[simp] theorem restartSilence_lookup : (s.restartSilence b).lookup = s.lookup :=
  (congrArg State.lookup (restartSilence_frame s b) :)
@[simp] theorem restartSilence_calls : (s.restartSilence b).calls = s.calls :=
  (congrArg State.calls (restartSilence_frame s b) :)
@[simp] theorem restartSilence_acu : (s.restartSilence b).acu = s.acu :=
  (congrArg State.acu (restartSilence_frame s b) :)
@[simp] theorem restartSilence_counters : (s.restartSilence b).counters = s.counters :=
  (congrArg State.counters (restartSilence_frame s b) :)
@[simp] theorem restartSilence_pages : (s.restartSilence b).pages = s.pages :=
  (congrArg State.pages (restartSilence_frame s b) :)
@[simp] theorem restartSilence_oru : (s.restartSilence b).oru = s.oru :=
  (congrArg State.oru (restartSilence_frame s b) :)
@[simp] theorem restartSilence_registeredWith (i : Identity) :
    (s.restartSilence b).registeredWith i = s.registeredWith i := by
  rw [State.registeredWith, restartSilence_roster]
  rfl
@[simp] theorem restartSilence_now : (s.restartSilence b).now = s.now :=
  (congrArg State.now (restartSilence_frame s b) :)

end

theorem State.carries.active (h : s.carries b) : linkActive (s.service b) = true := linkActive_inService h.2

theorem restartSilence_zone (h : s.carries b) : (s.restartSilence b).links[b].zone = s.links[b].zone := by
  rw [restartSilence_get h.active]

/-- A restarted silence timer does not bear on an append (R13). -/
theorem restartSilence_appendTaken (h : s.carries b) : (s.restartSilence b).appendTaken b = s.appendTaken b := by
  rw [State.appendTaken, restartSilence_get h.active]
  rfl

/-- A message for a block is taken from a base SERVING or DRAINING (R22). -/
theorem messageFrom_inService {f : State → State} (h : s.carries b) :
    s.messageFrom b (fun t => t.fromServing b f) = .next (f (s.restartSilence b)).settle := by
  rw [messageFrom_active h.1 h.active, State.fromServing, if_neg]
  rw [State.service, restartSilence_get h.active]
  rintro e
  rcases h.2 with hv | hv <;> exact absurd (hv.symm.trans e) (by decide)

theorem exec_attach_inService (h : s.carries b) (i : Identity) :
    exec (.attach b i) s = .next ((s.restartSilence b).takeAttach b i).settle :=
  (exec_attach s b i).trans (messageFrom_inService h)

theorem exec_refresh_inService (h : s.carries b) (x : HandsetNo) (v : BitVec 16) :
    exec (.refresh b x v) s = .next ((s.restartSilence b).takeRefresh b x v).settle :=
  (exec_refresh s b x v).trans (messageFrom_inService h)

theorem exec_detach_inService (h : s.carries b) (x : HandsetNo) :
    exec (.detach b x) s = .next ((s.restartSilence b).takeDetach x).settle :=
  (exec_detach s b x).trans (messageFrom_inService h)

/-! ### ATTACH (R23, R25, R26) -/

theorem takeAttach_of_known {i : Identity} {h : HandsetNo} (e : s.registeredWith i = some h) :
    s.takeAttach b i = s.reattach b h i := by
  rw [State.takeAttach, e]

theorem pends_iff {i : Identity} :
    (s.attaches.any fun r => r.identity == i) = true ↔ ∃ r ∈ s.attaches, r.identity = i := by
  simp only [List.any_eq_true, beq_iff_eq]

theorem takeAttach_of_pending {i : Identity} (e : s.registeredWith i = none) (h : ∃ r ∈ s.attaches, r.identity = i) :
    s.takeAttach b i =
      s.setAttaches (s.attaches.map fun r => if r.identity = i then ⟨i, b, r.arrival⟩ else r) s.lookup := by
  rw [State.takeAttach, e]
  dsimp only
  rw [if_pos (pends_iff.mpr h), mergeAttach]
  congr 1
  refine List.map_congr_left fun r _ => ?_
  split
  · next he => rw [← he]
  · rfl

/-- An identity that is neither known nor pending is answered AGAIN or joins the list (R23 steps 3 and 4). -/
theorem takeAttach_of_new {i : Identity} (e : s.registeredWith i = none) (h : ∀ r ∈ s.attaches, r.identity ≠ i) :
    s.takeAttach b i = if 8 ≤ s.attaches.length then s.answerAgain b i else s.appendAttach b i := by
  rw [State.takeAttach, e]
  dsimp only
  rw [if_neg fun hn => ?_]
  · rfl
  · obtain ⟨r, hr, hi⟩ := pends_iff.mp hn
    exact h r hr hi

/-- Settles O11: the roster search, and the ATTACH by its identity's place in the pending attach list. -/
theorem attachOfAnUnknownHandset : Obligations.AttachOfAnUnknownHandset := by
  refine ⟨fun s i => ⟨fun h e => registeredWith_some e, registeredWith_eq_none⟩,
    fun b i s hs => ⟨fun hv => messageFrom_joining hs hv, fun hc he => ?_⟩⟩
  have hr : (s.restartSilence b).registeredWith i = none := by rw [restartSilence_registeredWith, he]
  have hnew : (∀ r ∈ s.attaches, r.identity ≠ i) → (s.restartSilence b).takeAttach b i =
      if 8 ≤ s.attaches.length then (s.restartSilence b).answerAgain b i else (s.restartSilence b).appendAttach b i := by
    intro h
    rw [takeAttach_of_new hr (by rwa [restartSilence_attaches]), restartSilence_attaches]
  have hjoin : (s.restartSilence b).appendAttach b i = (s.restartSilence b).setAttaches (s.attaches ++ [⟨i, b, s.now⟩])
      (if s.attaches.isEmpty then some .count else s.lookup) := by
    rw [State.appendAttach, restartSilence_attaches, restartSilence_lookup, restartSilence_now]
  rw [exec_attach_inService hc]
  refine ⟨fun h => ?_, fun h hl => ?_, fun h h0 hl => ?_, fun h => ?_⟩
  · rw [takeAttach_of_pending hr (by rwa [restartSilence_attaches]), restartSilence_attaches, restartSilence_lookup]
  · rw [hnew h, if_pos hl]
    rfl
  · rw [hnew h, if_neg (by omega), hjoin, if_neg (by rw [List.isEmpty_iff]; exact List.ne_nil_of_length_pos h0)]
  · rw [hnew (by rw [h]; exact fun r hr => absurd hr List.not_mem_nil), if_neg (by rw [h]; decide), hjoin, h]
    rfl

/-! ### REFRESH (R32) -/

/-- An accepted REFRESH is one change of the entry, with LOC where the last base changes (R32). -/
theorem refreshEntry_eq {h : HandsetNo} (hr : s.roster[h].registered = true) :
    s.refreshEntry b h = s.changeEntry h (fun e => { e with
      heardFrame := s.now, expiry := s.renewedExpiry e, lastBase := b
      lastZone := if e.lastBase = b then e.lastZone else s.links[b].zone }) (s.locationBits h b) := by
  have hu : ((s.updEntry h fun e => { e with heardFrame := s.now }).renew h).markHandset h 0 =
      s.changeEntry h (fun e => { e with heardFrame := s.now, expiry := s.renewedExpiry e }) 0 := by
    rw [renew_eq, State.changeEntry, markHandset_zero, updEntry_updEntry]
    rfl
  unfold State.refreshEntry
  dsimp only
  rw [hu]
  split
  · next hb =>
    rw [State.locationBits, if_pos hb]
    exact changeEntry_congr (by rw [if_pos hb, ← hb]) 0
  · next hb =>
    have hl : (s.changeEntry h (fun e => { e with
        heardFrame := s.now, expiry := s.renewedExpiry e }) 0).locationBits h b = s.locationBits h b := by
      rw [State.locationBits, changeEntry_self]
      rfl
    rw [locate_of_registered (by rw [changeEntry_self]; exact hr), hl, changeEntry_zero_changeEntry]
    exact changeEntry_congr (by rw [if_neg hb]; rfl) _

/-- Settles O12: a REFRESH by its check. -/
theorem refreshRenewsOrAnswersAgain : Obligations.RefreshRenewsOrAnswersAgain := by
  refine fun b h check s hc => ⟨fun hr hk => ?_, fun hk => ?_⟩
  · refine ⟨(s.restartSilence b).refreshEntry b h, ?_, ?_⟩
    · rw [exec_refresh_inService hc, State.takeRefresh, restartSilence_roster, if_pos (by rw [hr, hk]; simp)]
    · rw [refreshEntry_eq (by rwa [restartSilence_roster])]
      refine ⟨?_, fun x hx => ?_, ?_, ?_⟩
      · rw [changeEntry_self, restartSilence_roster, restartSilence_zone hc, restartSilence_now, State.renewedExpiry,
          lifetimeEnd_of_still (s.restartSilence_still b)]
      · rw [changeEntry_other hx, restartSilence_roster]
      · rw [changeEntry_mark, restartSilence_acu, State.locationBits, restartSilence_roster]
      · rw [← restartSilence_roster s b, ← restartSilence_acu s b]
        rfl
  · rw [exec_refresh_inService hc, State.takeRefresh, restartSilence_roster, if_neg fun hn => ?_]
    · rfl
    · obtain ⟨hr, he⟩ := (Bool.and_eq_true _ _).mp hn
      exact hk.elim (fun h => Bool.false_ne_true (h.symm.trans hr)) (· (eq_of_beq he))

/-! ### The end of a lookup (R27, R29, R30) -/

theorem send_setAttaches (s : State) (l : List PendingAttach) (k : Option Lookup) (b : BaseNo) (m : Downlink) :
    (s.setAttaches l k).send b m = (s.send b m).setAttaches l k :=
  calc (s.setAttaches l k).send b m
    _ = ((s.send b m).withRosterOf s).setAttaches l k := send_withRosterOf s (s.setAttaches l k) b m
    _ = (s.send b m).setAttaches l k := by rw [← send_withRosterOf]; rfl

theorem append_eq_send (s : State) (b : BaseNo) (m : Downlink) : s.append b m = (s.send b m, s.appendTaken b) := by
  unfold State.send
  rcases append_cases s b m with ⟨h, e⟩ | ⟨h, e⟩ <;> rw [e, h]

theorem send_of_refused {m : Downlink} (h : s.appendTaken b = false) : s.send b m = s.bumpBase b .discards :=
  congrArg Prod.fst (append_of_refused h)

/-- The lookup that begins after the list has become `l` (R27). -/
def nextLookup (l : List PendingAttach) : Option Lookup := if l = [] then none else some .count

theorem startLookup_eq (s : State) : s.startLookup = s.setAttaches s.attaches (nextLookup s.attaches) := by
  unfold State.startLookup nextLookup
  cases s.attaches <;> rfl

theorem endLookup_of_answer {r : PendingAttach} {l : List PendingAttach} {f : Option (Nat × Subscription)}
    (e : s.attaches = r :: l) (h : s.service r.base = .serving ∨ s.service r.base = .draining) :
    s.endLookup f = ((s.setAttaches l none).answerLookup r f).startLookup := by
  rw [State.endLookup, e]
  dsimp only
  rw [if_pos h]

theorem endLookup_of_drop {r : PendingAttach} {l : List PendingAttach} {f : Option (Nat × Subscription)}
    (e : s.attaches = r :: l) (h : s.service r.base ≠ .serving) (h' : s.service r.base ≠ .draining) :
    s.endLookup f = (s.bump .dropped).setAttaches l (nextLookup l) := by
  rw [State.endLookup, e]
  dsimp only
  rw [if_neg (by rintro (e | e); exacts [h e, h' e]), startLookup_eq]
  rfl

/-- A lookup whose answer is a rejection (R29). -/
theorem endLookup_of_reject {r : PendingAttach} {l : List PendingAttach} {f : Option (Nat × Subscription)}
    {v : AttachVerdict} (e : s.attaches = r :: l) (h : s.service r.base = .serving ∨ s.service r.base = .draining)
    (ha : (s.setAttaches l none).answerLookup r f = (s.setAttaches l none).rejectAttach r v) :
    s.endLookup f =
      ((s.send r.base (.attachAnswer r.identity v)).bump .rejected).setAttaches l (nextLookup l) := by
  rw [endLookup_of_answer e h, ha, State.rejectAttach, send_setAttaches, startLookup_eq]
  rfl

/-- The lowest entry that satisfies a test is the one below which none does. -/
theorem lowestWhere_eq_some {α : Type} {n : Nat} {v : Vector α n} {p : α → Bool} {i : Fin n} (hi : p v[i] = true)
    (h : ∀ j < i, p v[j] = false) : lowestWhere v p = some i := by
  cases e : lowestWhere v p with
  | none => exact absurd hi (by rw [lowestWhere_none.mp e i]; decide)
  | some k =>
    obtain ⟨hk, hlow⟩ := lowestWhere_some e
    rcases lt_trichotomy i k with hlt | rfl | hlt
    · exact absurd hi (by rw [hlow i hlt]; decide)
    · rfl
    · exact absurd hk (by rw [h k hlt]; decide)

section
variable {r : PendingAttach} {pos : Nat} {e : Subscription}

theorem answerLookup_of_barred (he : e.enabled = false) :
    s.answerLookup r (some (pos, e)) = s.rejectAttach r .rejectBarred :=
  if_pos (by rw [he]; rfl)

theorem answerLookup_of_zone (he : e.enabled = true) (hz : inMask e.zoneMask s.links[r.base].zone = false) :
    s.answerLookup r (some (pos, e)) = s.rejectAttach r .rejectZone :=
  (if_neg (by rw [he]; decide)).trans (if_pos (by rw [hz]; rfl))

theorem answerLookup_of_full (he : e.enabled = true) (hz : inMask e.zoneMask s.links[r.base].zone = true)
    (hf : ∀ x : HandsetNo, s.roster[x].registered = true) :
    s.answerLookup r (some (pos, e)) = s.rejectAttach r .rejectFull := by
  refine (if_neg (by rw [he]; decide)).trans ((if_neg (by rw [hz]; decide)).trans ?_)
  rw [lowestWhere_none.mpr fun i => by rw [Bool.not_eq_false']; exact hf i]

/-- A subscription that is enabled for the zone is accepted under the lowest FREE handset number (R30). -/
theorem answerLookup_of_free {h : HandsetNo} (he : e.enabled = true)
    (hz : inMask e.zoneMask s.links[r.base].zone = true) (hf : s.roster[h].registered = false)
    (hlow : ∀ x < h, s.roster[x].registered = true) :
    s.answerLookup r (some (pos, e)) = s.registerHandset r h pos e := by
  refine (if_neg (by rw [he]; decide)).trans ((if_neg (by rw [hz]; decide)).trans ?_)
  rw [lowestWhere_eq_some (i := h) (by rw [Bool.not_eq_true']; exact hf) fun j hj => by
    rw [Bool.not_eq_false']; exact hlow j hj]

theorem registerHandset_of_taken {h : HandsetNo} (ha : s.appendTaken r.base = true) :
    s.registerHandset r h pos e =
      ((s.send r.base (.attachAnswer r.identity (.accept h))).changeEntry h
        (fun _ => admittedEntry s r r.base pos e) attnReg).bump .accepted := by
  have hn : ∀ m, (s.send r.base m).now = s.now := fun m =>
    congrArg Regs.frame (still_fields (s.send_still r.base m)).1
  have hadm : ∀ m, admittedEntry (s.send r.base m) r r.base pos e = admittedEntry s r r.base pos e := fun m => by
    rw [admittedEntry, send_zone, hn, lifetimeEnd_of_still (s.send_still r.base m)]
    rfl
  rw [State.registerHandset, append_eq_send, ha]
  dsimp only
  rw [hadm]
  rfl

theorem registerHandset_of_refused {h : HandsetNo} (ha : s.appendTaken r.base = false) :
    s.registerHandset r h pos e = (s.bumpBase r.base .discards).bump .dropped := by
  rw [State.registerHandset, append_of_refused ha]

end

/-- Settles O16: the end of a lookup by the first condition that applies. -/
theorem lookupEndAnswersOnce : Obligations.LookupEndAnswersOnce := by
  refine fun s r l e => ⟨fun h h' f => endLookup_of_drop e h h', fun h => ⟨endLookup_of_reject e h rfl, fun pos x =>
    ⟨fun he => ?_, fun he hz => ?_, fun he hz => ⟨fun hall => ?_, fun x hx hlow => ?_⟩⟩⟩⟩
  · exact endLookup_of_reject e h (answerLookup_of_barred he)
  · exact endLookup_of_reject e h (answerLookup_of_zone he hz)
  · exact endLookup_of_reject e h (answerLookup_of_full he hz hall)
  · rw [endLookup_of_answer e h, answerLookup_of_free (s := s.setAttaches l none) he hz hx hlow]
    refine ⟨fun ha => ?_, fun ha => ?_⟩
    · rw [registerHandset_of_taken (s := s.setAttaches l none) ha, send_setAttaches, startLookup_eq]
      rfl
    · rw [registerHandset_of_refused (s := s.setAttaches l none) ha, startLookup_eq]
      rfl

/-! ### The subscription search (R28, Table 9-5) -/

theorem byteNat_eq {n : Nat} (w : BitVec n) (i : Nat) : byteNat w i = w.toNat / 256 ^ i % 256 := by
  rw [byteNat, byteOf, BitVec.extractLsb'_toNat, Nat.shiftRight_eq_div_pow, Nat.pow_mul]

theorem subscriptionOf_identity (e : BitVec 128) : (subscriptionOf e).identity.toNat =
    byteNat e 0 + 256 * byteNat e 1 + 256 ^ 2 * byteNat e 2 + 256 ^ 3 * byteNat e 3 + 256 ^ 4 * byteNat e 4 := by
  simp only [subscriptionOf, BitVec.extractLsb'_toNat, Nat.shiftRight_eq_div_pow, byteNat_eq]
  omega

theorem subscriptionOf_zoneMask (e : BitVec 128) :
    (subscriptionOf e).zoneMask.toNat = byteNat e 8 + 256 * byteNat e 9 := by
  simp only [subscriptionOf, BitVec.extractLsb'_toNat, Nat.shiftRight_eq_div_pow, byteNat_eq]
  omega

theorem subscriptionOf_priority (e : BitVec 128) : (subscriptionOf e).cls = .priority ↔ byteNat e 6 = 1 := by
  unfold subscriptionOf
  dsimp only
  split
  · next h => exact iff_of_true rfl h
  · next h => exact iff_of_false (by decide) h

theorem inMask_iff (m : BitVec 16) (z : ZoneNo) : inMask m z = true ↔ m.toNat / 2 ^ z.val % 2 = 1 := by
  rw [inMask, BitVec.getLsbD, Nat.testBit_eq_decide_div_mod_eq, decide_eq_true_eq]

theorem beginFor_rsu_of_serves {k : Lookup} (hs : s.serves = true) (hk : s.lookup = some k) :
    s.beginFor .rsu = some (s.beginAccess (lookupAccess k)) := by
  rw [State.beginFor, if_pos hs, hk]
  rfl

theorem beginFor_rsu_none (h : s.serves = false ∨ s.lookup = none) : s.beginFor .rsu = none := by
  rw [State.beginFor]
  rcases h with h | h
  · rw [h, if_neg Bool.false_ne_true]
  · rw [h, Option.map_none, ite_self]

section
variable {n : Nat} (s : State) (data : BitVec n)

@[simp] theorem completeAccess_attaches : (s.completeAccess data).attaches = s.attaches := by
  unfold State.completeAccess
  split <;> rfl
@[simp] theorem completeAccess_lookup : (s.completeAccess data).lookup = s.lookup := by
  unfold State.completeAccess
  split <;> rfl

end

theorem exec_subscriptionCountReadDone (s : State) (n : BitVec 16) :
    exec (.subscriptionCountReadDone n) s = execSubscriptionCountReadDone n s := rfl
theorem exec_subscriptionEntryReadDone (s : State) (w : BitVec 128) :
    exec (.subscriptionEntryReadDone w) s = execSubscriptionEntryReadDone w s := rfl

theorem exec_subCount {count : BitVec 16} (hs : s.serves = true) (hk : s.accessing .subCount)
    (hl : s.lookup = some .count) : exec (.subscriptionCountReadDone count) s =
      .next ((s.completeAccess count).takeSubCount count.toNat).settle := by
  rw [exec_subscriptionCountReadDone, execSubscriptionCountReadDone]
  exact onAccess_of hk (by dsimp only; rw [completeAccess_serves count hs, completeAccess_lookup, hl])

theorem exec_subEntry {r : PendingAttach} {l : List PendingAttach} {lo hi pos : Nat} {entry : BitVec 128}
    (hs : s.serves = true) (ha : s.attaches = r :: l) (hk : s.accessing (.subEntry pos))
    (hl : s.lookup = some (.search lo hi)) : exec (.subscriptionEntryReadDone entry) s =
      .next ((s.completeAccess entry).takeSubEntry r.identity lo hi (subscriptionOf entry)).settle := by
  rw [exec_subscriptionEntryReadDone, execSubscriptionEntryReadDone]
  exact onAccess_of hk (by dsimp only; rw [completeAccess_serves entry hs, completeAccess_lookup, hl,
    completeAccess_attaches, ha])

theorem takeSubCount_pos {n : Nat} (h : n ≠ 0) : s.takeSubCount n = s.searchBounds 0 (min n 2048 - 1) :=
  if_neg (by rw [Config.subscriptionMax]; omega)

section
variable {i : Identity} {lo hi : Nat} {e : Subscription}

theorem takeSubEntry_of_equal (h : e.identity = i) :
    s.takeSubEntry i lo hi e = s.endLookup (some ((lo + hi) / 2, e)) := if_pos h

/-- An entry below the identity moves the lower bound past the middle (R28). -/
theorem takeSubEntry_of_below (h : e.identity.toNat < i.toNat) : s.takeSubEntry i lo hi e =
    if hi < (lo + hi) / 2 + 1 then s.endLookup none else s.searchBounds ((lo + hi) / 2 + 1) hi :=
  (if_neg (by rintro rfl; omega)).trans (if_pos h)

/-- An entry above the identity moves the upper bound before the middle (R28). -/
theorem takeSubEntry_of_above (h : i.toNat < e.identity.toNat) : s.takeSubEntry i lo hi e =
    if (lo + hi) / 2 < lo + 1 then s.endLookup none else s.searchBounds lo ((lo + hi) / 2 - 1) := by
  refine (if_neg (by rintro rfl; omega)).trans ((if_neg (by omega)).trans ?_)
  have hb : (lo + hi) / 2 = 0 ∨ (lo + hi) / 2 - 1 < lo ↔ (lo + hi) / 2 < lo + 1 := by omega
  simp only [hb]

end

theorem searchBounds_completeAccess {n : Nat} (data : BitVec n) (lo hi : Nat) :
    (s.completeAccess data).searchBounds lo hi =
      (s.completeAccess data).setAttaches s.attaches (some (.search lo hi)) := by
  rw [State.searchBounds, completeAccess_attaches]

/-- Settles O15: the fields of an entry, the RSU's reads, and the bounds after each read. -/
theorem lookupNarrowsItsBounds : Obligations.LookupNarrowsItsBounds := by
  refine ⟨fun e => ⟨subscriptionOf_identity e, bne_iff_ne, subscriptionOf_priority e, subscriptionOf_zoneMask e,
    fun z => ?_⟩, fun s => ⟨fun hs hl => ⟨_, beginFor_rsu_of_serves hs hl, rfl, rfl⟩,
    fun hs lo hi hl => ⟨_, beginFor_rsu_of_serves hs hl, rfl, rfl⟩, beginFor_rsu_none⟩,
    fun s r l hs ha => ⟨fun hk hl => ⟨?_, fun count hc => ?_⟩, fun lo hi pos entry hk hl => ?_⟩⟩
  · rw [inMask_iff, subscriptionOf_zoneMask]
  · rw [exec_subCount hs hk hl]
    rfl
  · have hn : count.toNat ≠ 0 := fun h => hc (BitVec.eq_of_toNat_eq h)
    rw [exec_subCount hs hk hl, takeSubCount_pos hn, searchBounds_completeAccess]
  · rw [exec_subEntry hs ha hk hl]
    refine ⟨fun h => ?_, fun h => ⟨fun hb => ?_, fun hb => ?_⟩, fun h => ⟨fun hb => ?_, fun hb => ?_⟩⟩
    · rw [takeSubEntry_of_equal h]
    · rw [takeSubEntry_of_below h, if_neg (by omega), searchBounds_completeAccess]
    · rw [takeSubEntry_of_below h, if_pos hb]
    · rw [takeSubEntry_of_above h, if_neg (by omega), searchBounds_completeAccess]
    · rw [takeSubEntry_of_above h, if_pos hb]

end Sys2Proof.Machine
end

section
/-! SUPPORT. The end of a call as the roster sees it: of the roster, the pages and the handset marks it changes the entry
of the call's handset alone, and the call stays ENDED whatever drain completes with it (R66, R135, R136). -/

namespace Sys2Proof.Machine

open Sys2Proof

variable {s t u : State}

/-! ### Work off the roster -/

/-- All that handing back a result leaves alone (R153). -/
theorem handBack_frame (s : State) (i : SlotNo) (r : OrderResult) :
    { s.handBack i r with oru := s.oru, counters := s.counters } = s := by
  unfold State.handBack
  dsimp only
  split <;> rfl

theorem globalCount_bump (s : State) (k j : GlobalCounter) :
    (s.bump k).globalCount j = if k = j then satSucc (s.globalCount k) else s.globalCount j := by
  have hk : globalIndex k = globalIndex j ↔ k = j := by cases k <;> cases j <;> decide
  refine (getElem_set_fin _ _ _ _).trans ?_
  simp only [hk]
  rfl

/-- Work that changes neither the roster, its marks, the page table nor the zone of a link, and counts no detach. -/
structure OffRoster (s t : State) : Prop where
  roster   : t.roster = s.roster
  marks    : t.acu.handsetMarks = s.acu.handsetMarks
  pages    : t.pages = s.pages
  zone     : ∀ b : BaseNo, t.links[b].zone = s.links[b].zone
  detaches : t.globalCount .detaches = s.globalCount .detaches

namespace OffRoster

theorem refl (s : State) : OffRoster s s := ⟨rfl, rfl, rfl, fun _ => rfl, rfl⟩

theorem trans (h : OffRoster s t) (k : OffRoster t u) : OffRoster s u where
  roster := k.roster.trans h.roster
  marks := k.marks.trans h.marks
  pages := k.pages.trans h.pages
  zone b := (k.zone b).trans (h.zone b)
  detaches := k.detaches.trans h.detaches

/-- Work on other tables than these. -/
theorem same (h : OffRoster s t) (hr : u.roster = t.roster) (hm : u.acu.handsetMarks = t.acu.handsetMarks)
    (hp : u.pages = t.pages) (hl : u.links = t.links) (hc : u.counters.global = t.counters.global) : OffRoster s u :=
  h.trans ⟨hr, hm, hp, fun b => by rw [hl], by rw [State.globalCount, hc]; rfl⟩

theorem foldl {α : Type} {f : State → α → State} (hf : ∀ {v x}, OffRoster s v → OffRoster s (f v x))
    (h : OffRoster s t) (l : List α) : OffRoster s (l.foldl f t) := by
  induction l generalizing t with
  | nil => exact h
  | cons x r ih => exact ih (hf h)

theorem updCall {c : CallNo} {f : Call → Call} (h : OffRoster s t) : OffRoster s (t.updCall c f) :=
  h.same rfl rfl rfl rfl rfl
theorem markCall {c : CallNo} {v : Byte} (h : OffRoster s t) : OffRoster s (t.markCall c v) :=
  h.same rfl rfl rfl rfl rfl
theorem setChan {b : BaseNo} {k : ChanNo} {v : Chan} (h : OffRoster s t) : OffRoster s (t.setChan b k v) :=
  h.same rfl rfl rfl rfl rfl
theorem setDrain {b : BaseNo} {d : Option DrainRecord} (h : OffRoster s t) : OffRoster s (t.setDrain b d) :=
  h.same rfl rfl rfl rfl rfl
theorem bumpBase {b : BaseNo} {k : BaseCounter} (h : OffRoster s t) : OffRoster s (t.bumpBase b k) :=
  h.same rfl rfl rfl rfl rfl
theorem freeChannelsOf {c : CallNo} (h : OffRoster s t) : OffRoster s (t.freeChannelsOf c) :=
  h.same rfl rfl rfl rfl rfl
theorem freeBase {b : BaseNo} (h : OffRoster s t) : OffRoster s (t.freeBase b) := h.same rfl rfl rfl rfl rfl
theorem dropBatch {c : CallNo} (h : OffRoster s t) : OffRoster s (t.dropBatch c) := h.same rfl rfl rfl rfl rfl

theorem bump {k : GlobalCounter} (h : OffRoster s t) (hk : k ≠ .detaches) : OffRoster s (t.bump k) :=
  h.trans ⟨rfl, rfl, rfl, fun _ => rfl, by rw [globalCount_bump, if_neg hk]⟩

theorem send {b : BaseNo} {m : Downlink} (h : OffRoster s t) : OffRoster s (t.send b m) :=
  h.trans {
    roster := send_roster t b m
    marks := by rw [send_acu]
    pages := send_pages t b m
    zone := send_zone t b m
    detaches := by
      unfold State.send
      rcases append_cases t b m with ⟨-, e⟩ | ⟨-, e⟩ <;> rw [e]
      · rw [State.globalCount, enqueue_counters]
        rfl
      · rfl }

theorem handBack {i : SlotNo} {r : OrderResult} (h : OffRoster s t) : OffRoster s (t.handBack i r) := by
  have hq : OffRoster s (t.updOru fun o => { o with
      inFlight := enterAnswering i o.inFlight, queue := o.queue ++ [.resultWrite i r, .answeredWrite i] }) :=
    h.same rfl rfl rfl rfl rfl
  unfold State.handBack
  dsimp only
  split
  · next k e =>
    refine hq.bump ?_
    rintro rfl
    unfold verdictCounter at e
    split at e <;> cases e
  · exact hq

/-- A base enters STOPPED and keeps its zone (R11). -/
theorem enterStopped {b : BaseNo} {v : Byte} (h : OffRoster s t) : OffRoster s (t.enterStopped b v) :=
  h.trans {
    roster := rfl
    marks := rfl
    pages := rfl
    zone := fun x => by
      rw [enterStopped_links, getElem_set_fin]
      split
      · next e => subst e; rfl
      · rfl
    detaches := rfl }

theorem answerMove {i : Option SlotNo} {r : OrderResult} (h : OffRoster s t) : OffRoster s (t.answerMove i r) := by
  unfold State.answerMove
  split
  · exact h.handBack
  · exact h

theorem switchBack {c : CallNo} {b : BaseNo} {j : ChanNo} {g : AttemptTag} (h : OffRoster s t) :
    OffRoster s (t.switchBack c b j g) := by
  unfold State.switchBack
  dsimp only
  split
  · exact h.setChan.setChan.markCall
  · exact h

theorem unreserve {b : BaseNo} {j : ChanNo} {c : CallNo} {g : AttemptTag} (h : OffRoster s t) :
    OffRoster s (t.unreserve b j c g) := by
  unfold State.unreserve
  split
  · exact h.setChan
  · exact h

theorem giveUp {c : CallNo} {r : Handover} (h : OffRoster s t) : OffRoster s (t.giveUp c r) := by
  unfold State.giveUp
  split
  · exact h
  · dsimp only
    split
    · exact h.switchBack.send.send.bumpBase
    · exact h.unreserve.send.bumpBase

theorem moveEnd {c : CallNo} (h : OffRoster s t) : OffRoster s (t.moveEnd c) := by
  unfold State.moveEnd
  split
  · exact h.updCall.markCall
  · exact h

theorem noteAbort {c : CallNo} {a : AbortReason} (h : OffRoster s t) : OffRoster s (t.noteAbort c a) :=
  h.updCall.markCall

theorem startHold {c : CallNo} (h : OffRoster s t) : OffRoster s (t.startHold c) := by
  unfold State.startHold
  dsimp only
  split
  · exact h.updCall
  · exact h

theorem attemptEnd {c : CallNo} {a : AbortReason} (h : OffRoster s t) : OffRoster s (t.attemptEnd c a) := by
  unfold State.attemptEnd
  split
  · exact h
  · dsimp only
    split
    · exact h.dropBatch.giveUp.updCall.moveEnd.noteAbort.startHold.answerMove
    · exact h.dropBatch.giveUp.updCall.moveEnd.noteAbort.answerMove

theorem endRecord {c : CallNo} (h : OffRoster s t) : OffRoster s (t.endRecord c) := by
  unfold State.endRecord
  split
  · exact h
  · dsimp only
    split
    · exact h.dropBatch.send.bumpBase.updCall.noteAbort.answerMove
    · exact h.dropBatch.updCall.noteAbort.answerMove

theorem withdrawTail {b : BaseNo} (h : OffRoster s t) : OffRoster s (t.withdrawTail b) :=
  ((h.foldl attemptEnd _).foldl (fun k => k.updCall.markCall) _).freeBase

theorem drainComplete {b : BaseNo} {d : DrainRecord} {n : Nat} (h : OffRoster s t) :
    OffRoster s (t.drainComplete b d n) := by
  unfold State.drainComplete State.endDrain
  exact h.enterStopped.withdrawTail.setDrain.handBack

theorem drainCheck {b : BaseNo} (h : OffRoster s t) : OffRoster s (t.drainCheck b) := by
  unfold State.drainCheck
  split
  · split
    · exact h.drainComplete
    · exact h
  · exact h

theorem callEndNotice {b : BaseNo} (h : OffRoster s t) : OffRoster s (t.callEndNotice b) := by
  unfold State.callEndNotice
  split
  · split
    · exact h.setDrain.drainCheck
    · exact h.setDrain
  · exact h

theorem releaseServing {c : CallNo} {r : EndReason} (h : OffRoster s t) : OffRoster s (t.releaseServing c r) := by
  unfold State.releaseServing
  split
  · exact h.send
  · exact h

theorem countLost {r : EndReason} (h : OffRoster s t) : OffRoster s (t.countLost r) := by
  unfold State.countLost
  split
  · exact h.bump (by decide)
  · exact h

/-- The same change of one entry on both sides. -/
theorem changeEntry {i : HandsetNo} {f g : RosterEntry → RosterEntry} {v : Byte} (h : OffRoster s t)
    (hf : g s.roster[i] = f s.roster[i]) : OffRoster (s.changeEntry i f v) (t.changeEntry i g v) where
  roster := by
    show t.roster.set i (g t.roster[i]) = s.roster.set i (f s.roster[i])
    rw [h.roster, hf]
  marks := by
    show t.acu.handsetMarks.set i (addMark t.acu.handsetMarks[i] v) =
      s.acu.handsetMarks.set i (addMark s.acu.handsetMarks[i] v)
    rw [h.marks]
  pages := h.pages
  zone := h.zone
  detaches := h.detaches

/-- The same call unbind on both sides, at the same frame count and plan. -/
theorem unbindCall {i : HandsetNo} (h : OffRoster s t) (hs : t.still = s.still) :
    OffRoster (s.unbindCall i) (t.unbindCall i) := by
  unfold State.unbindCall
  rw [h.roster]
  split
  · exact h.changeEntry (by rw [lifetimeEnd_of_still hs])
  · exact h

end OffRoster

/-! ### The end of a call (R66) -/

/-- Of what the roster holds, the end of a call's actions change what a call unbind changes (R66 step 5). -/
theorem callEndActions_offRoster (s : State) (c : CallNo) (r : EndReason) :
    OffRoster (s.unbindCall s.calls[c].handset) (s.callEndActions c r) := by
  have hb : OffRoster s (((((s.endRecord c).releaseServing c r).freeChannelsOf c).dropFilters c).restDecision c) :=
    (OffRoster.refl s).endRecord.releaseServing.freeChannelsOf.updCall.updCall
  exact (hb.unbindCall (by simp)).updCall.markCall.countLost

theorem endCall_offRoster {c : CallNo} (hl : callLive s.calls[c].state = true) (r : EndReason) :
    OffRoster (s.unbindCall s.calls[c].handset) (s.endCall c r) := by
  unfold State.endCall
  rw [if_pos hl]
  dsimp only
  split
  · exact (callEndActions_offRoster s c r).callEndNotice
  · exact callEndActions_offRoster s c r

/-- All that a call unbind leaves alone. -/
theorem unbindCall_frame (s : State) (h : HandsetNo) :
    { s.unbindCall h with roster := s.roster, acu := s.acu } = s := by
  unfold State.unbindCall
  split <;> rfl

/-- A call that is not in progress does not end again (R67). -/
theorem endCall_of_not_live {c : CallNo} (hl : callLive s.calls[c].state = false) (r : EndReason) : s.endCall c r = s :=
  if_neg (by rw [hl]; exact Bool.false_ne_true)

theorem endCallOf_of_call {h : HandsetNo} {c : CallNo} (hc : s.roster[h].call = some c) (r : EndReason) :
    s.endCallOf h r = s.endCall c r := by
  rw [State.endCallOf, hc]

theorem endCallOf_of_idle {h : HandsetNo} (hc : s.roster[h].call = none) (r : EndReason) : s.endCallOf h r = s := by
  rw [State.endCallOf, hc]

/-- Everything that the end of a handset's call can be. -/
theorem endCallOf_cases (s : State) (h : HandsetNo) (r : EndReason) :
    s.endCallOf h r = s ∨ ∃ c : CallNo, callLive s.calls[c].state = true ∧ s.endCallOf h r = s.endCall c r := by
  cases hc : s.roster[h].call with
  | none => exact .inl (endCallOf_of_idle hc r)
  | some c =>
    rw [endCallOf_of_call hc]
    cases hl : callLive s.calls[c].state with
    | false => exact .inl (endCall_of_not_live hl r)
    | true => exact .inr ⟨c, hl, rfl⟩

theorem endCallOf_pages (s : State) (h : HandsetNo) (r : EndReason) : (s.endCallOf h r).pages = s.pages := by
  rcases endCallOf_cases s h r with e | ⟨c, hl, e⟩ <;> rw [e]
  exact (endCall_offRoster hl r).pages.trans (congrArg State.pages (unbindCall_frame s s.calls[c].handset) :)

theorem endCallOf_detaches (s : State) (h : HandsetNo) (r : EndReason) :
    (s.endCallOf h r).globalCount .detaches = s.globalCount .detaches := by
  rcases endCallOf_cases s h r with e | ⟨c, hl, e⟩ <;> rw [e]
  exact (endCall_offRoster hl r).detaches.trans
    (congrArg (·.globalCount .detaches) (unbindCall_frame s s.calls[c].handset) :)

/-! ### The call stays ENDED (R66 step 6, R135, R136) -/

/-- Call `c` has ended with reason `r`, and has no handover record. -/
def State.callOver (s : State) (c : CallNo) (r : EndReason) : Prop :=
  s.calls[c].state = .ended ∧ s.calls[c].endReason = some r ∧ s.calls[c].handover = none

theorem handBack_calls (s : State) (i : SlotNo) (r : OrderResult) : (s.handBack i r).calls = s.calls :=
  (congrArg State.calls (handBack_frame s i r) :)

theorem answerMove_calls (s : State) (i : Option SlotNo) (r : OrderResult) : (s.answerMove i r).calls = s.calls := by
  unfold State.answerMove
  split
  · exact handBack_calls s _ r
  · rfl

theorem bumpBase_calls (s : State) (b : BaseNo) (k : BaseCounter) : (s.bumpBase b k).calls = s.calls := rfl

theorem switchBack_calls (s : State) (c : CallNo) (b : BaseNo) (j : ChanNo) (g : AttemptTag) :
    (s.switchBack c b j g).calls = s.calls := by
  unfold State.switchBack
  dsimp only
  split <;> rfl

theorem unreserve_calls (s : State) (b : BaseNo) (j : ChanNo) (c : CallNo) (g : AttemptTag) :
    (s.unreserve b j c g).calls = s.calls := by
  unfold State.unreserve
  split <;> rfl

/-- A reservation given up changes no call entry (R124 step 2). -/
theorem giveUp_calls (s : State) (c : CallNo) (r : Handover) : (s.giveUp c r).calls = s.calls := by
  unfold State.giveUp
  split
  · rfl
  · dsimp only
    rw [bumpBase_calls]
    split
    · rw [send_calls, send_calls, switchBack_calls]
    · rw [send_calls, unreserve_calls]

theorem releaseServing_calls (s : State) (c : CallNo) (r : EndReason) : (s.releaseServing c r).calls = s.calls := by
  unfold State.releaseServing
  split
  · exact send_calls s _ _
  · rfl

theorem unbindCall_calls (s : State) (h : HandsetNo) : (s.unbindCall h).calls = s.calls :=
  (congrArg State.calls (unbindCall_frame s h) :)

theorem countLost_calls (s : State) (r : EndReason) : (s.countLost r).calls = s.calls := by
  unfold State.countLost
  split <;> rfl

theorem updCall_other {c d : CallNo} (h : d ≠ c) (s : State) (f : Call → Call) : (s.updCall d f).calls[c] = s.calls[c] :=
  (updCall_get s d c f).trans (if_neg h)

theorem moveEnd_other {c d : CallNo} (h : d ≠ c) (s : State) : (s.moveEnd d).calls[c] = s.calls[c] := by
  by_cases hm : s.calls[d].state = .moving
  · rw [State.moveEnd, if_pos hm, State.markCall_calls, updCall_other h]
  · rw [State.moveEnd, if_neg hm]

theorem startHold_other {c d : CallNo} (h : d ≠ c) (s : State) : (s.startHold d).calls[c] = s.calls[c] := by
  unfold State.startHold
  dsimp only
  split
  · exact updCall_other h s _
  · rfl

theorem noteAbort_other {c d : CallNo} (h : d ≠ c) (s : State) (a : AbortReason) :
    (s.noteAbort d a).calls[c] = s.calls[c] := by
  rw [State.noteAbort, State.markCall_calls, updCall_other h]

/-- The end of an attempt changes the entry of its own call alone (R124). -/
theorem attemptEnd_other {c d : CallNo} (h : d ≠ c) (s : State) (a : AbortReason) :
    (s.attemptEnd d a).calls[c] = s.calls[c] := by
  unfold State.attemptEnd
  split
  · rfl
  · next r _ =>
    have hr : ((((s.dropBatch d).giveUp d r).removeRecord d).noteAbort d a).calls[c] = s.calls[c] := by
      rw [noteAbort_other h, State.removeRecord, moveEnd_other h, updCall_other h, giveUp_calls]
      rfl
    dsimp only
    rw [answerMove_calls]
    split
    · rw [startHold_other h, hr]
    · exact hr

theorem attemptEnd_of_no_record {c : CallNo} (h : s.calls[c].handover = none) (a : AbortReason) :
    s.attemptEnd c a = s := by
  rw [State.attemptEnd, h]

namespace State.callOver

variable {c : CallNo} {r : EndReason}

theorem of_entry (h : s.callOver c r) (e : t.calls[c] = s.calls[c]) : t.callOver c r := by
  unfold State.callOver
  rw [e]
  exact h

theorem foldl {α : Type} {f : State → α → State} (hf : ∀ {v x}, v.callOver c r → (f v x).callOver c r)
    (h : s.callOver c r) (l : List α) : (l.foldl f s).callOver c r := by
  induction l generalizing s with
  | nil => exact h
  | cons x l ih => exact ih (hf h)

theorem attemptEnd {d : CallNo} {a : AbortReason} (h : s.callOver c r) : (s.attemptEnd d a).callOver c r := by
  by_cases hd : d = c
  · subst hd
    rwa [attemptEnd_of_no_record h.2.2]
  · exact h.of_entry (attemptEnd_other hd s a)

theorem removeFromSet {b : BaseNo} {d : CallNo} (h : s.callOver c r) : (s.removeFromSet b d).callOver c r := by
  unfold State.callOver State.removeFromSet
  rw [State.markCall_calls, updCall_get]
  split
  · next hd => subst hd; exact h
  · exact h

theorem targetLostNotice {b : BaseNo} (h : s.callOver c r) : (s.targetLostNotice b).callOver c r :=
  h.foldl attemptEnd _

theorem removeFromSets {b : BaseNo} (h : s.callOver c r) : (s.removeFromSets b).callOver c r :=
  h.foldl removeFromSet _

theorem freeBase {b : BaseNo} (h : s.callOver c r) : (s.freeBase b).callOver c r := h

theorem withdrawTail {b : BaseNo} (h : s.callOver c r) : (s.withdrawTail b).callOver c r :=
  h.targetLostNotice.removeFromSets.freeBase

theorem drainComplete {b : BaseNo} {d : DrainRecord} {n : Nat} (h : s.callOver c r) :
    (s.drainComplete b d n).callOver c r := by
  have hs : (s.enterStopped b (attnLink ||| attnDrained)).callOver c r := h
  unfold State.drainComplete State.endDrain
  exact hs.withdrawTail.of_entry (by rw [handBack_calls, State.setDrain_calls])

theorem drainCheck {b : BaseNo} (h : s.callOver c r) : (s.drainCheck b).callOver c r := by
  unfold State.drainCheck
  split
  · split
    · exact h.drainComplete
    · exact h
  · exact h

theorem setDrain {b : BaseNo} {d : Option DrainRecord} (h : s.callOver c r) : (s.setDrain b d).callOver c r := h

theorem callEndNotice {b : BaseNo} (h : s.callOver c r) : (s.callEndNotice b).callOver c r := by
  unfold State.callEndNotice
  split
  · split
    · exact h.setDrain.drainCheck
    · exact h.setDrain
  · exact h

end State.callOver

/-- The record of an ending call is gone (R125). -/
theorem endRecord_handover (s : State) (c : CallNo) : (s.endRecord c).calls[c].handover = none := by
  unfold State.endRecord
  split
  · next h => exact h
  · dsimp only
    rw [answerMove_calls, State.noteAbort, State.markCall_calls, updCall_get, if_pos rfl]
    dsimp only
    rw [updCall_get, if_pos rfl]

/-- The end of a call leaves it ENDED with its reason and without a record (R66). -/
theorem callEndActions_callOver (s : State) (c : CallNo) (r : EndReason) : (s.callEndActions c r).callOver c r := by
  have hh : (((((s.endRecord c).releaseServing c r).freeChannelsOf c).dropFilters c).restDecision c).calls[c].handover =
      none := by
    rw [State.restDecision, State.dropFilters, updCall_updCall, updCall_get, if_pos rfl]
    show ((s.endRecord c).releaseServing c r).calls[c].handover = none
    rw [releaseServing_calls, endRecord_handover]
  unfold State.callEndActions
  dsimp only
  unfold State.callOver
  rw [countLost_calls, State.markEnded, State.markCall_calls, updCall_get, if_pos rfl, unbindCall_calls]
  exact ⟨rfl, rfl, hh⟩

theorem endCall_callOver {c : CallNo} (hl : callLive s.calls[c].state = true) (r : EndReason) :
    (s.endCall c r).callOver c r := by
  unfold State.endCall
  rw [if_pos hl]
  dsimp only
  split
  · exact (callEndActions_callOver s c r).callEndNotice
  · exact callEndActions_callOver s c r

end Sys2Proof.Machine
end

section
/-! SUPPORT. A re-attach, and the freeing of an entry by DETACH, a lapse and DEREGISTER (R24, R38 to R40, R52; O10, O13,
O14). -/

namespace Sys2Proof.Machine

open Sys2Proof

variable {s t : State} {b : BaseNo} {h : HandsetNo}

/-! ### The call of a handset ends (R24 step 1, R38 step 1) -/

/-- The end of a handset's own call leaves every other entry alone. -/
theorem endCall_other {c : CallNo} {x : HandsetNo} (hl : callLive s.calls[c].state = true)
    (hx : x ≠ s.calls[c].handset) (r : EndReason) : (s.endCall c r).roster[x] = s.roster[x] := by
  rw [(endCall_offRoster hl r).roster]
  exact unbindCall_other hx s

/-- What a handset's entry and its mark are after its call has ended (R66 step 5). -/
theorem endCall_own {c : CallNo} (hr : s.roster[h].registered = true) (hc : s.roster[h].call = some c)
    (hl : callLive s.calls[c].state = true) (hh : s.calls[c].handset = h) (r : EndReason) :
    (s.endCall c r).roster[h] =
        { s.roster[h] with call := none, expiry := some (s.after (s.lifetime s.roster[h].cls)) } ∧
      (s.endCall c r).acu.handsetMarks[h] = some (s.acu.handsetMarks[h].getD 0 ||| attnCall) := by
  have ho := endCall_offRoster hl r
  rw [hh, unbindCall_of_call hr hc] at ho
  exact ⟨by rw [ho.roster, changeEntry_self], by rw [ho.marks, changeEntry_mark]⟩

theorem endCall_zone {c : CallNo} (hl : callLive s.calls[c].state = true) (r : EndReason) (x : BaseNo) :
    (s.endCall c r).links[x].zone = s.links[x].zone :=
  ((endCall_offRoster hl r).zone x).trans
    (congrArg (·.links[x].zone) (unbindCall_frame s s.calls[c].handset) :)

/-! ### A re-attach (R24) -/

/-- Once the call has ended, a re-attach is one change of the entry, with LOC where the last base changes (R24). -/
theorem reattachEntry_eq (ht : s.endCallOf h .reattach = t) (hr : t.roster[h].registered = true) :
    s.reattachEntry b h = t.changeEntry h (fun e => { e with
      lastBase := b, lastZone := t.links[b].zone, attachFrame := s.now, heardFrame := s.now
      expiry := t.renewedExpiry e }) (t.locationBits h b) := by
  rw [State.reattachEntry, ht, locate_of_registered hr, changeEntry_updEntry, renew_eq, changeEntry_changeEntry_zero]
  rfl

/-- The ACCEPT of a re-attach is offered to the base and the attach counted (R24 step 5). -/
theorem reattach_eq (s : State) (b : BaseNo) (h : HandsetNo) (i : Identity) :
    s.reattach b h i = ((s.reattachEntry b h).send b (.attachAnswer i (.accept h))).bump
      (if (s.reattachEntry b h).appendTaken b then .accepted else .dropped) := by
  rw [State.reattach, append_eq_send]
  cases (s.reattachEntry b h).appendTaken b <;> rfl

theorem reattach_of_taken {i : Identity} (ha : (s.reattachEntry b h).appendTaken b = true) :
    s.reattach b h i = ((s.reattachEntry b h).send b (.attachAnswer i (.accept h))).bump .accepted := by
  rw [reattach_eq, ha, if_pos rfl]

theorem reattach_of_refused {i : Identity} (ha : (s.reattachEntry b h).appendTaken b = false) :
    s.reattach b h i = ((s.reattachEntry b h).bumpBase b .discards).bump .dropped := by
  rw [reattach_eq, ha, if_neg Bool.false_ne_true, send_of_refused ha]

theorem reattach_roster (s : State) (b : BaseNo) (h : HandsetNo) (i : Identity) :
    (s.reattach b h i).roster = (s.reattachEntry b h).roster := by
  rw [reattach_eq, State.bump_roster, send_roster]

theorem reattach_acu (s : State) (b : BaseNo) (h : HandsetNo) (i : Identity) :
    (s.reattach b h i).acu = (s.reattachEntry b h).acu := by
  rw [reattach_eq, State.bump_acu, send_acu]

theorem send_changeEntry (s : State) (h : HandsetNo) (f : RosterEntry → RosterEntry) (v : Byte) (b : BaseNo)
    (m : Downlink) : (s.changeEntry h f v).send b m = (s.send b m).changeEntry h f v :=
  calc (s.changeEntry h f v).send b m
    _ = ((s.send b m).withRosterOf s).changeEntry h f v := send_withRosterOf s (s.changeEntry h f v) b m
    _ = (s.send b m).changeEntry h f v := by rw [← send_withRosterOf]; rfl

theorem bump_counters_congr (e : t.counters = s.counters) (k : GlobalCounter) :
    (t.bump k).counters = (s.bump k).counters := by
  unfold State.bump
  rw [e]

theorem bumpBase_counters_congr (e : t.counters = s.counters) (b : BaseNo) (k : BaseCounter) :
    (t.bumpBase b k).counters = (s.bumpBase b k).counters := by
  unfold State.bumpBase
  rw [e]

theorem send_counters_of_taken {m : Downlink} (ha : s.appendTaken b = true) : (s.send b m).counters = s.counters := by
  rw [State.send, append_of_taken ha, enqueue_counters]

/-- All that a re-attach changes but the roster, the marks and the counters is what its ACCEPT does. -/
theorem reattach_frame {f : RosterEntry → RosterEntry} {v : Byte} (e : s.reattachEntry b h = s.changeEntry h f v)
    (i : Identity) : { s.reattach b h i with roster := s.roster, counters := s.counters, acu := s.acu } =
      { s.send b (.attachAnswer i (.accept h)) with counters := s.counters } := by
  have hf : ∀ t : State, t.roster = s.roster → t.acu = s.acu →
      { t with roster := s.roster, counters := s.counters, acu := s.acu } = { t with counters := s.counters } := by
    intro t hr ha
    rw [← hr, ← ha]
  rw [reattach_eq, e, send_changeEntry]
  exact hf (s.send b _) (send_roster s b _) (send_acu s b _)

/-- An ATTACH of a known handset re-attaches it (R23 step 1). -/
theorem exec_attach_of_known {i : Identity} (hc : s.carries b) (hi : s.registeredWith i = some h) :
    exec (.attach b i) s = .next ((s.restartSilence b).reattach b h i).settle := by
  rw [exec_attach_inService hc, takeAttach_of_known (by rw [restartSilence_registeredWith, hi])]

/-- The entry of a re-attach without a call (R24 steps 2 to 4). -/
theorem reattachEntry_of_idle (hr : s.roster[h].registered = true) (hn : s.roster[h].call = none) :
    (s.restartSilence b).reattachEntry b h = (s.restartSilence b).changeEntry h (fun e => { e with
      lastBase := b, lastZone := (s.restartSilence b).links[b].zone, attachFrame := s.now, heardFrame := s.now
      expiry := (s.restartSilence b).renewedExpiry e }) (s.locationBits h b) := by
  have hb : (s.restartSilence b).locationBits h b = s.locationBits h b := by
    rw [State.locationBits, restartSilence_roster]
    rfl
  rw [reattachEntry_eq (endCallOf_of_idle (by rwa [restartSilence_roster]) _) (by rwa [restartSilence_roster]),
    restartSilence_now, hb]

/-- A re-attach without a call: the entry and its mark. -/
theorem reattach_entry_of_idle (hc : s.carries b) (hr : s.roster[h].registered = true) (hn : s.roster[h].call = none)
    (i : Identity) :
    ((s.restartSilence b).reattach b h i).roster[h] = { s.roster[h] with
        lastBase := b, lastZone := s.links[b].zone, attachFrame := s.now, heardFrame := s.now
        expiry := some (s.after (s.lifetime s.roster[h].cls)) } ∧
      (∀ x : HandsetNo, x ≠ h → ((s.restartSilence b).reattach b h i).roster[x] = s.roster[x]) ∧
      ((s.restartSilence b).reattach b h i).acu.handsetMarks[h] =
        some (s.acu.handsetMarks[h].getD 0 ||| s.locationBits h b) := by
  rw [reattach_roster, reattach_acu, reattachEntry_of_idle hr hn]
  refine ⟨?_, fun x hx => ?_, ?_⟩
  · rw [changeEntry_self, restartSilence_roster, restartSilence_zone hc, renewedExpiry_of_idle hn,
      lifetimeEnd_of_still (s.restartSilence_still b)]
  · rw [changeEntry_other hx, restartSilence_roster]
  · rw [changeEntry_mark, restartSilence_acu]

/-- A re-attach without a call, by whether its ACCEPT is taken: the counters, and all else but the roster and the marks. -/
theorem reattach_answer_of_idle (hc : s.carries b) (hr : s.roster[h].registered = true) (hn : s.roster[h].call = none)
    (i : Identity) :
    (s.appendTaken b = true →
      ((s.restartSilence b).reattach b h i).counters = (s.bump .accepted).counters ∧
      { (s.restartSilence b).reattach b h i with roster := s.roster, counters := s.counters, acu := s.acu } =
        (s.restartSilence b).send b (.attachAnswer i (.accept h))) ∧
    (s.appendTaken b = false →
      ((s.restartSilence b).reattach b h i).counters = ((s.bumpBase b .discards).bump .dropped).counters ∧
      { (s.restartSilence b).reattach b h i with roster := s.roster, counters := s.counters, acu := s.acu } =
        s.restartSilence b) := by
  have he := reattachEntry_of_idle (b := b) hr hn
  have hk : ((s.restartSilence b).reattachEntry b h).counters = s.counters := by
    rw [he]
    exact restartSilence_counters s b
  have ht : ((s.restartSilence b).reattachEntry b h).appendTaken b = s.appendTaken b := by
    rw [he]
    exact restartSilence_appendTaken hc
  have hf := reattach_frame he i
  rw [restartSilence_roster, restartSilence_counters, restartSilence_acu] at hf
  refine ⟨fun ha => ⟨?_, hf.trans ?_⟩, fun ha => ⟨?_, hf.trans ?_⟩⟩
  · rw [reattach_of_taken (ht.trans ha)]
    exact bump_counters_congr ((send_counters_of_taken (ht.trans ha)).trans hk) _
  · rw [← restartSilence_counters s b,
      ← send_counters_of_taken (m := .attachAnswer i (.accept h)) ((restartSilence_appendTaken hc).trans ha)]
  · rw [reattach_of_refused (ht.trans ha)]
    exact bump_counters_congr (bumpBase_counters_congr hk b _) _
  · rw [send_of_refused ((restartSilence_appendTaken hc).trans ha), ← restartSilence_counters s b]
    rfl

/-- The entry of a re-attach whose call has ended, with its mark (R24, R66). -/
theorem reattachEntry_after_call {c : CallNo} (hc : s.carries b) (hr : s.roster[h].registered = true)
    (hcall : s.roster[h].call = some c) (hl : callLive s.calls[c].state = true) (hh : s.calls[c].handset = h)
    (ht : (s.restartSilence b).endCall c .reattach = t) :
    (s.restartSilence b).reattachEntry b h = t.changeEntry h (fun e => { e with
        lastBase := b, lastZone := s.links[b].zone, attachFrame := s.now, heardFrame := s.now
        expiry := t.renewedExpiry e }) (s.locationBits h b) ∧
      t.roster[h] = { s.roster[h] with call := none, expiry := some (s.after (s.lifetime s.roster[h].cls)) } ∧
      t.acu.handsetMarks[h] = some (s.acu.handsetMarks[h].getD 0 ||| attnCall) := by
  have hr' : (s.restartSilence b).roster[h].registered = true := by rwa [restartSilence_roster]
  have hcall' : (s.restartSilence b).roster[h].call = some c := by rwa [restartSilence_roster]
  have hl' : callLive (s.restartSilence b).calls[c].state = true := by rwa [restartSilence_calls]
  obtain ⟨hown, hmark⟩ := endCall_own hr' hcall' hl' (by rwa [restartSilence_calls]) .reattach
  have hz := endCall_zone hl' .reattach b
  rw [ht] at hown hmark hz
  rw [restartSilence_roster, lifetimeEnd_of_still (s.restartSilence_still b)] at hown
  rw [restartSilence_acu] at hmark
  have hb : t.locationBits h b = s.locationBits h b := by
    rw [State.locationBits, hown]
    rfl
  refine ⟨?_, hown, hmark⟩
  rw [reattachEntry_eq ((endCallOf_of_call hcall' _).trans ht) (by rw [hown]; exact hr), hb, hz, restartSilence_zone hc,
    restartSilence_now]

/-- Settles O10: the entry of a re-attach without a call, and after the end of one. -/
theorem reattachRenewsTheEntry : Obligations.ReattachRenewsTheEntry := by
  intro b i h s hc hi
  obtain ⟨hr, -⟩ := registeredWith_some hi
  have hex := exec_attach_of_known hc hi
  refine ⟨fun hn => ?_, fun c hcall hl hh => ?_⟩
  · obtain ⟨hself, hother, hmark⟩ := reattach_entry_of_idle hc hr hn i
    exact ⟨_, hex, hself, hother, hmark, reattach_answer_of_idle hc hr hn i⟩
  · have hl' : callLive (s.restartSilence b).calls[c].state = true := by rwa [restartSilence_calls]
    obtain ⟨hended, hreason, -⟩ := endCall_callOver hl' .reattach
    obtain ⟨he, hown, hmark⟩ := reattachEntry_after_call hc hr hcall hl hh rfl
    refine ⟨_, (s.restartSilence b).reattachEntry b h, rfl, hended, hreason, ?_, fun x hx => ?_, ?_, ?_,
      fun ha => ?_, fun ha => ?_⟩
    · rw [he, changeEntry_self, hown, renewedExpiry_of_idle rfl,
        lifetimeEnd_of_still ((State.endCall_still _ c _).trans (s.restartSilence_still b))]
    · rw [he, changeEntry_other hx, endCall_other hl' (by rwa [restartSilence_calls, hh]), restartSilence_roster]
    · rw [he, changeEntry_mark, hmark]
      refine ⟨_, rfl, and_or_of_and (or_and_added _ _), fun hb => ?_⟩
      rw [State.locationBits, if_neg hb]
      exact or_and_added _ _
    · rw [he]
      rfl
    · rw [hex, reattach_of_taken ha]
    · rw [hex, reattach_of_refused ha]

/-! ### The freeing of an entry (R38) -/

/-- All that the end of a handset's page by a freed entry leaves alone (R52): nothing is counted. -/
theorem pageFreedNotice_frame (s : State) (h : HandsetNo) :
    { s.pageFreedNotice h with pages := s.pages, oru := s.oru } = s := by
  unfold State.pageFreedNotice
  split <;> rfl

theorem pageFreedNotice_of_page {p : PageRecord} (e : s.pageOf h = some p) :
    s.pageFreedNotice h = s.endPage p (.failed .notRegistered) 0 0 := by
  rw [State.pageFreedNotice, e]

theorem pageFreedNotice_of_none (e : s.pageOf h = none) : s.pageFreedNotice h = s := by
  rw [State.pageFreedNotice, e]

theorem pageFreedNotice_pages (s : State) (h : HandsetNo) :
    (s.pageFreedNotice h).pages = s.pages.filter fun p => p.handset != h := by
  cases e : s.pageOf h with
  | none =>
    have hn : ∀ p ∈ s.pages, (p.handset != h) = true := fun p hp => by
      simpa [bne] using List.find?_eq_none.mp e p hp
    rw [pageFreedNotice_of_none e, List.filter_eq_self.mpr hn]
  | some p =>
    have hp : p.handset = h := by simpa using List.find?_some e
    rw [pageFreedNotice_of_page e, ← hp]
    rfl

theorem freeEntry_eq (s : State) (h : HandsetNo) (r : EndReason) :
    s.freeEntry h r = ((s.endCallOf h r).pageFreedNotice h).changeEntry h (fun _ => .free) attnReg := rfl

theorem freeEntry_own (s : State) (h : HandsetNo) (r : EndReason) : (s.freeEntry h r).roster[h] = .free :=
  changeEntry_self _ h _ attnReg

theorem freeEntry_mark (s : State) (h : HandsetNo) (r : EndReason) :
    ∃ v, (s.freeEntry h r).acu.handsetMarks[h] = some v ∧ v &&& attnReg = attnReg :=
  markHandset_holds _ h attnReg

theorem freeEntry_pages (s : State) (h : HandsetNo) (r : EndReason) :
    (s.freeEntry h r).pages = s.pages.filter fun p => p.handset != h :=
  (pageFreedNotice_pages _ h).trans (by rw [endCallOf_pages])

/-- No page of a freed handset is left (R52). -/
theorem freeEntry_no_page (s : State) (h : HandsetNo) (r : EndReason) :
    ∀ p : PageRecord, p ∈ (s.freeEntry h r).pages → p.handset ≠ h := by
  intro p hp
  rw [freeEntry_pages, List.mem_filter] at hp
  exact bne_iff_ne.mp hp.2

theorem freeEntry_detaches (s : State) (h : HandsetNo) (r : EndReason) :
    (s.freeEntry h r).globalCount .detaches = s.globalCount .detaches :=
  (congrArg (·.globalCount .detaches) (pageFreedNotice_frame (s.endCallOf h r) h) :).trans (endCallOf_detaches s h r)

/-- All that the freeing of an entry leaves alone, once its call has ended (R38). -/
theorem freeEntry_frame {r : EndReason} (ht : s.endCallOf h r = t) :
    { s.freeEntry h r with roster := s.roster, pages := s.pages, oru := s.oru } =
      { t.markHandset h attnReg with roster := s.roster, pages := s.pages, oru := s.oru } := by
  rw [freeEntry_eq, ht]
  exact (congrArg (fun u : State =>
    { u.markHandset h attnReg with roster := s.roster, pages := s.pages, oru := s.oru }) (pageFreedNotice_frame t h) :)

theorem pageFreedNotice_roster (s : State) (h : HandsetNo) : (s.pageFreedNotice h).roster = s.roster :=
  (congrArg State.roster (pageFreedNotice_frame s h) :)

theorem pageFreedNotice_calls (s : State) (h : HandsetNo) : (s.pageFreedNotice h).calls = s.calls :=
  (congrArg State.calls (pageFreedNotice_frame s h) :)

theorem freeEntry_other {r : EndReason} {x : HandsetNo} (hx : x ≠ h) (ht : s.endCallOf h r = t) :
    (s.freeEntry h r).roster[x] = t.roster[x] := by
  rw [freeEntry_eq, ht, changeEntry_other hx, pageFreedNotice_roster]

/-- What `freesEntry` says of a freed entry, given what the end of the call before has left. -/
theorem freeEntry_freesEntry (s : State) (h : HandsetNo) (r : EndReason) : s.freesEntry (s.freeEntry h r) h r := by
  refine ⟨freeEntry_own s h r, freeEntry_mark s h r, fun t ht => ?_⟩
  obtain ⟨he, hother, hover⟩ : s.endCallOf h r = t ∧ (∀ x : HandsetNo, x ≠ h → t.roster[x] = s.roster[x]) ∧
      ∀ c : CallNo, s.roster[h].call = some c → t.callOver c r := by
    rcases ht with ⟨hc, rfl⟩ | ⟨c, hc, hl, hh, rfl⟩
    · exact ⟨endCallOf_of_idle hc r, fun x _ => rfl, fun c e => by rw [hc] at e; cases e⟩
    · exact ⟨endCallOf_of_call hc r, fun x hx => endCall_other hl (by rwa [hh]) r, fun d e => by
        rw [hc] at e
        cases e
        exact endCall_callOver hl r⟩
  have hpage : t.pageOf h = s.pageOf h := by rw [State.pageOf, State.pageOf, ← he, endCallOf_pages]
  refine ⟨fun x hx => (freeEntry_other hx he).trans (hother x hx), freeEntry_pages s h r, fun c hc => ?_, ?_,
    freeEntry_frame he⟩
  · obtain ⟨hs, hr, -⟩ := hover c hc
    have hcalls : (s.freeEntry h r).calls = t.calls := by
      rw [freeEntry_eq, he]
      exact pageFreedNotice_calls t h
    rw [hcalls]
    exact ⟨hs, hr⟩
  · have ho : (s.freeEntry h r).oru = (t.pageFreedNotice h).oru := by rw [freeEntry_eq, he]; rfl
    rw [ho]
    cases e : s.pageOf h with
    | none => rw [pageFreedNotice_of_none (hpage.trans e)]
    | some p =>
      rw [pageFreedNotice_of_page (hpage.trans e)]
      rfl

/-- The freeing of an entry without a call changes no other entry and counts nothing. -/
theorem freeEntry_of_idle (hc : s.roster[h].call = none) (r : EndReason) :
    (∀ x : HandsetNo, x ≠ h → (s.freeEntry h r).roster[x] = s.roster[x]) ∧
      (s.freeEntry h r).counters = s.counters ∧
      { s.freeEntry h r with roster := s.roster, pages := s.pages, counters := s.counters, acu := s.acu, oru := s.oru } =
        s := by
  have ht := endCallOf_of_idle hc r
  have hf := freeEntry_frame ht
  exact ⟨fun x hx => freeEntry_other hx ht, (congrArg State.counters hf :),
    (congrArg (fun u : State => { u with counters := s.counters, acu := s.acu }) hf :)⟩

theorem takeLifetime_of_due (hr : s.roster[h].registered = true) (ht : s.roster[h].expiry = some s.now) :
    s.takeLifetime h = (s.freeEntry h .detached).bump .lapses :=
  if_pos ⟨hr, (isDue_iff s _).mpr ht⟩

theorem takeDetach_of_registered (hr : s.roster[h].registered = true) :
    s.takeDetach h = (s.freeEntry h .detached).bump .detaches :=
  if_pos hr

theorem takeDetach_of_free (hr : s.roster[h].registered = false) : s.takeDetach h = s.bump .stale :=
  if_neg (by rw [hr]; exact Bool.false_ne_true)

/-- What a lapse and a DETACH leave of an entry, whatever they count. -/
theorem freeEntry_bump (s : State) (h : HandsetNo) (k : GlobalCounter) :
    ((s.freeEntry h .detached).bump k).roster[h] = .free ∧
      (∀ p : PageRecord, p ∈ ((s.freeEntry h .detached).bump k).pages → p.handset ≠ h) ∧
      (∃ v, ((s.freeEntry h .detached).bump k).acu.handsetMarks[h] = some v ∧ v &&& attnReg = attnReg) ∧
      ∃ v : State, (s.freeEntry h .detached).bump k = v.bump k ∧ s.freesEntry v h .detached :=
  ⟨freeEntry_own s h .detached, freeEntry_no_page s h .detached, freeEntry_mark s h .detached,
    s.freeEntry h .detached, rfl, freeEntry_freesEntry s h .detached⟩

/-- A DETACH counts one detach, and the freeing of the entry none (R39). -/
theorem freeEntry_bump_detaches (s : State) (h : HandsetNo) (r : EndReason) :
    ((s.freeEntry h r).bump .detaches).globalCount .detaches = satSucc (s.globalCount .detaches) := by
  rw [globalCount_bump, if_pos rfl, freeEntry_detaches]

/-- Settles O13: a lapse and a DETACH, from what the freeing of an entry leaves. -/
theorem detachAndLapseFreeTheEntry : Obligations.DetachAndLapseFreeTheEntry := by
  refine fun h s hs => ⟨fun hr hx hc => ?_, fun b hb => ⟨fun hr => ?_, fun hr => ?_⟩⟩
  · obtain ⟨hown, hpage, hmark, hfrees⟩ := freeEntry_bump s h .lapses
    obtain ⟨hother, hcount, hframe⟩ := freeEntry_of_idle hc .detached
    refine ⟨(s.freeEntry h .detached).bump .lapses, ?_, hown, hother, hpage, bump_counters_congr hcount _, hmark, hframe,
      hfrees⟩
    rw [exec_lifetimeExpiry, whileServing_of hs, takeLifetime_of_due hr hx]
  · obtain ⟨hown, hpage, hmark, hfrees⟩ := freeEntry_bump (s.restartSilence b) h .detaches
    have hd := freeEntry_bump_detaches (s.restartSilence b) h .detached
    refine ⟨((s.restartSilence b).freeEntry h .detached).bump .detaches, ?_, hown, hpage, ?_, hmark, fun hc => ?_, hfrees⟩
    · rw [exec_detach_inService hb, takeDetach_of_registered (by rwa [restartSilence_roster])]
    · rw [hd, State.globalCount, restartSilence_counters]
      rfl
    · obtain ⟨hother, hcount, hframe⟩ := freeEntry_of_idle (s := s.restartSilence b) (h := h)
        (by rwa [restartSilence_roster]) .detached
      rw [restartSilence_roster] at hother
      rw [restartSilence_counters] at hcount
      rw [restartSilence_roster, restartSilence_counters, restartSilence_acu, restartSilence_pages,
        restartSilence_oru] at hframe
      exact ⟨hother, bump_counters_congr hcount _, hframe⟩
  · rw [exec_detach_inService hb, takeDetach_of_free (by rwa [restartSilence_roster])]

/-! ### DEREGISTER (R40) -/

/-- Settles O14: DEREGISTER of a FREE and of a REGISTERED entry. -/
theorem deregisterFreesTheEntry : Obligations.DeregisterFreesTheEntry := by
  refine fun slot h s ho => ⟨fun hr => ?_, fun hr => ⟨?_, freeEntry_own _ h _, freeEntry_freesEntry _ h _⟩⟩
  · have hf : ¬s.undispatched.roster[h].registered = true := by
      rw [show s.undispatched.roster = s.roster from rfl, hr]
      exact Bool.false_ne_true
    rw [exec_deregister, takeOrder_of_offers ho, State.takeDeregister, if_neg hf]
    rfl
  · have hf : s.undispatched.roster[h].registered = true := hr
    rw [exec_deregister, takeOrder_of_offers ho, State.takeDeregister, if_pos hf]
    rfl

end Sys2Proof.Machine
end

section
/-! SUPPORT. The page rounds (Chapter 3): the offers of a round one after another, the zone sequence, the PAGE order and
the round timer (R44 to R47; O18 to O20). -/

namespace Sys2Proof.Machine

open Sys2Proof

variable {s t u : State} {b : BaseNo} {m : Downlink} {h : HandsetNo} {z : ZoneNo}

/-! ### The zone sequence (R44) -/

theorem hasServing_iff : s.hasServing z = true ↔ ∃ b : BaseNo, s.service b = .serving ∧ s.links[b].zone = z := by
  simp [State.hasServing, State.service, Vector.any_eq_true, Fin.exists_iff]

theorem mem_zoneOrder (home z : ZoneNo) : z ∈ zoneOrder home := by
  refine List.mem_map.mpr ⟨z - home, List.mem_finRange _, ?_⟩
  rw [add_sub_cancel]

/-- How far a zone lies above the home zone, upward and round. -/
theorem zone_distance (home i : ZoneNo) : ((home + i).val + 16 - home.val) % 16 = i.val := by
  rw [Fin.val_add]
  omega

/-- Settles O19: the zones in the order considered, of which the sequence keeps those of the mask that are served. -/
theorem zoneSequenceFromHome : Obligations.ZoneSequenceFromHome := by
  refine fun s h => ⟨fun z => ?_, ?_⟩
  · rw [State.zoneSequence, List.mem_filter, Bool.and_eq_true, hasServing_iff]
    exact and_iff_right (mem_zoneOrder _ z)
  · refine List.Pairwise.sublist List.filter_sublist (List.pairwise_map.mpr ?_)
    refine (List.pairwise_lt_finRange 16).imp fun {i j} hij => ?_
    rw [zone_distance, zone_distance]
    exact hij

/-! ### One offer of a round (R13, R46) -/

theorem send_of_taken (ha : s.appendTaken b = true) : s.send b m = s.enqueue b m :=
  congrArg Prod.fst (append_of_taken ha)

theorem enqueue_link_other {x : BaseNo} (hx : x ≠ b) : (s.enqueue b m).links[x] = s.links[x] := by
  by_cases hq : s.links[b].queue = []
  · rw [enqueue_of_nil hq, State.transmit_links, updLink_get, if_neg hx.symm]
  · rw [enqueue_of_ne_nil hq, updLink_get, if_neg hx.symm]

/-- An append changes no link but its own. -/
theorem send_link_other {x : BaseNo} (hx : x ≠ b) : (s.send b m).links[x] = s.links[x] := by
  cases ha : s.appendTaken b with
  | true => rw [send_of_taken ha, enqueue_link_other hx]
  | false => rw [send_of_refused ha, State.bumpBase_links]

theorem appendTaken_congr (hl : t.links[b] = s.links[b]) : t.appendTaken b = s.appendTaken b := by
  rw [State.appendTaken, State.appendTaken, hl]

theorem enqueue_link_congr (hl : t.links[b] = s.links[b]) (hn : t.now = s.now) :
    (t.enqueue b m).links[b] = (s.enqueue b m).links[b] := by
  by_cases hq : s.links[b].queue = []
  · rw [enqueue_of_nil hq, enqueue_of_nil (hl ▸ hq), State.transmit_links, State.transmit_links, updLink_self,
      updLink_self, hl, State.freshHead, State.freshHead, hn]
  · rw [enqueue_of_ne_nil hq, enqueue_of_ne_nil (hl ▸ hq), updLink_self, updLink_self, hl]

/-- What an append makes of its link depends on that link and the frame count alone. -/
theorem send_link_congr (hl : t.links[b] = s.links[b]) (hn : t.now = s.now) :
    (t.send b m).links[b] = (s.send b m).links[b] := by
  have ht := appendTaken_congr hl
  cases ha : s.appendTaken b with
  | true => rw [send_of_taken ha, send_of_taken (ht.trans ha), enqueue_link_congr hl hn]
  | false => rw [send_of_refused ha, send_of_refused (ht.trans ha), State.bumpBase_links, State.bumpBase_links, hl]

/-- A message that is not stamped is transmitted at once from an empty queue (R14). -/
theorem enqueue_wire (hm : ∀ f, stampMessage f m = m) :
    (s.enqueue b m).wire = s.wire ++ if s.links[b].queue.isEmpty then [⟨b, m⟩] else [] := by
  by_cases hq : s.links[b].queue = []
  · rw [enqueue_of_nil hq, hm, hq]
    rfl
  · rw [enqueue_of_ne_nil hq, if_neg (by rwa [List.isEmpty_iff])]
    exact (List.append_nil _).symm

/-! ### The offers of a round, one after another (R46) -/

/-- What has become of `s` once the bases of `l`, each once, have been offered `m`: each refusal counts a discard of
its base and a base skipped. -/
structure Offered (s : State) (m : Downlink) (l : List BaseNo) (t : State) : Prop where
  links  : ∀ b : BaseNo, t.links[b] = if b ∈ l then (s.send b m).links[b] else s.links[b]
  base   : ∀ (b : BaseNo) (k : BaseCounter), t.baseCount b k =
    if b ∈ l ∧ s.appendTaken b = false ∧ k = .discards then satSucc (s.baseCount b k) else s.baseCount b k
  global : ∀ k : GlobalCounter, t.globalCount k =
    if k = .pageSkips then countUp (l.filter fun b => !s.appendTaken b).length (s.globalCount k) else s.globalCount k
  wire   : t.wire = s.wire ++ ((l.filter s.appendTaken).filter fun b => s.links[b].queue.isEmpty).map (⟨·, m⟩)
  frame  : { t with links := s.links, counters := s.counters, wire := s.wire } = s

namespace Offered

variable {l : List BaseNo}

theorem nil (s : State) (m : Downlink) : Offered s m [] s where
  links b := (if_neg List.not_mem_nil).symm
  base b k := (if_neg fun h => List.not_mem_nil h.1).symm
  global k := by split <;> rfl
  wire := (List.append_nil _).symm
  frame := rfl

theorem now (h : Offered s m l t) : t.now = s.now := (congrArg State.now h.frame :)

/-- A base not offered the message yet has its link as it was. -/
theorem link (h : Offered s m l t) (hb : b ∉ l) : t.links[b] = s.links[b] := (h.links b).trans (if_neg hb)

theorem appendTaken (h : Offered s m l t) (hb : b ∉ l) : t.appendTaken b = s.appendTaken b :=
  appendTaken_congr (h.link hb)

/-- The links after one more offer. -/
theorem links_snoc (h : Offered s m l t) (hb : b ∉ l) (hu : u.links = (t.send b m).links) (x : BaseNo) :
    u.links[x] = if x ∈ l ++ [b] then (s.send x m).links[x] else s.links[x] := by
  rw [hu]
  by_cases hx : x = b
  · subst hx
    rw [if_pos (List.mem_append_right l (List.mem_singleton_self x)), send_link_congr (h.link hb) h.now]
  · rw [send_link_other hx, h.links]
    simp only [List.mem_append, List.mem_singleton, hx, or_false]

/-- One more base takes the message. -/
theorem taken (h : Offered s m l t) (hm : ∀ f, stampMessage f m = m) (hb : b ∉ l) (ha : s.appendTaken b = true) :
    Offered s m (l ++ [b]) (t.send b m) := by
  have hq : t.send b m = t.enqueue b m := send_of_taken ((h.appendTaken hb).trans ha)
  have hc : (t.send b m).counters = t.counters := by rw [hq, enqueue_counters]
  refine ⟨h.links_snoc hb rfl, fun x k => ?_, fun k => ?_, ?_, ?_⟩
  · have hx : (x ∈ l ++ [b] ∧ s.appendTaken x = false ∧ k = .discards) ↔
        (x ∈ l ∧ s.appendTaken x = false ∧ k = .discards) := by
      rw [List.mem_append, List.mem_singleton]
      refine ⟨fun ⟨hx, hf, hk⟩ => ⟨hx.resolve_right ?_, hf, hk⟩, fun ⟨hx, hf, hk⟩ => ⟨.inl hx, hf, hk⟩⟩
      rintro rfl
      exact Bool.false_ne_true (hf.symm.trans ha)
    have hk := h.base x k
    simp only [State.baseCount, hc] at hk ⊢
    simp only [hx, hk]
  · have hk := h.global k
    simp only [State.globalCount, hc] at hk ⊢
    rw [hk, List.filter_append, List.filter_singleton, ha]
    simp only [Bool.not_true, cond_false, List.append_nil]
  · rw [hq, enqueue_wire hm, h.wire, h.link hb, List.filter_append, List.filter_singleton, ha, cond_true,
      List.filter_append, List.map_append, List.append_assoc, List.filter_singleton]
    cases s.links[b].queue.isEmpty <;> rfl
  · exact (congrArg (fun v : State => { v with links := s.links, counters := s.counters, wire := s.wire })
      (send_frame t b m) :).trans h.frame

/-- One more base refuses the message. -/
theorem refused (h : Offered s m l t) (hb : b ∉ l) (ha : s.appendTaken b = false) :
    Offered s m (l ++ [b]) ((t.bumpBase b .discards).bump .pageSkips) := by
  have hq : t.send b m = t.bumpBase b .discards := send_of_refused ((h.appendTaken hb).trans ha)
  refine ⟨h.links_snoc hb (by rw [hq, State.bump_links]), fun x k => ?_, fun k => ?_, ?_, h.frame⟩
  · have hc : ((t.bumpBase b .discards).bump .pageSkips).baseCount x k = _ := baseCount_bumpBase t b x .discards k
    rw [hc]
    by_cases hx : x = b
    · subst hx
      have hk : t.baseCount x k = s.baseCount x k := (h.base x k).trans (if_neg fun hn => hb hn.1)
      have hm : x ∈ l ++ [x] := List.mem_append_right l (List.mem_singleton_self x)
      by_cases hd : k = .discards
      · subst hd
        rw [if_pos ⟨rfl, rfl⟩, if_pos ⟨hm, ha, rfl⟩, hk]
      · rw [if_neg fun hn => hd hn.2.symm, if_neg fun hn => hd hn.2.2, hk]
    · rw [if_neg fun hn => hx hn.1.symm, h.base]
      simp only [List.mem_append, List.mem_singleton, hx, or_false]
  · have hk : (t.bumpBase b .discards).globalCount = t.globalCount := rfl
    rw [globalCount_bump, hk, h.global, h.global, List.filter_append, List.filter_singleton, ha, Bool.not_false,
      cond_true, List.length_append]
    by_cases hk : k = .pageSkips
    · subst hk
      simp only [if_true]
      rfl
    · rw [if_neg fun e => hk e.symm, if_neg hk, if_neg hk]
  · change t.wire = _
    rw [h.wire, List.filter_append, List.filter_singleton, ha, cond_false, List.append_nil]

end Offered

theorem pageAppend_of_taken {p : PageRecord} (ha : s.appendTaken b = true) :
    pageAppend m (s, p) b = (s.send b m, { p with appended := satSucc p.appended }) := by
  rw [pageAppend, append_eq_send, ha]

theorem pageAppend_of_refused {p : PageRecord} (ha : s.appendTaken b = false) :
    pageAppend m (s, p) b =
      ((s.bumpBase b .discards).bump .pageSkips, { p with skipped := satSucc p.skipped }) := by
  rw [pageAppend, append_of_refused ha]

/-- A record that has counted `n` pages appended and `k` bases skipped. -/
def PageRecord.counting (p : PageRecord) (n k : Nat) : PageRecord :=
  { p with appended := countUp n p.appended, skipped := countUp k p.skipped }

/-- The offers of a round to bases each named once, with what the record counts (R46). -/
theorem foldl_pageAppend (hm : ∀ f, stampMessage f m = m) (s : State) (p : PageRecord) {l : List BaseNo} (hl : l.Nodup) :
    Offered s m l (l.foldl (pageAppend m) (s, p)).1 ∧
      (l.foldl (pageAppend m) (s, p)).2 =
        p.counting (l.filter s.appendTaken).length (l.filter fun b => !s.appendTaken b).length := by
  induction l using List.reverseRecOn with
  | nil => exact ⟨.nil s m, rfl⟩
  | append_singleton l b ih =>
    obtain ⟨hn, -, hd⟩ := List.nodup_append.mp hl
    have hb : b ∉ l := fun hx => hd b hx b (List.mem_singleton_self b) rfl
    obtain ⟨ho, hr⟩ := ih hn
    rw [List.foldl_append, List.foldl_cons, List.foldl_nil, ← Prod.eta (l.foldl (pageAppend m) (s, p))]
    simp only [List.filter_append, List.filter_singleton, List.length_append]
    cases ha : s.appendTaken b with
    | true =>
      rw [pageAppend_of_taken ((ho.appendTaken hb).trans ha), hr]
      exact ⟨ho.taken hm hb ha, rfl⟩
    | false =>
      rw [pageAppend_of_refused ((ho.appendTaken hb).trans ha), hr]
      exact ⟨ho.refused hb ha, rfl⟩

/-! ### A round (R46) -/

theorem mem_roundBases : b ∈ s.roundBases z ↔ s.service b = .serving ∧ s.links[b].zone = z := by
  rw [State.roundBases, mem_indicesWhere, Bool.and_eq_true, beq_iff_eq, beq_iff_eq]
  rfl

theorem roundBases_nodup (s : State) (z : ZoneNo) : (s.roundBases z).Nodup := indicesWhere_nodup _ _

theorem length_roundBases_le (s : State) (z : ZoneNo) : (s.roundBases z).length ≤ 48 := by
  simpa using (roundBases_nodup s z).length_le_card

/-- Every base of a round takes the PAGE or is skipped. -/
theorem length_roundTaken_add (s : State) (z : ZoneNo) :
    (s.roundTaken z).length + (s.roundSkipped z).length = (s.roundBases z).length :=
  (List.length_eq_length_filter_add s.appendTaken).symm

/-- The record of a page after a round in zone `z`, its round timer restarted (R46, R47). -/
def State.rounded (s : State) (p : PageRecord) (z : ZoneNo) : PageRecord :=
  { p.counting (s.roundTaken z).length (s.roundSkipped z).length with
    roundsMade := p.roundsMade + 1, nextRound := s.after s.plan.header.pageSpacing }

theorem round_offered (s : State) (p : PageRecord) (z : ZoneNo) :
    Offered s (.page p.handset s.roster[p.handset].identity) (s.roundBases z) (s.round p z).1 :=
  (foldl_pageAppend (fun _ => rfl) s p (roundBases_nodup s z)).1

theorem round_record (s : State) (p : PageRecord) (z : ZoneNo) :
    { (s.round p z).2 with nextRound := s.after s.plan.header.pageSpacing } = s.rounded p z := by
  rw [State.round]
  dsimp only
  rw [(foldl_pageAppend (fun _ => rfl) s p (roundBases_nodup s z)).2]
  rfl

theorem Offered.pagedRound (ho : Offered s (.page h s.roster[h].identity) (s.roundBases z) t) : s.pagedRound t h z := by
  refine ⟨fun b => ⟨fun hb => ?_, fun hb => ?_, fun k => ?_⟩, ho.global, ho.wire⟩
  · rw [ho.links, if_pos (mem_roundBases.mpr hb)]
  · rw [ho.links, if_neg (mt mem_roundBases.mp hb)]
  · rw [ho.base]
    simp only [mem_roundBases, and_assoc]

theorem makeRound_pagedRound (s : State) (p : PageRecord) (z : ZoneNo) :
    s.pagedRound (s.makeRound p z) p.handset z :=
  (round_offered s p z).pagedRound

/-- All that a round leaves alone (R46). -/
theorem makeRound_frame (s : State) (p : PageRecord) (z : ZoneNo) :
    { s.makeRound p z with pages := s.pages, links := s.links, counters := s.counters, wire := s.wire } = s :=
  (congrArg (fun v : State => { v with pages := s.pages }) (round_offered s p z).frame :)

theorem makeRound_pages (s : State) (p : PageRecord) (z : ZoneNo) :
    (s.makeRound p z).pages = s.pages.map fun q => if q.handset = p.handset then s.rounded p z else q := by
  have hp : (s.round p z).1.pages = s.pages := (congrArg State.pages (round_offered s p z).frame :)
  rw [State.makeRound]
  dsimp only
  rw [round_record, State.putPage, hp]
  rfl

theorem pageOf_handset {p : PageRecord} (e : s.pageOf h = some p) : p.handset = h := by
  simpa using List.find?_some e

/-- The page of a handset after a round made for it. -/
theorem makeRound_pageOf {p q : PageRecord} (e : s.pageOf q.handset = some p) (z : ZoneNo) :
    (s.makeRound q z).pageOf q.handset = some (s.rounded q z) := by
  have hf : ∀ x : PageRecord, (if x.handset = q.handset then s.rounded q z else x).handset = x.handset := by
    intro x
    split
    · next hx => exact hx.symm
    · rfl
  rw [State.pageOf, makeRound_pages, List.find?_map]
  simp only [Function.comp_def, hf]
  rw [← State.pageOf, e, Option.map_some, if_pos (pageOf_handset e)]

/-- A round does not depend on the page table or the Order Unit. -/
theorem pagedRound_of_undispatched {l : List PageRecord} (e : (s.undispatched.setPages l).pagedRound u h z) :
    s.pagedRound u h z := by
  obtain ⟨hb, hg, hw⟩ := e
  exact ⟨fun b => ⟨fun hz => ((hb b).1 hz).trans (send_link_congr rfl rfl), (hb b).2⟩, hg, hw⟩

/-! ### The PAGE order (R45) -/

theorem pageOf_eq_none : s.pageOf h = none ↔ ∀ p : PageRecord, p ∈ s.pages → p.handset ≠ h := by
  simp [State.pageOf, List.find?_eq_none]

/-- A count that stops at 65535 is exact below it. -/
theorem countUp_zero {n : Nat} (hn : n ≤ 65535) : countUp n 0 = n := by
  induction n with
  | zero => rfl
  | succ n ih =>
    rw [countUp, ih (by omega), satSucc, if_pos]
    exact hn

/-- The checks of a PAGE order for a REGISTERED handset without a call and without a page (R45). -/
theorem pageRefusal_of_idle (hr : s.roster[h].registered = true) (hc : s.roster[h].call = none)
    (hp : s.pageOf h = none) :
    s.pageRefusal h = if 16 ≤ s.pages.length then some .congested
      else if (s.zoneSequence h).isEmpty then some .noService else none := by
  rw [State.pageRefusal, hr, hc, hp]
  rfl

/-- A PAGE order that is refused (R45). -/
theorem exec_page_of_refused {slot : SlotNo} {c : StateCode} (ho : s.offers slot (.page h))
    (hc : s.pageRefusal h = some c) :
    exec (.page slot h) s = .next ((s.undispatched.handBack slot ⟨.state c, 0, []⟩).scanOn).settle := by
  have hc' : s.undispatched.pageRefusal h = some c := hc
  rw [exec_page, takeOrder_of_offers ho, State.takePage, hc']
  rfl

/-- The record that a PAGE order makes, before its first round (R45). -/
def State.newPage (s : State) (slot : SlotNo) (h : HandsetNo) (z : ZoneNo) (r : List ZoneNo) : PageRecord where
  handset := h
  slot := slot
  zones := z :: r
  roundsLeft := if z = s.roster[h].lastZone then s.plan.header.homeRounds - 1 else 0
  nextRound := s.after s.plan.header.pageSpacing
  roundsMade := 0
  appended := 0
  skipped := 0

/-- A PAGE order that no check refuses (R45). -/
theorem exec_page_of_accepted {slot : SlotNo} {r : List ZoneNo} (ho : s.offers slot (.page h))
    (hc : s.pageRefusal h = none) (hz : s.zoneSequence h = z :: r) :
    exec (.page slot h) s = .next ((s.undispatched.setPages (s.pages ++ [s.newPage slot h z r])).makeRound
      (s.newPage slot h z r) z).scanOn.settle := by
  have hc' : s.undispatched.pageRefusal h = none := hc
  have hz' : s.undispatched.zoneSequence h = z :: r := hz
  rw [exec_page, takeOrder_of_offers ho, State.takePage, hc']
  dsimp only
  rw [State.startPage, hz']
  rfl

/-- The page table after the first round of a page. -/
theorem firstRound_pages {slot : SlotNo} {r : List ZoneNo} (hn : ∀ p : PageRecord, p ∈ s.pages → p.handset ≠ h) :
    ((s.undispatched.setPages (s.pages ++ [s.newPage slot h z r])).makeRound (s.newPage slot h z r) z).pages =
      s.pages ++ [s.rounded (s.newPage slot h z r) z] := by
  rw [makeRound_pages, State.setPages_pages, List.map_append]
  congr 1
  · exact (List.map_congr_left fun q hq => if_neg (hn q hq)).trans (List.map_id _)
  · exact congrArg (fun q => [q]) (if_pos rfl)

/-- Settles O18: the checks in their order, and the first round of a page that passes them. -/
theorem pageOrderStartsOrIsRefused : Obligations.PageOrderStartsOrIsRefused := by
  refine ⟨fun s h l => ⟨rfl, rfl⟩, fun slot h s ho => ⟨fun hr => ?_, fun hr => ⟨fun hc => ?_, fun hc =>
    ⟨fun hp => ?_, fun hp => ⟨fun hl => ?_, fun hl => ⟨fun hz => ?_, fun z r hz => ?_⟩⟩⟩⟩⟩⟩
  · exact exec_page_of_refused ho (by rw [State.pageRefusal, hr]; rfl)
  · exact exec_page_of_refused ho (by rw [State.pageRefusal, hr, hc]; rfl)
  · have hp' : (s.pageOf h).isSome = true := by
      obtain ⟨p, hm, he⟩ := hp
      rw [Option.isSome_iff_ne_none, Ne, pageOf_eq_none]
      exact fun hn => hn p hm he
    exact exec_page_of_refused ho (by rw [State.pageRefusal, hr, hc, hp']; rfl)
  all_goals have hidle := pageRefusal_of_idle hr hc (pageOf_eq_none.mpr hp)
  · exact exec_page_of_refused ho (by rw [hidle, if_pos hl])
  all_goals rw [if_neg (Nat.not_le.mpr hl), hz] at hidle
  · exact exec_page_of_refused ho hidle
  · have hf := exec_page_of_accepted ho hidle hz
    have hlen := length_roundTaken_add s z
    have hle := length_roundBases_le s z
    have ht : countUp (s.roundTaken z).length 0 = (s.roundTaken z).length := countUp_zero (by omega)
    have hk : countUp (s.roundSkipped z).length 0 = (s.roundSkipped z).length := countUp_zero (by omega)
    refine ⟨_, s.rounded (s.newPage slot h z r) z, hf, firstRound_pages hp, rfl, rfl, rfl, rfl, rfl, rfl, ?_, ht, hk,
      fun b => mem_roundBases, indicesWhere_ascending _ _, ?_, ?_⟩
    · exact (congrArg₂ (· + ·) ht hk).trans hlen
    · exact pagedRound_of_undispatched (makeRound_pagedRound _ (s.newPage slot h z r) z)
    · exact (congrArg (fun v : State => { v with pages := s.pages })
        (makeRound_frame (s.undispatched.setPages (s.pages ++ [s.newPage slot h z r])) (s.newPage slot h z r) z) :)

/-! ### The round timer (R47) -/

theorem exec_roundTimerExpiry_of_due {p : PageRecord} (hs : s.serves = true) (hp : s.pageOf h = some p)
    (hn : p.nextRound = s.now) : exec (.roundTimerExpiry h) s = .next (s.expireRound p).settle := by
  rw [exec_roundTimerExpiry, whileServing_of hs, State.takeRoundTimer, hp]
  dsimp only
  rw [if_pos hn]

theorem expireRound_of_left {p : PageRecord} {r : List ZoneNo} (hz : p.zones = z :: r) (hl : 0 < p.roundsLeft) :
    s.expireRound p = s.makeRound { p with roundsLeft := p.roundsLeft - 1 } z := by
  rw [State.expireRound, hz]
  exact if_pos hl

theorem expireRound_of_next {p : PageRecord} {y : ZoneNo} {l : List ZoneNo} (hz : p.zones = z :: y :: l)
    (hl : p.roundsLeft = 0) : s.expireRound p = s.makeRound { p with zones := y :: l, roundsLeft := 0 } y := by
  rw [State.expireRound, hz]
  exact if_neg (by omega)

theorem expireRound_of_last {p : PageRecord} (hz : p.zones = [z]) (hl : p.roundsLeft = 0) :
    s.expireRound p = s.endPage p (.failed .notFound) 0 0 := by
  rw [State.expireRound, hz]
  exact if_neg (by omega)

/-- Settles O20: by the rounds left in the zone and the zones left in the sequence. -/
theorem roundTimerPagesOn : Obligations.RoundTimerPagesOn := by
  intro h s p z r hs hp hn hz
  have hex := exec_roundTimerExpiry_of_due hs hp hn
  obtain rfl := pageOf_handset hp
  refine ⟨fun hl => ?_, fun hl => ⟨?_, ?_⟩⟩
  · rw [expireRound_of_left hz hl] at hex
    exact ⟨_, hex, ⟨_, makeRound_pageOf (q := { p with roundsLeft := p.roundsLeft - 1 }) hp z,
      hz, rfl, rfl, rfl, rfl, rfl, rfl⟩, makeRound_pagedRound s _ z, makeRound_frame s _ z⟩
  · rintro y l rfl
    rw [expireRound_of_next hz hl] at hex
    exact ⟨_, hex, ⟨_, makeRound_pageOf (q := { p with zones := y :: l, roundsLeft := 0 }) hp y,
      rfl, rfl, rfl, rfl, rfl, rfl, rfl⟩, makeRound_pagedRound s _ y, makeRound_frame s _ y⟩
  · rintro rfl
    rw [hex, expireRound_of_last hz hl]
    rfl

end Sys2Proof.Machine
end

section
/-! SUPPORT. The end of a page by a PAGE ANSWER (R48, R49; O21) and the admission of a call (R50, R60, R62; O22). -/

namespace Sys2Proof.Machine

open Sys2Proof

variable {s t : State} {b : BaseNo} {h : HandsetNo} {c : CallNo} {k : ChanNo}

/-! ### A page that ends DONE (R48) -/

theorem pageFound_pages (s : State) (p : PageRecord) (d : DoneCode) (b : BaseNo) :
    (s.pageFound p d b).pages = s.pages.filter fun q => q.handset != p.handset := rfl

/-- A page's end DONE counts one page found, whatever else has changed. -/
theorem pageFound_counters (e : t.counters = s.counters) (p : PageRecord) (d : DoneCode) (b : BaseNo) :
    (t.pageFound p d b).counters = (s.bump .pagesFound).counters := bump_counters_congr e _

/-- A page's end DONE hands its order back, whatever else has changed (R48, R153). -/
theorem pageFound_oru (ho : t.oru = s.oru) (hz : t.links[b].zone = s.links[b].zone) (p : PageRecord) (d : DoneCode) :
    (t.pageFound p d b).oru = (s.handBack p.slot ⟨.done d, b.val, pageData p s.links[b].zone.val⟩).oru := by
  have hf : ∀ v : State, (v.pageFound p d b).oru = { v.oru with
      inFlight := enterAnswering p.slot v.oru.inFlight
      queue := v.oru.queue ++ [.resultWrite p.slot ⟨.done d, b.val, pageData p v.links[b].zone.val⟩,
        .answeredWrite p.slot] } := fun _ => rfl
  rw [hf, ho, hz]
  rfl

theorem filter_pages_of_none (e : s.pageOf h = none) : (s.pages.filter fun p => p.handset != h) = s.pages :=
  List.filter_eq_self.mpr fun p hp => bne_iff_ne.mpr (pageOf_eq_none.mp e p hp)

theorem restartSilence_pageOf (s : State) (b : BaseNo) (h : HandsetNo) :
    (s.restartSilence b).pageOf h = s.pageOf h := by
  rw [State.pageOf, restartSilence_pages]
  rfl

/-! ### PAGE ANSWER (R49) -/

theorem exec_pageAnswer_inService (hc : s.carries b) (x : HandsetNo) :
    exec (.pageAnswer b x) s = .next ((s.restartSilence b).pageAnswered b x).settle :=
  (exec_pageAnswer s b x).trans (messageFrom_inService hc)

theorem pageAnswered_of_free (hr : s.roster[h].registered = false) : s.pageAnswered b h = s.bump .stale :=
  if_neg (by rw [hr]; exact Bool.false_ne_true)

theorem pageAnswered_of_none (hr : s.roster[h].registered = true) (hp : s.pageOf h = none) :
    s.pageAnswered b h = s.locate h b := by
  rw [State.pageAnswered, if_pos hr, hp]

/-- The state with handset `h` located at base `b` and its lifetime renewed (R33, R35, R49). -/
def State.locatedAndRenewed (s : State) (b : BaseNo) (h : HandsetNo) : State :=
  s.changeEntry h (fun e => { e with lastBase := b, lastZone := s.links[b].zone, expiry := s.renewedExpiry e })
    (s.locationBits h b)

/-- All that a handset's location and the end of its page do beside the tables that it changes. -/
theorem locatedAndRenewed_pageFound_frame (s : State) (h : HandsetNo) (p : PageRecord) (d : DoneCode) (b : BaseNo) :
    { (s.locatedAndRenewed b h).pageFound p d b with
      roster := s.roster, acu := s.acu, oru := s.oru, counters := s.counters } =
        s.setPages (s.pages.filter fun q => q.handset != p.handset) := rfl

theorem pageAnswered_of_page {p : PageRecord} (hr : s.roster[h].registered = true) (hp : s.pageOf h = some p) :
    s.pageAnswered b h = (s.locatedAndRenewed b h).pageFound p .answered b := by
  rw [State.pageAnswered, if_pos hr, hp, locate_of_registered hr, renew_eq, changeEntry_changeEntry_zero]
  rfl

theorem restartSilence_locationBits (s : State) (b x : BaseNo) (h : HandsetNo) :
    (s.restartSilence b).locationBits h x = s.locationBits h x := by
  rw [State.locationBits, restartSilence_roster]
  rfl

/-- Settles O21: a PAGE ANSWER by the service state, the entry and the page. -/
theorem pageAnswerLocatesTheHandset : Obligations.PageAnswerLocatesTheHandset := by
  refine fun b h s hs => ⟨messageFrom_joining hs, fun hc => ⟨fun hr => ?_, fun hr => ?_⟩⟩
  · rw [exec_pageAnswer_inService hc, pageAnswered_of_free (by rwa [restartSilence_roster])]
  have hr' : (s.restartSilence b).roster[h].registered = true := by rwa [restartSilence_roster]
  have hz := restartSilence_zone hc
  refine ⟨fun p hp => ?_, fun hp => ?_⟩
  · have hex := exec_pageAnswer_inService hc h
    rw [pageAnswered_of_page hr' (by rwa [restartSilence_pageOf])] at hex
    refine ⟨_, hex, ?_, fun x hx => ?_, ?_, pageFound_oru (restartSilence_oru s b) hz p .answered,
      pageFound_counters (restartSilence_counters s b) p .answered b, ?_⟩
    · change ((s.restartSilence b).locatedAndRenewed b h).roster[h] = _
      rw [State.locatedAndRenewed, changeEntry_self, restartSilence_roster, hz, State.renewedExpiry,
        lifetimeEnd_of_still (s.restartSilence_still b)]
    · change ((s.restartSilence b).locatedAndRenewed b h).roster[x] = _
      rw [State.locatedAndRenewed, changeEntry_other hx, restartSilence_roster]
    · change ((s.restartSilence b).locatedAndRenewed b h).acu.handsetMarks[h] = _
      rw [State.locatedAndRenewed, changeEntry_mark, restartSilence_acu, restartSilence_locationBits]
      rfl
    · rw [← pageOf_handset hp, ← restartSilence_roster s b, ← restartSilence_acu s b, ← restartSilence_oru s b,
        ← restartSilence_counters s b, ← restartSilence_pages s b]
      exact locatedAndRenewed_pageFound_frame _ _ p .answered b
  · rw [exec_pageAnswer_inService hc, pageAnswered_of_none hr' (by rwa [restartSilence_pageOf]),
      locate_of_registered hr', restartSilence_locationBits, hz]
    rfl

/-! ### The end of a page by a call (R50) -/

theorem pageCallNotice_of_page {p : PageRecord} (e : s.pageOf h = some p) :
    s.pageCallNotice h b = s.pageFound p .found b := by
  rw [State.pageCallNotice, e]

theorem pageCallNotice_of_none (e : s.pageOf h = none) : s.pageCallNotice h b = s := by
  rw [State.pageCallNotice, e]

/-- All that the end of a handset's page by a call leaves alone (R50). -/
theorem pageCallNotice_frame (s : State) (h : HandsetNo) (b : BaseNo) :
    { s.pageCallNotice h b with pages := s.pages, oru := s.oru, counters := s.counters } = s := by
  unfold State.pageCallNotice
  split <;> rfl

section
variable (s : State) (h : HandsetNo) (b : BaseNo)

theorem pageCallNotice_links : (s.pageCallNotice h b).links = s.links :=
  (congrArg State.links (pageCallNotice_frame s h b) :)
theorem pageCallNotice_plan : (s.pageCallNotice h b).plan = s.plan :=
  (congrArg State.plan (pageCallNotice_frame s h b) :)
theorem pageCallNotice_roster : (s.pageCallNotice h b).roster = s.roster :=
  (congrArg State.roster (pageCallNotice_frame s h b) :)
theorem pageCallNotice_chans : (s.pageCallNotice h b).chans = s.chans :=
  (congrArg State.chans (pageCallNotice_frame s h b) :)
theorem pageCallNotice_calls : (s.pageCallNotice h b).calls = s.calls :=
  (congrArg State.calls (pageCallNotice_frame s h b) :)

theorem pageCallNotice_pages : (s.pageCallNotice h b).pages = s.pages.filter fun p => p.handset != h := by
  cases e : s.pageOf h with
  | none => rw [pageCallNotice_of_none e, filter_pages_of_none e]
  | some p => rw [pageCallNotice_of_page e, pageFound_pages, pageOf_handset e]

end

/-! ### Free channels and free calls (R60, R62) -/

theorem mem_freeChannels : k ∈ s.freeChannels b ↔ s.chan b k = .free ∧ k.val < s.links[b].effCount := by
  rw [State.freeChannels, List.mem_filter, mem_indicesWhere, beq_iff_eq, decide_eq_true_eq]
  rfl

theorem freeChannels_ascending (s : State) (b : BaseNo) : (s.freeChannels b).Pairwise (· < ·) :=
  (indicesWhere_ascending _ _).sublist List.filter_sublist

theorem freeCall_some (e : s.freeCall = some c) : s.calls[c].state = .free ∧ ∀ d < c, s.calls[d].state ≠ .free := by
  simpa using lowestWhere_some e

theorem freeCall_eq_none : s.freeCall = none ↔ ∀ c : CallNo, s.calls[c].state ≠ .free := by
  rw [State.freeCall, lowestWhere_none]
  exact forall_congr' fun c => by simp

theorem freeChannels_congr (hl : t.links[b].effCount = s.links[b].effCount) (hk : t.chans = s.chans) :
    t.freeChannels b = s.freeChannels b := by
  rw [State.freeChannels, State.freeChannels, hl, hk]

theorem freeCall_congr (hk : t.calls = s.calls) : t.freeCall = s.freeCall := by
  rw [State.freeCall, State.freeCall, hk]

/-! ### The checks of a CALL REQUEST (R60) -/

/-- A base has room for a call where it has a FREE channel, and more than its guard count for class STANDARD. -/
theorem hasRoom_iff {v : HandsetClass} : s.hasRoom b v = true ↔
    s.freeChannels b ≠ [] ∧ (v = .standard → s.plan.guards[b] < (s.freeChannels b).length) := by
  cases v <;> simp [State.hasRoom, List.length_pos_iff]

/-- One check of several: it passes and the rest pass. -/
theorem check_passed_iff {α : Type} {p : Prop} [Decidable p] {r : α} {x : Option α} :
    (if p then some r else x) = none ↔ ¬p ∧ x = none := by
  split <;> simp [*]

/-- A CALL REQUEST that passes every check (R60). -/
theorem callRefusal_eq_none : s.callRefusal b h = none ↔
    s.service b = .serving ∧ s.roster[h].registered = true ∧ s.roster[h].call = none ∧ s.freeCall ≠ none ∧
      s.hasRoom b s.roster[h].cls = true := by
  rw [State.callRefusal, check_passed_iff, check_passed_iff, check_passed_iff, check_passed_iff, check_passed_iff]
  simp [Option.ne_none_iff_isSome]

/-- The checks read the link and the channels of the base, the roster, the call table and the plan. -/
theorem callRefusal_congr (hs : t.service b = s.service b) (hl : t.links[b].effCount = s.links[b].effCount)
    (hk : t.chans = s.chans) (hr : t.roster = s.roster) (hc : t.calls = s.calls) (hp : t.plan = s.plan) :
    t.callRefusal b h = s.callRefusal b h := by
  have hf : ∀ v, t.hasRoom b v = s.hasRoom b v := fun v => by
    cases v <;> simp only [State.hasRoom, freeChannels_congr hl hk, hp]
  rw [State.callRefusal, State.callRefusal, hs, hr, hf, freeCall_congr hc]

theorem pageCallNotice_callRefusal (s : State) (h : HandsetNo) (b : BaseNo) :
    (s.pageCallNotice h b).callRefusal b h = s.callRefusal b h := by
  have hl := pageCallNotice_links s h b
  exact callRefusal_congr (by rw [State.service, hl]; rfl) (by rw [hl]) (pageCallNotice_chans s h b)
    (pageCallNotice_roster s h b) (pageCallNotice_calls s h b) (pageCallNotice_plan s h b)

theorem restartSilence_chans (s : State) (b : BaseNo) : (s.restartSilence b).chans = s.chans :=
  (congrArg State.chans (restartSilence_frame s b) :)

theorem restartSilence_freeChannels (hc : s.carries b) : (s.restartSilence b).freeChannels b = s.freeChannels b :=
  freeChannels_congr (by rw [restartSilence_get hc.active]) (restartSilence_chans s b)

theorem restartSilence_callRefusal (hc : s.carries b) (h : HandsetNo) :
    (s.restartSilence b).callRefusal b h = s.callRefusal b h :=
  callRefusal_congr (by rw [State.service, restartSilence_get hc.active]; rfl)
    (by rw [restartSilence_get hc.active]) (restartSilence_chans s b) (restartSilence_roster s b)
    (restartSilence_calls s b) (congrArg State.plan (restartSilence_frame s b) :)

/-! ### The admission of a call (R62) -/

theorem exec_callRequest_inService (hc : s.carries b) (h : HandsetNo) (paged : Bool) :
    exec (.callRequest b h paged) s = .next ((s.restartSilence b).takeCallRequest b h paged).settle :=
  (exec_callRequest s b h paged).trans (messageFrom_inService hc)

/-- A CALL REQUEST that passes every check and whose grant is taken is admitted, any page of the handset ended before
(R50, R62). -/
theorem takeCallRequest_of_admitted (paged : Bool) (hn : s.callRefusal b h = none)
    (hk : (s.freeChannels b).head? = some k) (hc : s.freeCall = some c) (ha : s.appendTaken b = true) :
    s.takeCallRequest b h paged =
      ((s.pageCallNotice h b).send b (.channelGrant h k c)).admitCall b h k c paged := by
  obtain ⟨-, hr, -⟩ := callRefusal_eq_none.mp hn
  have hl := pageCallNotice_links s h b
  have hk' : (s.pageCallNotice h b).freeChannels b = s.freeChannels b :=
    freeChannels_congr (by rw [hl]) (pageCallNotice_chans s h b)
  have ha' : (s.pageCallNotice h b).appendTaken b = true := (appendTaken_congr (by rw [hl])).trans ha
  rw [State.takeCallRequest, if_pos hr, pageCallNotice_callRefusal, hn]
  dsimp only
  rw [State.admission, hk', hk, freeCall_congr (pageCallNotice_calls s h b), hc]
  dsimp only
  rw [append_eq_send, ha']

/-- A CALL REQUEST that a check refuses leaves the roster as it was (R61). -/
theorem takeCallRequest_roster_of_refused {r : RefusalReason} (paged : Bool) (hr : s.callRefusal b h = some r) :
    (s.takeCallRequest b h paged).roster = s.roster := by
  by_cases hg : s.roster[h].registered = true
  · rw [State.takeCallRequest, if_pos hg, pageCallNotice_callRefusal, hr]
    exact (send_roster _ _ _).trans (pageCallNotice_roster s h b)
  · rw [State.takeCallRequest, if_neg hg, hr]
    exact send_roster _ _ _

/-- The entry of handset `h` bound to call `c` and located at base `b` (R36, R62). -/
def State.boundEntry (s : State) (b : BaseNo) (c : CallNo) (e : RosterEntry) : RosterEntry :=
  { e with call := some c, expiry := none, lastBase := b, lastZone := s.links[b].zone }

/-- The state with channel `k` of base `b` HELD by call `c` and the entry of the call written (R62). -/
def State.callEntered (s : State) (b : BaseNo) (h : HandsetNo) (k : ChanNo) (c : CallNo) (paged : Bool) : State :=
  (s.setChan b k (.held c)).updCall c fun e => admittedCall e b h k paged s.now

/-- All that the entry of a call leaves alone. -/
theorem callEntered_frame (s : State) (b : BaseNo) (h : HandsetNo) (k : ChanNo) (c : CallNo) (paged : Bool) :
    { s.callEntered b h k c paged with chans := s.chans, calls := s.calls } = s := rfl

theorem callEntered_self (s : State) (b : BaseNo) (h : HandsetNo) (k : ChanNo) (c : CallNo) (paged : Bool) :
    (s.callEntered b h k c paged).calls[c] = admittedCall s.calls[c] b h k paged s.now :=
  (updCall_get _ c c _).trans (if_pos rfl)

theorem callEntered_other {d : CallNo} (hd : d ≠ c) (s : State) (b : BaseNo) (h : HandsetNo) (k : ChanNo)
    (paged : Bool) : (s.callEntered b h k c paged).calls[d] = s.calls[d] :=
  (updCall_get _ c d _).trans (if_neg hd.symm)

/-- An admission for a REGISTERED handset without a call is one change of each table (R62). -/
theorem admitCall_eq (paged : Bool) (hr : s.roster[h].registered = true) (hn : s.roster[h].call = none) :
    s.admitCall b h k c paged =
      (((s.callEntered b h k c paged).changeEntry h (s.boundEntry b c) (attnCall ||| s.locationBits h b)).markCall
        c attnState).bumpBase b .admitted := by
  have hb := bindCall_of_idle (s := s.callEntered b h k c paged) hr hn c
  rw [State.admitCall, ← State.callEntered, hb, locate_of_registered (by rw [changeEntry_self]; exact hr),
    changeEntry_changeEntry, State.locationBits, changeEntry_self]
  rfl

/-- The call mark holds the bits that were added last (R157). -/
theorem markCall_holds (s : State) (c : CallNo) (v : Byte) :
    ∃ w, (s.markCall c v).acu.callMarks[c] = some w ∧ w &&& v = v := by
  have hm : (s.markCall c v).acu.callMarks[c] = addMark s.acu.callMarks[c] v :=
    (getElem_set_fin _ _ _ _).trans (if_pos rfl)
  rw [hm]
  cases s.acu.callMarks[c] with
  | none => exact ⟨v, rfl, BitVec.and_self⟩
  | some w => exact ⟨_, rfl, or_and_added w v⟩

/-- The state with the page table, the Order Unit and the counters of another. -/
def State.withPagesOf (s t : State) : State := { s with pages := t.pages, oru := t.oru, counters := t.counters }

/-- A message taken into a queue neither reads nor changes the page table, the Order Unit and the counters (R13). -/
theorem enqueue_withPagesOf (s t : State) (b : BaseNo) (m : Downlink) :
    (s.withPagesOf t).enqueue b m = (s.enqueue b m).withPagesOf t := by
  by_cases hq : s.links[b].queue = []
  · rw [enqueue_of_nil (s := s.withPagesOf t) hq, enqueue_of_nil hq]
    rfl
  · rw [enqueue_of_ne_nil (s := s.withPagesOf t) hq, enqueue_of_ne_nil hq]
    rfl

/-- The grant after the end of a page does to the links and the transmissions what it does without (R50, R62). -/
theorem send_pageCallNotice {m : Downlink} (ha : s.appendTaken b = true) :
    ((s.pageCallNotice h b).send b m).withPagesOf s = s.send b m := by
  have ha' : (s.pageCallNotice h b).appendTaken b = true :=
    (appendTaken_congr (by rw [pageCallNotice_links])).trans ha
  have hf : (s.pageCallNotice h b).withPagesOf s = s := pageCallNotice_frame s h b
  rw [send_of_taken ha', send_of_taken ha, ← enqueue_withPagesOf, hf]

/-- The roster as the end of an event leaves it while the part serves. -/
theorem settle_roster (hs : s.serves = true) (hu : t.still = s.still) : t.settle.roster = t.roster := by
  have hh : t.regs.halting = false := by
    rw [(still_fields hu).1]
    exact halting_of_serves hs
  obtain ⟨-, -, -, hr, -⟩ := body_fields (settle_body hh)
  exact hr

/-- A CALL REQUEST that is not taken, or that a check refuses, leaves the roster as it was (R7, R22, R60, R61). -/
theorem exec_callRequest_roster {paged : Bool} (hs : s.serves = true) (hn : s.callRefusal b h ≠ none)
    (e : exec (.callRequest b h paged) s = .next t) : t.roster = s.roster := by
  have same : ∀ u : State, u.still = s.still → u.roster = s.roster → .next u.settle = (.next t : Out) →
      t.roster = s.roster := by
    rintro u hu hr ⟨⟩
    rw [settle_roster hs hu, hr]
  cases hv : s.service b with
  | joining =>
    rw [exec_callRequest, messageFrom_joining hs hv] at e
    exact same _ (by simp) (by simp) e
  | absent | stopped =>
    rw [exec_callRequest, messageFrom_inactive hs (linkActive_closed (by simp [hv]))] at e
    exact same (s.bump .stale) rfl rfl e
  | serving | draining =>
    have hc : s.carries b := ⟨hs, by simp [hv]⟩
    obtain ⟨r, hr⟩ := Option.ne_none_iff_exists'.mp hn
    rw [← restartSilence_callRefusal hc] at hr
    rw [exec_callRequest_inService hc] at e
    exact same _ (by simp) ((takeCallRequest_roster_of_refused paged hr).trans (restartSilence_roster s b)) e

/-- All that an admission leaves alone (R62 step 4). -/
theorem admitCall_frame (paged : Bool) (hr : s.roster[h].registered = true) (hn : s.roster[h].call = none) :
    { s.admitCall b h k c paged with
      chans := s.chans, calls := s.calls, roster := s.roster, acu := s.acu, counters := s.counters } = s := by
  have hf : ∀ (v : State) (f : RosterEntry → RosterEntry) (w : Byte),
      { ((v.changeEntry h f w).markCall c attnState).bumpBase b .admitted with
        roster := v.roster, acu := v.acu, counters := v.counters } = v := fun _ _ _ => rfl
  rw [admitCall_eq paged hr hn]
  exact (congrArg (fun v : State => { v with chans := s.chans, calls := s.calls })
    (hf (s.callEntered b h k c paged) (s.boundEntry b c) (attnCall ||| s.locationBits h b)) :).trans
      (callEntered_frame s b h k c paged)

theorem admitCall_pages (paged : Bool) (hr : s.roster[h].registered = true) (hn : s.roster[h].call = none) :
    (s.admitCall b h k c paged).pages = s.pages :=
  (congrArg State.pages (admitCall_frame (b := b) (k := k) (c := c) paged hr hn) :)

theorem admitCall_oru (paged : Bool) (hr : s.roster[h].registered = true) (hn : s.roster[h].call = none) :
    (s.admitCall b h k c paged).oru = s.oru :=
  (congrArg State.oru (admitCall_frame (b := b) (k := k) (c := c) paged hr hn) :)

/-- The tables that an admission changes, but the marks (R62 step 4). -/
theorem admitCall_tables (paged : Bool) (hr : s.roster[h].registered = true) (hn : s.roster[h].call = none) :
    (s.admitCall b h k c paged).chans = (s.setChan b k (.held c)).chans ∧
      (s.admitCall b h k c paged).calls = (s.callEntered b h k c paged).calls ∧
      (s.admitCall b h k c paged).roster[h] = s.boundEntry b c s.roster[h] ∧
      (∀ x : HandsetNo, x ≠ h → (s.admitCall b h k c paged).roster[x] = s.roster[x]) ∧
      (s.admitCall b h k c paged).counters = (s.bumpBase b .admitted).counters := by
  rw [admitCall_eq paged hr hn]
  exact ⟨rfl, rfl, changeEntry_self _ h _ (attnCall ||| s.locationBits h b),
    fun x hx => changeEntry_other hx _ _ (attnCall ||| s.locationBits h b), rfl⟩

/-- An admission marks the handset CALL and the call STATE (R36, R62). -/
theorem admitCall_marks (paged : Bool) (hr : s.roster[h].registered = true) (hn : s.roster[h].call = none) :
    (∃ v, (s.admitCall b h k c paged).acu.handsetMarks[h] = some v ∧ v &&& attnCall = attnCall) ∧
      ∃ v, (s.admitCall b h k c paged).acu.callMarks[c] = some v ∧ v &&& attnState = attnState := by
  rw [admitCall_eq paged hr hn]
  refine ⟨⟨_, changeEntry_mark _ h _ _, ?_⟩, markCall_holds _ c attnState⟩
  rw [← BitVec.or_assoc]
  exact and_or_of_and (or_and_added _ attnCall)

/-- The state with the grant sent, in which a call is admitted: any page of the handset has ended (R50, R62). -/
def State.granted (s : State) (b : BaseNo) (h : HandsetNo) (k : ChanNo) (c : CallNo) : State :=
  ((s.restartSilence b).pageCallNotice h b).send b (.channelGrant h k c)

/-- What the grant leaves as it was of the tables that an admission changes. -/
theorem granted_tables (s : State) (b : BaseNo) (h : HandsetNo) (k : ChanNo) (c : CallNo) :
    (s.granted b h k c).chans = s.chans ∧ (s.granted b h k c).calls = s.calls ∧
      (s.granted b h k c).roster = s.roster ∧ (s.granted b h k c).acu = s.acu ∧ (s.granted b h k c).now = s.now := by
  have hs := send_frame ((s.restartSilence b).pageCallNotice h b) b (.channelGrant h k c)
  have hp := pageCallNotice_frame (s.restartSilence b) h b
  have hr := restartSilence_frame s b
  exact ⟨((congrArg State.chans hs :).trans (congrArg State.chans hp :)).trans (congrArg State.chans hr :),
    ((congrArg State.calls hs :).trans (congrArg State.calls hp :)).trans (congrArg State.calls hr :),
    ((congrArg State.roster hs :).trans (congrArg State.roster hp :)).trans (congrArg State.roster hr :),
    ((congrArg State.acu hs :).trans (congrArg State.acu hp :)).trans (congrArg State.acu hr :),
    ((congrArg State.now hs :).trans (congrArg State.now hp :)).trans (congrArg State.now hr :)⟩

theorem granted_zone (hc : s.carries b) : (s.granted b h k c).links[b].zone = s.links[b].zone := by
  rw [State.granted, send_zone, pageCallNotice_links, restartSilence_zone hc]

theorem granted_pages (s : State) (b : BaseNo) (h : HandsetNo) (k : ChanNo) (c : CallNo) :
    (s.granted b h k c).pages = s.pages.filter fun p => p.handset != h := by
  rw [State.granted, send_pages, pageCallNotice_pages, restartSilence_pages]

/-- What the grant leaves of the Order Unit and the counters is the end of the page, if any (R50). -/
theorem granted_notice (hc : s.carries b) (ha : s.appendTaken b = true) :
    (s.granted b h k c).oru = ((s.restartSilence b).pageCallNotice h b).oru ∧
      (s.granted b h k c).counters = ((s.restartSilence b).pageCallNotice h b).counters :=
  ⟨(congrArg State.oru (send_frame ((s.restartSilence b).pageCallNotice h b) b (.channelGrant h k c)) :),
    send_counters_of_taken ((appendTaken_congr (by rw [pageCallNotice_links])).trans
      ((restartSilence_appendTaken hc).trans ha))⟩

theorem granted_of_none (hc : s.carries b) (ha : s.appendTaken b = true) (e : s.pageOf h = none) :
    (s.granted b h k c).oru = s.oru ∧ (s.granted b h k c).counters = s.counters := by
  obtain ⟨ho, hk⟩ := granted_notice (h := h) (k := k) (c := c) hc ha
  rw [ho, hk, pageCallNotice_of_none (by rwa [restartSilence_pageOf])]
  exact ⟨restartSilence_oru s b, restartSilence_counters s b⟩

theorem granted_of_page {p : PageRecord} (hc : s.carries b) (ha : s.appendTaken b = true) (e : s.pageOf h = some p) :
    (s.granted b h k c).oru = (s.handBack p.slot ⟨.done .found, b.val, pageData p s.links[b].zone.val⟩).oru ∧
      (s.granted b h k c).counters = (s.bump .pagesFound).counters := by
  obtain ⟨ho, hk⟩ := granted_notice (h := h) (k := k) (c := c) hc ha
  rw [ho, hk, pageCallNotice_of_page (by rwa [restartSilence_pageOf])]
  exact ⟨pageFound_oru (restartSilence_oru s b) (restartSilence_zone hc) p .found,
    pageFound_counters (restartSilence_counters s b) p .found b⟩

/-- All that the grant does beside the page's end (R13, R62). -/
theorem granted_frame (hc : s.carries b) (ha : s.appendTaken b = true) :
    { s.granted b h k c with pages := s.pages, oru := s.oru, counters := s.counters } =
      (s.restartSilence b).send b (.channelGrant h k c) := by
  rw [← restartSilence_pages s b, ← restartSilence_oru s b, ← restartSilence_counters s b]
  exact send_pageCallNotice ((restartSilence_appendTaken hc).trans ha)

/-- All that an admission and its grant do beside the tables that they change (R62). -/
theorem admission_frame (paged : Bool) (hc : s.carries b) (hr : s.roster[h].registered = true)
    (hn : s.roster[h].call = none) (ha : s.appendTaken b = true) :
    { (s.granted b h k c).admitCall b h k c paged with
      chans := s.chans, calls := s.calls, roster := s.roster, pages := s.pages, oru := s.oru, acu := s.acu
      counters := s.counters } = (s.restartSilence b).send b (.channelGrant h k c) := by
  have hframe : ∀ u t : State, { u with
        chans := s.chans, calls := s.calls, roster := s.roster, acu := s.acu, counters := t.counters } = t →
      { u with
        chans := s.chans, calls := s.calls, roster := s.roster, pages := s.pages, oru := s.oru, acu := s.acu
        counters := s.counters } = { t with pages := s.pages, oru := s.oru, counters := s.counters } := by
    intro u t e
    exact (congrArg (fun v : State => { v with pages := s.pages, oru := s.oru, counters := s.counters }) e :)
  obtain ⟨hchans, hcalls, hroster, hacu, -⟩ := granted_tables s b h k c
  have hf := admitCall_frame (s := s.granted b h k c) (b := b) (h := h) (k := k) (c := c) paged
    (by rwa [hroster]) (by rwa [hroster])
  rw [hchans, hcalls, hroster, hacu] at hf
  exact (hframe _ _ hf).trans (granted_frame hc ha)

/-- A CALL REQUEST from a SERVING base that passes every check and whose grant is taken (R60, R62). -/
theorem exec_callRequest_of_admitted (paged : Bool) (hc : s.carries b) (hn : s.callRefusal b h = none)
    (hk : (s.freeChannels b).head? = some k) (hf : s.freeCall = some c) (ha : s.appendTaken b = true) :
    exec (.callRequest b h paged) s = .next ((s.granted b h k c).admitCall b h k c paged).settle := by
  have hf' : (s.restartSilence b).freeCall = some c := (freeCall_congr (restartSilence_calls s b)).trans hf
  rw [exec_callRequest_inService hc, takeCallRequest_of_admitted paged ((restartSilence_callRefusal hc h).trans hn)
    ((congrArg _ (restartSilence_freeChannels hc)).trans hk) hf' ((restartSilence_appendTaken hc).trans ha)]
  rfl

/-- Settles O22: the lowest FREE channel and call number, the admission, and the guard rule. -/
theorem callRequestAdmitsACall : Obligations.CallRequestAdmitsACall := by
  refine ⟨fun s => ⟨fun b => ⟨fun k => mem_freeChannels, freeChannels_ascending s b⟩, fun c => freeCall_some,
    freeCall_eq_none⟩, fun b h paged k c s hs hv hr hn hk hf hg ha => ?_, fun b h paged c s t hs hstd hn e hc => ?_⟩
  · have hc : s.carries b := ⟨hs, .inl hv⟩
    have hne : s.freeChannels b ≠ [] := by
      rintro e
      rw [e] at hk
      cases hk
    have hnone : s.callRefusal b h = none :=
      callRefusal_eq_none.mpr ⟨hv, hr, hn, by rw [hf]; nofun, hasRoom_iff.mpr ⟨hne, hg⟩⟩
    obtain ⟨hfree, hlt⟩ := mem_freeChannels.mp (List.mem_of_mem_head? hk)
    obtain ⟨hcall, -⟩ := freeCall_some hf
    obtain ⟨gchans, gcalls, groster, gacu, gnow⟩ := granted_tables s b h k c
    have hr' : (s.granted b h k c).roster[h].registered = true := by rwa [groster]
    have hn' : (s.granted b h k c).roster[h].call = none := by rwa [groster]
    obtain ⟨uchans, ucalls, uself, uother, ucounters⟩ := admitCall_tables (b := b) (k := k) (c := c) paged hr' hn'
    obtain ⟨umark, ucall⟩ := admitCall_marks (b := b) (k := k) (c := c) paged hr' hn'
    refine ⟨_, exec_callRequest_of_admitted paged hc hnone hk hf ha, hfree, hlt, hcall, ?_, ?_, fun d hd => ?_, ?_,
      fun x hx => ?_, ?_, ?_, ?_, umark, ucall, ?_⟩
    · rw [uchans, State.setChan_chans, State.setChan_chans, gchans]
    · rw [ucalls, callEntered_self, gcalls, gnow]
      rfl
    · rw [ucalls, callEntered_other hd, gcalls]
    · rw [uself, groster, State.boundEntry, granted_zone hc]
    · rw [uother x hx, groster]
    · rw [admitCall_pages paged hr' hn', granted_pages]
    · rw [admitCall_oru paged hr' hn']
      cases e : s.pageOf h with
      | none => exact (granted_of_none hc ha e).1
      | some p => exact (granted_of_page hc ha e).1
    · rw [ucounters]
      refine bumpBase_counters_congr ?_ b .admitted
      cases e : s.pageOf h with
      | none => exact (granted_of_none hc ha e).2
      | some p => exact (granted_of_page hc ha e).2
    · exact admission_frame paged hc hr hn ha
  · by_cases hq : s.callRefusal b h = none
    · obtain ⟨hv, -, -, -, hroom⟩ := callRefusal_eq_none.mp hq
      exact ⟨hv, (hasRoom_iff.mp hroom).2 hstd⟩
    · rw [exec_callRequest_roster hs hq e, hn] at hc
      cases hc

end Sys2Proof.Machine
end

section
/-! SUPPORT. What the end of a call leaves in every table: its entry, the channel map, the switch batch, the messages
offered and the counters (R66, R67, R125; O25). -/

namespace Sys2Proof.Machine

open Sys2Proof

variable {s t : State} {b : BaseNo} {c : CallNo}

/-! ### The links and what has been transmitted -/

/-- What a message offered to a base reads and changes, but the counters: the links, the transmissions and, for its
stamp, the registers (R13, R14). -/
def State.downlinks (s : State) : Vector Link 48 × List Transmission × Regs := (s.links, s.wire, s.regs)

theorem downlinks_fields (h : t.downlinks = s.downlinks) :
    t.links = s.links ∧ t.wire = s.wire ∧ t.regs = s.regs := by
  simpa [State.downlinks] using h

/-- A message is offered in the same way whatever the other tables hold. -/
theorem send_downlinks (h : t.downlinks = s.downlinks) (b : BaseNo) (m : Downlink) :
    (t.send b m).downlinks = (s.send b m).downlinks := by
  obtain ⟨hl, hw, hr⟩ := downlinks_fields h
  have ht : t.appendTaken b = s.appendTaken b := appendTaken_congr (by rw [hl])
  have hn : t.now = s.now := by rw [State.now, hr]; rfl
  cases ha : s.appendTaken b with
  | false =>
    rw [send_of_refused ha, send_of_refused (ht.trans ha)]
    exact h
  | true =>
    rw [send_of_taken ha, send_of_taken (ht.trans ha)]
    by_cases hq : s.links[b].queue = []
    · rw [enqueue_of_nil hq, enqueue_of_nil (by rwa [hl])]
      simp [State.downlinks, State.freshHead, hl, hw, hr, hn]
    · rw [enqueue_of_ne_nil hq, enqueue_of_ne_nil (by rwa [hl])]
      simp [State.downlinks, hl, hw, hr]

theorem handBack_downlinks (s : State) (i : SlotNo) (r : OrderResult) : (s.handBack i r).downlinks = s.downlinks :=
  (congrArg State.downlinks (handBack_frame s i r) :)

theorem answerMove_downlinks (s : State) (i : Option SlotNo) (r : OrderResult) :
    (s.answerMove i r).downlinks = s.downlinks := by
  unfold State.answerMove
  split
  · exact handBack_downlinks s _ r
  · rfl

theorem unbindCall_downlinks (s : State) (h : HandsetNo) : (s.unbindCall h).downlinks = s.downlinks :=
  (congrArg State.downlinks (unbindCall_frame s h) :)

theorem countLost_downlinks (s : State) (r : EndReason) : (s.countLost r).downlinks = s.downlinks := by
  unfold State.countLost
  split <;> rfl

/-! ### The tables that an answer and a message leave alone -/

section
variable (s : State)

theorem answerMove_frame (i : Option SlotNo) (r : OrderResult) :
    { s.answerMove i r with oru := s.oru, counters := s.counters } = s := by
  unfold State.answerMove
  split
  · exact handBack_frame s _ r
  · rfl

theorem answerMove_chans (i : Option SlotNo) (r : OrderResult) : (s.answerMove i r).chans = s.chans :=
  (congrArg State.chans (answerMove_frame s i r) :)
theorem answerMove_batch (i : Option SlotNo) (r : OrderResult) : (s.answerMove i r).batch = s.batch :=
  (congrArg State.batch (answerMove_frame s i r) :)
theorem send_chans (b : BaseNo) (m : Downlink) : (s.send b m).chans = s.chans :=
  (congrArg State.chans (send_frame s b m) :)
theorem send_batch (b : BaseNo) (m : Downlink) : (s.send b m).batch = s.batch :=
  (congrArg State.batch (send_frame s b m) :)
theorem send_oru (b : BaseNo) (m : Downlink) : (s.send b m).oru = s.oru :=
  (congrArg State.oru (send_frame s b m) :)

/-- A message offered counts a discard of its base at most (R13). -/
theorem send_counters (b : BaseNo) (m : Downlink) :
    (s.send b m).counters = s.counters ∨ (s.send b m).counters = (s.bumpBase b .discards).counters := by
  cases ha : s.appendTaken b with
  | true => exact .inl (send_counters_of_taken ha)
  | false => exact .inr (by rw [send_of_refused ha])

theorem send_globalCount (b : BaseNo) (m : Downlink) (k : GlobalCounter) :
    (s.send b m).globalCount k = s.globalCount k := by
  unfold State.globalCount
  rcases send_counters s b m with e | e <;> rw [e]
  rfl

theorem send_baseCount {k : BaseCounter} (hk : k ≠ .discards) (b x : BaseNo) (m : Downlink) :
    (s.send b m).baseCount x k = s.baseCount x k := by
  unfold State.baseCount
  rcases send_counters s b m with e | e <;> rw [e]
  exact (baseCount_bumpBase s b x .discards k).trans (if_neg fun h => hk h.2.symm)

/-- The answer to a FORCE MOVE that did not complete is no refusal, and counts nothing (R128, R153). -/
theorem answerMove_abort_counters (i : Option SlotNo) (r : Handover) (a : AbortReason) :
    (s.answerMove i (abortResult r a)).counters = s.counters := by
  unfold State.answerMove
  cases i with
  | none => rfl
  | some j => cases a <;> rfl

end

/-! ### The record of an ending call (R125) -/

/-- The RELEASE that the end of a call offers the target of its handover record (R125). -/
def State.recordReleased (s : State) (c : CallNo) : State :=
  match s.calls[c].handover with
  | some r => (match r.channel with
    | some j => s.send r.target (.release j r.tag)
    | none => s)
  | none => s

/-- The target of record `r` is offered its RELEASE, and its abort is counted (R125). -/
def State.releaseTarget (s : State) (r : Handover) : State :=
  match r.channel with
  | some j => (s.send r.target (.release j r.tag)).bumpBase r.target .aborts
  | none => s

theorem releaseTarget_frame (s : State) (r : Handover) :
    { s.releaseTarget r with links := s.links, wire := s.wire, counters := s.counters } = s := by
  unfold State.releaseTarget
  split
  · exact send_frame s _ _
  · rfl

theorem endRecord_of_none (h : s.calls[c].handover = none) : s.endRecord c = s := by
  rw [State.endRecord, h]

theorem endRecord_of_record {r : Handover} (h : s.calls[c].handover = some r) :
    s.endRecord c =
      ((((s.dropBatch c).releaseTarget r).updCall c fun e => { e with
        handover := none, lastAbort := some .callEnded }).markCall c attnAbort).answerMove r.slot
          (abortResult r .callEnded) := by
  rw [State.endRecord, h]
  dsimp only
  rw [State.noteAbort, updCall_updCall]
  rfl

/-- The entry of an ending call once its record has ended: no record, and CALL_ENDED where there was one (R125). -/
def Call.withoutRecord (e : Call) : Call :=
  { e with handover := none, lastAbort := if e.handover = none then e.lastAbort else some .callEnded }

/-- The end of a record changes the call table in the entry of its call alone. -/
theorem endRecord_calls (s : State) (c : CallNo) : (s.endRecord c).calls = (s.updCall c Call.withoutRecord).calls := by
  cases h : s.calls[c].handover with
  | none =>
    have he : s.calls[c].withoutRecord = s.calls[c] := by
      rw [Call.withoutRecord, if_pos h, ← h]
    rw [endRecord_of_none h, State.updCall_calls, he]
    exact (Vector.set_getElem_self _).symm
  | some r =>
    rw [endRecord_of_record h, answerMove_calls, State.markCall_calls, State.updCall_calls, State.updCall_calls]
    have hc : ((s.dropBatch c).releaseTarget r).calls = s.calls :=
      (congrArg State.calls (releaseTarget_frame (s.dropBatch c) r) :)
    rw [hc, Call.withoutRecord, if_neg (by rw [h]; nofun)]

theorem endRecord_chans (s : State) (c : CallNo) : (s.endRecord c).chans = s.chans := by
  cases h : s.calls[c].handover with
  | none => rw [endRecord_of_none h]
  | some r =>
    rw [endRecord_of_record h, answerMove_chans]
    exact (congrArg State.chans (releaseTarget_frame (s.dropBatch c) r) :)

/-- A call with a record leaves the switch batch as the record ends (R119). -/
theorem endRecord_batch (s : State) (c : CallNo) :
    (s.endRecord c).batch =
      if s.calls[c].handover = none then s.batch else s.batch.filter fun e => e.call != c := by
  cases h : s.calls[c].handover with
  | none => rw [endRecord_of_none h, if_pos rfl]
  | some r =>
    rw [endRecord_of_record h, answerMove_batch, if_neg nofun]
    exact (congrArg State.batch (releaseTarget_frame (s.dropBatch c) r) :)

/-- The one message that the end of a record offers (R125). -/
theorem endRecord_downlinks (s : State) (c : CallNo) : (s.endRecord c).downlinks = (s.recordReleased c).downlinks := by
  cases h : s.calls[c].handover with
  | none => rw [endRecord_of_none h, State.recordReleased, h]
  | some r =>
    rw [endRecord_of_record h, answerMove_downlinks, State.recordReleased, h]
    change ((s.dropBatch c).releaseTarget r).downlinks = _
    dsimp only
    cases hj : r.channel with
    | none => rw [State.releaseTarget, hj]; rfl
    | some j => rw [State.releaseTarget, hj]; exact send_downlinks (s := s) (t := s.dropBatch c) rfl _ _

theorem endRecord_oru {r : Handover} (h : s.calls[c].handover = some r) :
    (s.endRecord c).oru = (s.answerMove r.slot (abortResult r .callEnded)).oru := by
  have ho : ((s.dropBatch c).releaseTarget r).oru = s.oru :=
    (congrArg State.oru (releaseTarget_frame (s.dropBatch c) r) :)
  rw [endRecord_of_record h]
  generalize abortResult r .callEnded = x
  cases r.slot with
  | none => exact ho
  | some i =>
    exact handBack_oru_congr (t := (((s.dropBatch c).releaseTarget r).updCall c _).markCall c attnAbort) ho i x

theorem endRecord_counters {r : Handover} (h : s.calls[c].handover = some r) :
    (s.endRecord c).counters = ((s.dropBatch c).releaseTarget r).counters := by
  rw [endRecord_of_record h, answerMove_abort_counters]
  rfl

theorem endRecord_globalCount (s : State) (c : CallNo) (k : GlobalCounter) :
    (s.endRecord c).globalCount k = s.globalCount k := by
  cases h : s.calls[c].handover with
  | none => rw [endRecord_of_none h]
  | some r =>
    rw [State.globalCount, endRecord_counters h, State.releaseTarget]
    cases r.channel with
    | none => rfl
    | some j => exact send_globalCount (s.dropBatch c) _ _ k

/-- The release of a reservation counts one abort of its target (R125). -/
theorem endRecord_aborts {r : Handover} {j : ChanNo} (h : s.calls[c].handover = some r) (hj : r.channel = some j) :
    (s.endRecord c).baseCount r.target .aborts = satSucc (s.baseCount r.target .aborts) := by
  rw [State.baseCount, endRecord_counters h, State.releaseTarget, hj]
  refine (baseCount_bumpBase _ r.target r.target .aborts .aborts).trans ((if_pos ⟨rfl, rfl⟩).trans ?_)
  rw [send_baseCount _ (by decide)]
  rfl

/-! ### The end of a call (R66) -/

/-- The entry of a call that has ended (R66). -/
def Call.endedWith (r : EndReason) (e : Call) : Call :=
  { e.withoutRecord with
    state := .ended, endReason := some r, filter := none, neighbours := [], watch := .normal, watchCount := 0
    settle := none, hold := none }

/-- The end of a call after its record has ended: the RELEASE to the serving base and the other changes (R66). -/
theorem callEndActions_eq (s : State) (c : CallNo) (r : EndReason) :
    s.callEndActions c r =
      (((((((s.endRecord c).releaseServing c r).freeChannelsOf c).dropFilters c).restDecision c).unbindCall
        s.calls[c].handset).markEnded c r).countLost r := rfl

section
variable (s : State) (c : CallNo) (r : EndReason)

theorem releaseServing_frame :
    { s.releaseServing c r with links := s.links, wire := s.wire, counters := s.counters } = s := by
  unfold State.releaseServing
  split
  · exact send_frame s _ _
  · rfl

theorem callEndActions_calls : (s.callEndActions c r).calls = (s.updCall c (Call.endedWith r)).calls := by
  have hc : (((s.endRecord c).releaseServing c r).freeChannelsOf c).calls = (s.updCall c Call.withoutRecord).calls :=
    (releaseServing_calls _ c r).trans (endRecord_calls s c)
  rw [callEndActions_eq, countLost_calls, State.markEnded, State.markCall_calls, State.updCall_calls, unbindCall_calls,
    State.restDecision, State.dropFilters, updCall_updCall, State.updCall_calls]
  simp [hc, Call.endedWith]

theorem callEndActions_self : (s.callEndActions c r).calls[c] = s.calls[c].endedWith r := by
  rw [callEndActions_calls, updCall_get, if_pos rfl]

theorem callEndActions_other {d : CallNo} (hd : d ≠ c) : (s.callEndActions c r).calls[d] = s.calls[d] := by
  rw [callEndActions_calls, updCall_other hd.symm]

theorem callEndActions_roster : (s.callEndActions c r).roster = (s.unbindCall s.calls[c].handset).roster :=
  (callEndActions_offRoster s c r).roster

/-- What the steps after the RELEASEs leave alone (R66 steps 3 to 7). -/
theorem callEndActions_frame :
    { s.callEndActions c r with
      chans := s.chans, calls := s.calls, roster := s.roster, acu := s.acu, counters := s.counters } =
      { (s.endRecord c).releaseServing c r with
        chans := s.chans, calls := s.calls, roster := s.roster, acu := s.acu, counters := s.counters } := by
  have hu := fun v : State => congrArg (fun u : State => { u with
    chans := s.chans, calls := s.calls, roster := s.roster, acu := s.acu, counters := s.counters })
      (unbindCall_frame v s.calls[c].handset)
  have hl : ∀ v : State, { v.countLost r with
      chans := s.chans, calls := s.calls, roster := s.roster, acu := s.acu, counters := s.counters } = { v with
      chans := s.chans, calls := s.calls, roster := s.roster, acu := s.acu, counters := s.counters } := fun v => by
    unfold State.countLost
    split <;> rfl
  exact (hl _).trans (hu _)

theorem callEndActions_oru : (s.callEndActions c r).oru = (s.endRecord c).oru :=
  (congrArg State.oru (callEndActions_frame s c r) :).trans
    (congrArg State.oru (releaseServing_frame (s.endRecord c) c r) :)

theorem callEndActions_batch : (s.callEndActions c r).batch = (s.endRecord c).batch :=
  (congrArg State.batch (callEndActions_frame s c r) :).trans
    (congrArg State.batch (releaseServing_frame (s.endRecord c) c r) :)

/-- Every channel that names the call is FREE, and no other changes (R66 step 3). -/
theorem callEndActions_chan (b : BaseNo) (k : ChanNo) :
    (s.callEndActions c r).chan b k = if chanNames c (s.chan b k) then .free else s.chan b k := by
  have hf : ∀ v : State, (v.countLost r).chans = v.chans := fun v => by
    unfold State.countLost
    split <;> rfl
  have hc : (s.callEndActions c r).chans = (((s.endRecord c).releaseServing c r).freeChannelsOf c).chans :=
    (hf _).trans (congrArg State.chans (unbindCall_frame _ s.calls[c].handset) :)
  have hr : ((s.endRecord c).releaseServing c r).chans = s.chans :=
    (congrArg State.chans (releaseServing_frame (s.endRecord c) c r) :).trans (endRecord_chans s c)
  rw [State.chan, hc, State.freeChannelsOf, getElem_mapTable, getElem_mapTable, hr]
  rfl

/-- The messages of a call's end: the RELEASE of its record's target, then that of the serving base (R66, R125). -/
theorem callEndActions_downlinks :
    (s.callEndActions c r).downlinks =
      (if releasesServing r then (s.recordReleased c).send s.calls[c].base (.release s.calls[c].channel 0)
        else s.recordReleased c).downlinks := by
  have hb : (s.endRecord c).calls[c] = s.calls[c].withoutRecord := by
    rw [endRecord_calls, updCall_get, if_pos rfl]
  refine (congrArg State.downlinks (callEndActions_frame s c r) :).trans ?_
  change ((s.endRecord c).releaseServing c r).downlinks = _
  unfold State.releaseServing
  split
  · rw [hb]
    exact send_downlinks (endRecord_downlinks s c) _ _
  · exact endRecord_downlinks s c

/-- A call's end counts a call lost where it was lost, and else only what its record and its RELEASEs count (R66). -/
theorem callEndActions_counters :
    (s.callEndActions c r).counters = (((s.endRecord c).releaseServing c r).countLost r).counters := by
  have hl : ∀ u v : State, u.counters = v.counters → (u.countLost r).counters = (v.countLost r).counters :=
    fun u v e => by
      unfold State.countLost
      split
      · exact bump_counters_congr e _
      · exact e
  exact hl _ _ (congrArg State.counters (unbindCall_frame _ s.calls[c].handset) :)

theorem releaseServing_globalCount (k : GlobalCounter) : (s.releaseServing c r).globalCount k = s.globalCount k := by
  unfold State.releaseServing
  split
  · exact send_globalCount s _ _ k
  · rfl

theorem callEndActions_callsLost :
    (s.callEndActions c r).globalCount .callsLost =
      if countsLost r then satSucc (s.globalCount .callsLost) else s.globalCount .callsLost := by
  have hg := (releaseServing_globalCount (s.endRecord c) c r .callsLost).trans (endRecord_globalCount s c .callsLost)
  rw [State.globalCount, callEndActions_counters, State.countLost]
  split
  · exact (globalCount_bump _ _ _).trans ((if_pos rfl).trans (congrArg satSucc hg))
  · exact hg

theorem callEndActions_aborts {v : Handover} {j : ChanNo} (h : s.calls[c].handover = some v)
    (hj : v.channel = some j) :
    (s.callEndActions c r).baseCount v.target .aborts = satSucc (s.baseCount v.target .aborts) := by
  have hr : ((s.endRecord c).releaseServing c r).baseCount v.target .aborts =
      satSucc (s.baseCount v.target .aborts) := by
    rw [← endRecord_aborts h hj, State.releaseServing]
    split
    · exact send_baseCount _ (by decide) _ _ _
    · rfl
  rw [State.baseCount, callEndActions_counters, State.countLost]
  split <;> exact hr

/-- A handset with a call is unbound from it, with its lifetime armed afresh (R36, R66 step 5). -/
theorem callEndActions_handset (hr : s.roster[s.calls[c].handset].registered = true)
    (hc : s.roster[s.calls[c].handset].call.isSome = true) :
    (s.callEndActions c r).roster[s.calls[c].handset] = { s.roster[s.calls[c].handset] with
      call := none, expiry := some (s.after (s.lifetime s.roster[s.calls[c].handset].cls)) } := by
  obtain ⟨d, hd⟩ := Option.isSome_iff_exists.mp hc
  rw [callEndActions_roster, unbindCall_of_call hr hd, changeEntry_self]

end

/-- Settles O25: the end of a call, table by table. -/
theorem callEndActionsClearTheCall : Obligations.CallEndActionsClearTheCall := by
  refine ⟨rfl, fun c d g => ⟨beq_iff_eq, beq_iff_eq, beq_iff_eq, rfl, rfl⟩, fun c reason s => ⟨fun h =>
    endCall_of_not_live h reason, fun h => if_pos h, ⟨?_, fun d hd => callEndActions_other s c reason hd,
      callEndActions_chan s c reason, fun e he hne => ?_, callEndActions_handset s c reason, fun x hx => ?_, ?_⟩,
    fun t ht => ⟨fun hr => ?_, fun hr => ?_⟩, fun hn => ?_,
    fun r h => ⟨fun j hj => callEndActions_aborts s c reason h hj, fun hi => ?_, fun i hi => ?_⟩⟩⟩
  · exact callEndActions_self s c reason
  · rw [callEndActions_batch, endRecord_batch, if_neg hne] at he
    simpa using (List.mem_filter.mp he).2
  · rw [callEndActions_roster, unbindCall_other hx]
  · rw [callEndActions_callsLost]
    cases reason <;> rfl
  · have ht' : t = s.recordReleased c := ht
    have hd := callEndActions_downlinks s c reason
    rw [if_pos (by rcases hr with rfl | rfl | rfl | rfl <;> rfl), ← ht'] at hd
    obtain ⟨hl, hw, -⟩ := downlinks_fields hd
    exact ⟨hl, hw⟩
  · have ht' : t = s.recordReleased c := ht
    have hd := callEndActions_downlinks s c reason
    rw [if_neg (by rcases hr with rfl | rfl | rfl | rfl <;> decide), ← ht'] at hd
    obtain ⟨hl, hw, -⟩ := downlinks_fields hd
    exact ⟨hl, hw⟩
  · rw [callEndActions_oru, endRecord_of_none hn]
  · rw [callEndActions_oru, endRecord_oru h, hi]
    rfl
  · rw [callEndActions_oru, endRecord_oru h, hi]
    rfl

end Sys2Proof.Machine
end

section
/-! SUPPORT. A refused CALL REQUEST, CALL END, CHANNEL DROPPED, and the orders CLEAR CALL, BLOCK CHANNEL and UNBLOCK
CHANNEL (R60, R61, R64, R65, R68, R73, R74; O23, O24, O26). -/

namespace Sys2Proof.Machine

open Sys2Proof

variable {s t : State} {b : BaseNo} {h : HandsetNo} {c : CallNo} {k : ChanNo}

/-! ### A refused CALL REQUEST (R60, R61) -/

/-- The state in which a CALL REQUEST is checked: any page of a REGISTERED handset has ended (R50). -/
def State.requested (s : State) (b : BaseNo) (h : HandsetNo) : State :=
  if s.roster[h].registered then s.pageCallNotice h b else s

theorem requested_of_registered (hr : s.roster[h].registered = true) : s.requested b h = s.pageCallNotice h b :=
  if_pos hr

theorem requested_callRefusal (s : State) (b : BaseNo) (h : HandsetNo) :
    (s.requested b h).callRefusal b h = s.callRefusal b h := by
  unfold State.requested
  split
  · exact pageCallNotice_callRefusal s h b
  · rfl

theorem takeCallRequest_of_refused {r : RefusalReason} (paged : Bool) (hr : s.callRefusal b h = some r) :
    s.takeCallRequest b h paged = ((s.requested b h).send b (.callRefused h r)).bumpBase b .refused := by
  have hq := (requested_callRefusal s b h).trans hr
  rw [State.takeCallRequest, ← State.requested, hq]

/-- A CALL REQUEST that passes every check is refused where its grant is not taken into the queue (R61). -/
theorem takeCallRequest_of_grant_refused (paged : Bool) (hn : s.callRefusal b h = none)
    (ha : s.appendTaken b = false) :
    s.takeCallRequest b h paged = ((s.requested b h).bumpBase b .discards).bumpBase b .refused := by
  obtain ⟨-, hr, -, hcall, hroom⟩ := callRefusal_eq_none.mp hn
  obtain ⟨c, hc⟩ := Option.ne_none_iff_exists'.mp hcall
  obtain ⟨k, l, hk⟩ := List.exists_cons_of_ne_nil (hasRoom_iff.mp hroom).1
  have hl := pageCallNotice_links s h b
  have hk' : (s.requested b h).freeChannels b = k :: l := by
    rw [requested_of_registered hr, freeChannels_congr (by rw [hl]) (pageCallNotice_chans s h b), hk]
  have hc' : (s.requested b h).freeCall = some c := by
    rw [requested_of_registered hr, freeCall_congr (pageCallNotice_calls s h b), hc]
  have ha' : (s.requested b h).appendTaken b = false := by
    rw [requested_of_registered hr]
    exact (appendTaken_congr (by rw [hl])).trans ha
  have hq := (requested_callRefusal s b h).trans hn
  rw [State.takeCallRequest, ← State.requested, hq]
  dsimp only
  rw [State.admission, hk', hc', List.head?_cons]
  dsimp only
  rw [append_of_refused ha']

/-- A CALL REQUEST from a base in service that a check refuses (R60, R61). -/
theorem exec_callRequest_of_refused {r : RefusalReason} (paged : Bool) (hc : s.carries b)
    (hr : s.callRefusal b h = some r) :
    exec (.callRequest b h paged) s =
      .next ((((s.restartSilence b).requested b h).send b (.callRefused h r)).bumpBase b .refused).settle := by
  rw [exec_callRequest_inService hc, takeCallRequest_of_refused paged ((restartSilence_callRefusal hc h).trans hr)]

theorem callRefusal_of_draining (hv : s.service b = .draining) : s.callRefusal b h = some .noService :=
  if_pos (by rw [hv]; decide)

theorem callRefusal_of_unknown (hv : s.service b = .serving) (hr : s.roster[h].registered = false) :
    s.callRefusal b h = some .unknown := by
  rw [State.callRefusal, if_neg (not_not_intro hv), if_pos (by rw [hr]; rfl)]

theorem callRefusal_of_call (hv : s.service b = .serving) (hr : s.roster[h].registered = true)
    (hc : s.roster[h].call.isSome = true) : s.callRefusal b h = some .inCall := by
  rw [State.callRefusal, if_neg (not_not_intro hv), if_neg (by rw [hr]; decide), if_pos hc]

theorem callRefusal_of_congested (hv : s.service b = .serving) (hr : s.roster[h].registered = true)
    (hn : s.roster[h].call = none) (hq : s.freeCall = none ∨ s.hasRoom b s.roster[h].cls = false) :
    s.callRefusal b h = some .congested := by
  rw [State.callRefusal, if_neg (not_not_intro hv), if_neg (by rw [hr]; decide), if_neg (by rw [hn]; decide)]
  rcases hq with e | e
  · rw [if_pos (by rw [e]; rfl)]
  · rw [e]
    simp

/-- Settles O23: the first check that applies refuses, the grant that is not taken, and the page's end. -/
theorem callRequestRefused : Obligations.CallRequestRefused := by
  refine ⟨fun s h b => ⟨pageCallNotice_of_none, fun p hp => ?_⟩,
    fun b h paged s t hs => ⟨messageFrom_joining hs, fun ht => ?_⟩⟩
  · rw [pageCallNotice_of_page hp, ← pageOf_handset hp]
    rfl
  rw [show t = (s.restartSilence b).requested b h by rw [ht, State.requested, restartSilence_roster]]
  refine ⟨fun hv => exec_callRequest_of_refused paged ⟨hs, .inr hv⟩ (callRefusal_of_draining hv), fun hv => ?_⟩
  have hc : s.carries b := ⟨hs, .inl hv⟩
  refine ⟨fun hr => exec_callRequest_of_refused paged hc (callRefusal_of_unknown hv hr), fun hr =>
    ⟨fun hi => exec_callRequest_of_refused paged hc (callRefusal_of_call hv hr hi),
      fun hn => ⟨fun hq => ?_, fun hf he hg ha => ?_⟩⟩⟩
  · refine exec_callRequest_of_refused paged hc (callRefusal_of_congested hv hr hn (hq.imp_right fun h' => ?_))
    rw [Bool.eq_false_iff, ne_eq, hasRoom_iff]
    rintro ⟨hne, hstd⟩
    rcases h' with e | ⟨hcls, hle⟩
    · exact hne e
    · exact absurd (hstd hcls) (Nat.not_lt.mpr hle)
  · have hq : s.callRefusal b h = none := callRefusal_eq_none.mpr ⟨hv, hr, hn, hf, hasRoom_iff.mpr ⟨he, hg⟩⟩
    rw [exec_callRequest_inService hc, takeCallRequest_of_grant_refused paged
      ((restartSilence_callRefusal hc h).trans hq) ((restartSilence_appendTaken hc).trans ha)]

/-! ### CALL END and CHANNEL DROPPED (R64, R65) -/

theorem restartSilence_hasChannel (ha : linkActive (s.service b) = true) (k : ChanNo) :
    (s.restartSilence b).hasChannel b k = decide (k.val < s.links[b].effCount) := by
  rw [State.hasChannel, restartSilence_get ha]

theorem restartSilence_hasNoChannel (ha : linkActive (s.service b) = true) (hk : s.links[b].effCount ≤ k.val) :
    (s.restartSilence b).hasChannel b k = false := by
  rw [restartSilence_hasChannel ha, decide_eq_false_iff_not]
  omega

theorem restartSilence_chan (s : State) (b x : BaseNo) (k : ChanNo) : (s.restartSilence b).chan x k = s.chan x k := by
  rw [State.chan, restartSilence_chans]
  rfl

/-- A channel that a base's report of an end or a drop may name: a HELD or LEAVING one of its channels (R64). -/
theorem takeCallEnd_of_call (hk : s.hasChannel b k = true) (hc : s.chan b k = .held c ∨ s.chan b k = .leaving c) :
    s.takeCallEnd b k = s.endCall c .hangup := by
  rw [State.takeCallEnd, if_pos hk]
  rcases hc with e | e <;> rw [e]

theorem takeCallEnd_of_stale (h : s.chan b k = .free ∨ (∃ c g, s.chan b k = .reserved c g) ∨
    s.chan b k = .blocked ∨ s.hasChannel b k = false) : s.takeCallEnd b k = s.bump .stale := by
  rw [State.takeCallEnd]
  split
  · next hk =>
    rcases h with e | ⟨d, g, e⟩ | e | e
    · rw [e]
    · rw [e]
    · rw [e]
    · rw [e] at hk
      cases hk
  · rfl

theorem takeChannelDropped_of_stale (h : s.chan b k = .free ∨ s.chan b k = .blocked ∨ s.hasChannel b k = false) :
    s.takeChannelDropped b k = s.bump .stale := by
  rw [State.takeChannelDropped]
  split
  · next hk =>
    rcases h with e | e | e
    · rw [e]
    · rw [e]
    · rw [e] at hk
      cases hk
  · rfl

theorem takeChannelDropped_of_held (hk : s.hasChannel b k = true) (hc : s.chan b k = .held c) :
    s.takeChannelDropped b k = s.endCall c .radioLost := by
  rw [State.takeChannelDropped, if_pos hk, hc]

section
variable {r : Handover}

/-- The first drop of the old side in SWITCHING is noted in the record (R123). -/
theorem takeChannelDropped_of_leaving (hk : s.hasChannel b k = true) (hc : s.chan b k = .leaving c)
    (hr : s.calls[c].handover = some r) (hs : r.state = .switching) (ho : r.oldDropped = false) :
    s.takeChannelDropped b k =
      (s.updCall c fun e => { e with handover := some { r with oldDropped := true } }).markCall c 0 := by
  rw [State.takeChannelDropped, if_pos hk, hc]
  dsimp only
  rw [State.oldSideDropped, hr]
  dsimp only
  rw [if_pos ⟨hs, ho⟩, State.updHandover, updCall_congr (g := fun e => { e with
    handover := some { r with oldDropped := true } }) (by rw [hr]; rfl)]

theorem takeChannelDropped_of_leaving_again (hk : s.hasChannel b k = true) (hc : s.chan b k = .leaving c)
    (hr : s.calls[c].handover = some r) (ho : r.oldDropped = true) : s.takeChannelDropped b k = s.bump .stale := by
  rw [State.takeChannelDropped, if_pos hk, hc]
  dsimp only
  rw [State.oldSideDropped, hr]
  exact if_neg fun h => by rw [ho] at h; exact absurd h.2 (by decide)

/-- A drop on the reserved channel of a record, by the record's state (R123). -/
theorem takeChannelDropped_of_reserved (hk : s.hasChannel b k = true) (hc : s.chan b k = .reserved c r.tag)
    (hr : s.calls[c].handover = some r) (ht : r.target = b) (hj : r.channel = some k) :
    s.takeChannelDropped b k =
      if r.state = .switching then s.targetDropped c r else s.candidateFail c .targetDrop := by
  rw [State.takeChannelDropped, if_pos hk, hc]
  dsimp only
  rw [State.reservedDropped, hr]
  exact if_pos ⟨ht, hj, rfl⟩

end

/-- Settles O24: CALL END and CHANNEL DROPPED by the state of the channel and of the record. -/
theorem callEndAndChannelDropped : Obligations.CallEndAndChannelDropped := by
  refine ⟨fun b k s hs ha => ⟨fun hlt c hc => ?_, fun hc => ?_⟩,
    fun b k s hs ha => ⟨fun hc => ?_, fun hlt c => ?_⟩⟩
  · have hk := (restartSilence_hasChannel ha k).trans (decide_eq_true hlt)
    rw [exec_callEnd, messageFrom_active hs ha, takeCallEnd_of_call hk (by simpa only [restartSilence_chan] using hc)]
  · rw [exec_callEnd, messageFrom_active hs ha, takeCallEnd_of_stale]
    simp only [restartSilence_chan]
    exact hc.imp_right (Or.imp_right (Or.imp_right (restartSilence_hasNoChannel ha)))
  · rw [exec_channelDropped, messageFrom_active hs ha, takeChannelDropped_of_stale]
    simp only [restartSilence_chan]
    exact hc.imp_right (Or.imp_right (restartSilence_hasNoChannel ha))
  have hk := (restartSilence_hasChannel ha k).trans (decide_eq_true hlt)
  have hchan := restartSilence_chan s b b k
  have hex : exec (.channelDropped b k) s = .next ((s.restartSilence b).takeChannelDropped b k).settle := by
    rw [exec_channelDropped, messageFrom_active hs ha]
  refine ⟨fun hc => by rw [hex, takeChannelDropped_of_held hk (hchan.trans hc)], fun r hr => ?_⟩
  have hr' : (s.restartSilence b).calls[c].handover = some r := by rwa [restartSilence_calls]
  refine ⟨fun hc hst => ⟨fun ho => ?_, fun ho => ?_⟩, fun hc ht hj => ?_⟩
  · rw [hex, takeChannelDropped_of_leaving hk (hchan.trans hc) hr' hst ho]
  · rw [hex, takeChannelDropped_of_leaving_again hk (hchan.trans hc) hr' ho]
  · rw [hex, takeChannelDropped_of_reserved hk (hchan.trans hc) hr' ht hj]
    refine ⟨fun hst => ?_, fun hst => ?_⟩
    · rw [if_neg (by rcases hst with e | e <;> rw [e] <;> decide)]
    · rw [if_pos hst, State.targetDropped]
      exact ⟨fun ho => by rw [if_neg (by rw [ho]; decide)], fun ho => by rw [if_pos ho]⟩

/-! ### Orders on a call and on a channel position (R68, R73, R74) -/

theorem callLive_of_rest {v : CallState} (h : v = .free ∨ v = .ended) : callLive v = false := by
  rcases h with rfl | rfl <;> rfl

theorem takeUnblockChannel_of_inUse {i : SlotNo} (h : chanInUse (s.chan b k) = true) :
    s.takeUnblockChannel i b k = s.handBack i (plainResult (.state .inUse) 0) := by
  unfold State.takeUnblockChannel
  cases e : s.chan b k with
  | held d | reserved d g | leaving d => rfl
  | free | blocked =>
    rw [e] at h
    cases h

/-- Settles O26: CLEAR CALL, BLOCK CHANNEL and UNBLOCK CHANNEL by the call's and the position's state. -/
theorem clearBlockAndUnblockOrders : Obligations.ClearBlockAndUnblockOrders := by
  refine ⟨fun d g => ⟨rfl, rfl, rfl, rfl, rfl⟩, fun s b k v c f => ⟨rfl, rfl, rfl⟩,
    fun slot c s ho => ⟨fun hl => ?_, fun hr => ?_⟩,
    fun slot b k s => ⟨fun ho => ⟨fun hf => ?_, fun hf => ?_⟩,
      fun ho => ⟨fun hb => ?_, fun hf => ?_, fun hu => ?_⟩⟩⟩
  · have hl' : callLive s.undispatched.calls[c].state = true := hl
    rw [exec_clearCall, takeOrder_of_offers ho, State.takeClearCall, if_pos hl']
    rfl
  · have hl' : ¬callLive s.undispatched.calls[c].state = true := by
      rw [Bool.not_eq_true]
      exact callLive_of_rest hr
    rw [exec_clearCall, takeOrder_of_offers ho, State.takeClearCall, if_neg hl']
    rfl
  · have hf' : s.undispatched.chan b k = .free := hf
    rw [exec_blockChannel, takeOrder_of_offers ho, State.takeBlockChannel, if_pos hf']
    rfl
  · have hf' : ¬s.undispatched.chan b k = .free := hf
    rw [exec_blockChannel, takeOrder_of_offers ho, State.takeBlockChannel, if_neg hf']
    rfl
  · have hb' : s.undispatched.chan b k = .blocked := hb
    rw [exec_unblockChannel, takeOrder_of_offers ho, State.takeUnblockChannel, hb']
    rfl
  · have hf' : s.undispatched.chan b k = .free := hf
    rw [exec_unblockChannel, takeOrder_of_offers ho, State.takeUnblockChannel, hf']
    rfl
  · have hu' : chanInUse (s.undispatched.chan b k) = true := hu
    rw [exec_unblockChannel, takeOrder_of_offers ho, takeUnblockChannel_of_inUse hu']
    rfl

end Sys2Proof.Machine
end

section
/-! SUPPORT. Filtered levels stay in range, and what each operation on a neighbour set keeps: its size, its levels and
leads, its bases and the order of R87 (R75, R78 to R87, R102). -/

namespace Sys2Proof.Machine

open Sys2Proof

/-! ### Filtered levels (R78, R79) -/

theorem sampleTarget_le (code : LevelCode) (offset : Int) : sampleTarget code offset ≤ Config.filteredMax := by
  have h : correctedCode code offset ≤ 127 := Nat.min_le_right _ _
  change correctedCode code offset * 16 ≤ 2032
  omega

/-- A step toward a target does not pass it upward (R79). -/
theorem filterStep_le {k : Nat} (hk : k ≠ 0) (d : Int) : filterStep k d ≤ max d 0 := by
  have hp : (0 : Int) < 2 ^ (k - 1) := by positivity
  have h2 : (2 : Int) ^ k = 2 * 2 ^ (k - 1) := by
    rw [← pow_succ', Nat.sub_add_cancel (Nat.pos_of_ne_zero hk)]
  have hd : d ≤ max d 0 := le_max_left d 0
  have h0 : 0 ≤ max d 0 := le_max_right d 0
  rw [filterStep, h2, ← Int.lt_add_one_iff, Int.ediv_lt_iff_lt_mul (by linarith)]
  nlinarith

/-- An average lies no higher than the higher of the level and its target. -/
theorem average_le {k f t m : Nat} (hf : f ≤ m) (ht : t ≤ m) : average k f t ≤ m := by
  unfold average
  split
  · exact ht
  · next hk =>
    have hs := filterStep_le hk ((t : Int) - f)
    omega

theorem servingSample_le {k t m : Nat} {f : Option Nat} (hf : ∀ v, f = some v → v ≤ m) (ht : t ≤ m) :
    servingSample k f t ≤ m := by
  cases f with
  | none => exact ht
  | some v => exact average_le (hf v rfl) ht

/-! ### The order of a set (R87) -/

theorem ranksBefore_iff {m n : Neighbour} :
    ranksBefore m n = true ↔ n.level < m.level ∨ (m.level = n.level ∧ m.base < n.base) := by
  simp [ranksBefore]

theorem ranksBefore_trans {a b c : Neighbour} (h : ranksBefore a b = true) (k : ranksBefore b c = true) :
    ranksBefore a c = true := by
  rw [ranksBefore_iff] at h k ⊢
  rcases h with h | ⟨e, h⟩ <;> rcases k with k | ⟨f, k⟩
  · exact .inl (k.trans h)
  · exact .inl (f ▸ h)
  · exact .inl (e ▸ k)
  · exact .inr ⟨e.trans f, h.trans k⟩

/-- Of two entries of different bases one stands before the other. -/
theorem ranksBefore_of_not {m n : Neighbour} (hb : m.base ≠ n.base) (h : ¬ranksBefore m n = true) :
    ranksBefore n m = true := by
  rw [ranksBefore_iff, not_or, not_and, not_lt, not_lt] at h
  obtain ⟨hl, ht⟩ := h
  rw [ranksBefore_iff]
  rcases lt_or_eq_of_le hl with hlt | e
  · exact .inl hlt
  · exact .inr ⟨e.symm, lt_of_le_of_ne (ht e) hb.symm⟩

theorem insertRanked_perm (n : Neighbour) (l : List Neighbour) : (insertRanked n l).Perm (n :: l) := by
  induction l with
  | nil => rfl
  | cons x r ih =>
    unfold insertRanked
    split
    · rfl
    · exact (ih.cons x).trans (.swap n x r)

theorem rankNeighbours_perm (l : List Neighbour) : (rankNeighbours l).Perm l := by
  induction l with
  | nil => rfl
  | cons x r ih => exact (insertRanked_perm x _).trans (ih.cons x)

/-- An entry of a new base put in its place leaves a set in order. -/
theorem insertRanked_pairwise {n : Neighbour} {l : List Neighbour} (hb : ∀ x ∈ l, x.base ≠ n.base)
    (h : l.Pairwise fun x y => ranksBefore x y = true) :
    (insertRanked n l).Pairwise fun x y => ranksBefore x y = true := by
  induction l with
  | nil => exact List.pairwise_singleton _ n
  | cons x r ih =>
    obtain ⟨hx, hr⟩ := List.pairwise_cons.mp h
    unfold insertRanked
    split
    · next hn =>
      refine List.pairwise_cons.mpr ⟨fun y hy => ?_, h⟩
      rcases List.mem_cons.mp hy with rfl | hy
      · exact hn
      · exact ranksBefore_trans hn (hx y hy)
    · next hn =>
      refine List.pairwise_cons.mpr ⟨fun y hy => ?_, ih (fun y hy => hb y (.tail x hy)) hr⟩
      rcases List.mem_cons.mp ((insertRanked_perm n r).mem_iff.mp hy) with rfl | hy
      · exact ranksBefore_of_not (hb x (.head r)).symm hn
      · exact hx y hy

/-- A set of different bases is put in order. -/
theorem rankNeighbours_pairwise {l : List Neighbour} (h : (l.map (·.base)).Nodup) :
    (rankNeighbours l).Pairwise fun x y => ranksBefore x y = true := by
  induction l with
  | nil => exact .nil
  | cons x r ih =>
    obtain ⟨hx, hr⟩ := List.nodup_cons.mp h
    refine insertRanked_pairwise (fun y hy e => hx ?_) (ih hr)
    change x.base ∈ r.map (·.base)
    rw [← e]
    exact List.mem_map_of_mem ((rankNeighbours_perm r).mem_iff.mp hy)

/-! ### The size, the levels and the leads of a set (R85, R102) -/

/-- A set of 6 entries at most, with levels and leads in range. -/
def setInRange (l : List Neighbour) : Prop :=
  l.length ≤ Config.neighbourMax ∧ ∀ n ∈ l, n.level ≤ Config.filteredMax ∧ n.lead ≤ Config.leadMax

theorem setInRange_nil : setInRange [] := ⟨Nat.zero_le _, nofun⟩

theorem setInRange_of_perm {l m : List Neighbour} (h : setInRange m) (hp : l.Perm m) : setInRange l :=
  ⟨hp.length_eq ▸ h.1, fun n hn => h.2 n (hp.mem_iff.mp hn)⟩

theorem setInRange_filter {l : List Neighbour} (h : setInRange l) (p : Neighbour → Bool) : setInRange (l.filter p) :=
  ⟨(List.length_filter_le p l).trans h.1, fun n hn => h.2 n (List.mem_filter.mp hn).1⟩

theorem setInRange_map {l : List Neighbour} {f : Neighbour → Neighbour} (h : setInRange l)
    (hf : ∀ n ∈ l, (f n).level ≤ Config.filteredMax ∧ (f n).lead ≤ Config.leadMax) : setInRange (l.map f) := by
  refine ⟨by rw [List.length_map]; exact h.1, fun n hn => ?_⟩
  obtain ⟨m, hm, rfl⟩ := List.mem_map.mp hn
  exact hf m hm

/-- What the insertion rule can do: nothing, join at the end, or take the place of an entry of the set (R85). -/
theorem insertNeighbour_cases (l : List Neighbour) (b : BaseNo) (v : Nat) :
    insertNeighbour l b v = l ∨ (l.length < Config.neighbourMax ∧ insertNeighbour l b v = l ++ [⟨b, v, 0, 0⟩]) ∨
      ∃ x ∈ l, insertNeighbour l b v = l.filter (fun n => n.base != x.base) ++ [⟨b, v, 0, 0⟩] := by
  unfold insertNeighbour
  dsimp only
  split
  · next h => exact .inr (.inl ⟨h, rfl⟩)
  · split
    · next x hx =>
      have hm : x ∈ l := (rankNeighbours_perm l).mem_iff.mp (List.mem_of_getLast? hx)
      split
      · exact .inr (.inr ⟨x, hm, rfl⟩)
      · exact .inl rfl
    · exact .inl rfl

theorem insertNeighbour_inRange {l : List Neighbour} {v : Nat} (h : setInRange l) (b : BaseNo)
    (hv : v ≤ Config.filteredMax) : setInRange (insertNeighbour l b v) := by
  have hnew : ∀ {m : List Neighbour}, (∀ n ∈ m, n ∈ l) → ∀ n ∈ m ++ [⟨b, v, 0, 0⟩],
      n.level ≤ Config.filteredMax ∧ n.lead ≤ Config.leadMax := fun hm n hn => by
    rcases List.mem_append.mp hn with hn | hn
    · exact h.2 n (hm n hn)
    · rw [List.mem_singleton.mp hn]
      exact ⟨hv, Nat.zero_le _⟩
  rcases insertNeighbour_cases l b v with e | ⟨hl, e⟩ | ⟨x, hx, e⟩ <;> rw [e]
  · exact h
  · refine ⟨?_, hnew fun n hn => hn⟩
    rw [List.length_append]
    exact hl
  · refine ⟨?_, hnew fun n hn => (List.mem_filter.mp hn).1⟩
    have hlt : (l.filter fun n => n.base != x.base).length < l.length :=
      List.length_filter_lt_length_iff_exists.mpr ⟨x, hx, by simp⟩
    rw [List.length_append]
    exact hlt.trans_le h.1

theorem updateNeighbour_inRange {l : List Neighbour} {v : Nat} (h : setInRange l) (b : BaseNo) (k : Nat)
    (hv : v ≤ Config.filteredMax) : setInRange (updateNeighbour l b k v) := by
  refine setInRange_map h fun n hn => ?_
  obtain ⟨hl, hd⟩ := h.2 n hn
  split
  · exact ⟨average_le hl hv, hd⟩
  · exact ⟨hl, hd⟩

theorem ageNeighbours_inRange {l : List Neighbour} (h : setInRange l) (limit : Nat) (named : List BaseNo) :
    setInRange (ageNeighbours limit named l) := by
  refine setInRange_filter (setInRange_map h fun n hn => ?_) _
  split <;> exact h.2 n hn

theorem levelOf_le {l : List Neighbour} (h : setInRange l) {b : BaseNo} {v : Nat} (e : levelOf l b = some v) :
    v ≤ Config.filteredMax := by
  obtain ⟨n, hn, rfl⟩ := Option.map_eq_some_iff.mp e
  exact (h.2 n (List.mem_of_find?_eq_some hn)).1

/-! ### The bases of a set (R83, R87) -/

/-- A set that holds no base twice, and not the serving base `b`. -/
def setApart (b : BaseNo) (l : List Neighbour) : Prop := (l.map (·.base)).Nodup ∧ ∀ n ∈ l, n.base ≠ b

theorem setApart_nil (b : BaseNo) : setApart b [] := ⟨.nil, nofun⟩

theorem setApart_of_perm {b : BaseNo} {l m : List Neighbour} (h : setApart b m) (hp : l.Perm m) : setApart b l :=
  ⟨(hp.map _).nodup_iff.mpr h.1, fun n hn => h.2 n (hp.mem_iff.mp hn)⟩

theorem setApart_filter {b : BaseNo} {l : List Neighbour} (h : setApart b l) (p : Neighbour → Bool) :
    setApart b (l.filter p) :=
  ⟨h.1.sublist (List.filter_sublist.map _), fun n hn => h.2 n (List.mem_filter.mp hn).1⟩

/-- Changes of the entries that keep their bases. -/
theorem setApart_map {b : BaseNo} {l : List Neighbour} {f : Neighbour → Neighbour} (h : setApart b l)
    (hf : ∀ n, (f n).base = n.base) : setApart b (l.map f) := by
  refine ⟨?_, fun n hn => ?_⟩
  · rw [List.map_map, show (fun n : Neighbour => n.base) ∘ f = fun n => n.base from funext hf]
    exact h.1
  · obtain ⟨m, hm, rfl⟩ := List.mem_map.mp hn
    rw [hf]
    exact h.2 m hm

theorem setApart_snoc {b : BaseNo} {l : List Neighbour} {n : Neighbour} (h : setApart b l) (hn : n.base ≠ b)
    (hl : ∀ m ∈ l, m.base ≠ n.base) : setApart b (l ++ [n]) := by
  refine ⟨?_, fun m hm => ?_⟩
  · rw [List.map_append, List.nodup_append]
    refine ⟨h.1, List.nodup_singleton _, fun x hx y hy => ?_⟩
    obtain ⟨m, hm, rfl⟩ := List.mem_map.mp hx
    rw [List.mem_singleton.mp hy]
    exact hl m hm
  · rcases List.mem_append.mp hm with hm | hm
    · exact h.2 m hm
    · rw [List.mem_singleton.mp hm]
      exact hn

/-- A base that is not in the set and does not serve joins it (R85). -/
theorem insertNeighbour_apart {b x : BaseNo} {l : List Neighbour} (h : setApart b l) (hx : x ≠ b)
    (hl : ∀ n ∈ l, n.base ≠ x) (v : Nat) : setApart b (insertNeighbour l x v) := by
  rcases insertNeighbour_cases l x v with e | ⟨-, e⟩ | ⟨y, -, e⟩ <;> rw [e]
  · exact h
  · exact setApart_snoc h hx hl
  · exact setApart_snoc (setApart_filter h _) hx fun n hn => hl n (List.mem_filter.mp hn).1

theorem updateNeighbour_apart {b : BaseNo} {l : List Neighbour} (h : setApart b l) (x : BaseNo) (k v : Nat) :
    setApart b (updateNeighbour l x k v) :=
  setApart_map h fun n => by split <;> rfl

theorem ageNeighbours_apart {b : BaseNo} {l : List Neighbour} (h : setApart b l) (limit : Nat) (named : List BaseNo) :
    setApart b (ageNeighbours limit named l) :=
  setApart_filter (setApart_map h fun n => by split <;> rfl) _

theorem not_hasNeighbour {l : List Neighbour} {x : BaseNo} (h : ¬hasNeighbour l x = true) : ∀ n ∈ l, n.base ≠ x := by
  simpa [hasNeighbour] using h

/-! ### The pairs of a report (R83 to R85) -/

section
variable (s : State) (b : BaseNo) (k : Nat)

/-- What one pair can do to the set: nothing, or bring a base other than the serving one to a level in range. -/
theorem takePair_set (p : PairScan) (e : ReportedBase × LevelCode) :
    (s.takePair b k p e).set = p.set ∨ ∃ (x : BaseNo) (v : Nat), x ≠ b ∧ v ≤ Config.filteredMax ∧
      (s.takePair b k p e).set =
        if hasNeighbour p.set x then updateNeighbour p.set x k v else insertNeighbour p.set x v := by
  unfold State.takePair
  dsimp only
  split
  · exact .inl rfl
  · next x _ =>
    split
    · exact .inl rfl
    · next h =>
      refine .inr ⟨x, _, ?_, sampleTarget_le e.2 s.plan.offsets[x], rfl⟩
      rintro rfl
      simp at h

theorem takePairs_inRange {set : List Neighbour} (h : setInRange set) (pairs : List (ReportedBase × LevelCode)) :
    setInRange (s.takePairs b k set pairs).set := by
  unfold State.takePairs
  refine List.foldlRecOn (motive := fun p : PairScan => setInRange p.set) pairs _ h fun p hp e _ => ?_
  rcases takePair_set s b k p e with e | ⟨x, v, -, hv, e⟩ <;> rw [e]
  · exact hp
  · split
    · exact updateNeighbour_inRange hp x k hv
    · exact insertNeighbour_inRange hp x hv

theorem takePairs_apart {set : List Neighbour} (h : setApart b set) (pairs : List (ReportedBase × LevelCode)) :
    setApart b (s.takePairs b k set pairs).set := by
  unfold State.takePairs
  refine List.foldlRecOn (motive := fun p : PairScan => setApart b p.set) pairs _ h fun p hp e _ => ?_
  rcases takePair_set s b k p e with e | ⟨x, v, hx, -, e⟩ <;> rw [e]
  · exact hp
  · split
    · exact updateNeighbour_apart hp x k v
    · next hn => exact insertNeighbour_apart hp hx (not_hasNeighbour hn) v

end

end Sys2Proof.Machine
end

section
/-! SUPPORT. What the work of the blocks keeps of the calls: their binding to their handsets, the switch batch with the
handover records, and the filters and neighbour sets (R58, R69, R75, R87, R119). A lemma `KeepsCalls.op` says that the
laws go on over `op`. -/

namespace Sys2Proof.Machine

open Sys2Proof

variable {s t u : State} {c : CallNo}

/-! ### The laws, entry by entry -/

/-- Handset `h` is REGISTERED and names call `c` (R58). -/
def State.boundTo (s : State) (h : HandsetNo) (c : CallNo) : Prop :=
  s.roster[h].registered = true ∧ s.roster[h].call = some c

theorem callsOk_iff : s.callsOk ↔ ∀ c : CallNo, callLive s.calls[c].state = true → s.boundTo s.calls[c].handset c :=
  Iff.rfl

theorem boundTo_congr {h : HandsetNo} (e : t.roster = s.roster) : t.boundTo h c ↔ s.boundTo h c := by
  rw [State.boundTo, State.boundTo, e]

/-- Only a MOVING entry has a handover record (R58). -/
def Call.recordOk (e : Call) : Prop := e.state ≠ .moving → e.handover = none

/-- The record of a call waits for its mark (R119). -/
def Call.awaitsMark (e : Call) : Prop := ∃ r, e.handover = some r ∧ r.state = .awaitMark

/-- No entry of the switch batch is call `c`. -/
def State.notBatched (s : State) (c : CallNo) : Prop := ∀ e ∈ s.batch, e.call ≠ c

theorem batchOk_iff : s.batchOk ↔ (∀ c : CallNo, s.calls[c].recordOk) ∧ s.batch.length ≤ Config.batchMax ∧
    (s.batch.map (·.call)).Nodup ∧ ∀ e ∈ s.batch, s.calls[e.call].awaitsMark := Iff.rfl

/-- A call whose record does not wait for a mark is not in the batch. -/
theorem notBatched_of_not_awaits (h : s.batchOk) (hc : ¬s.calls[c].awaitsMark) : s.notBatched c := by
  rintro e he rfl
  exact hc (h.2.2.2 e he)

theorem not_awaits_of_none {e : Call} (h : e.handover = none) : ¬e.awaitsMark := by
  rintro ⟨r, hr, -⟩
  rw [h] at hr
  cases hr

theorem not_awaits_of_state {e : Call} {r : Handover} (h : e.handover = some r) (hs : r.state ≠ .awaitMark) :
    ¬e.awaitsMark := by
  rintro ⟨q, hq, hm⟩
  rw [h] at hq
  cases hq
  exact hs hm

/-- An entry whose filter and set are clear is in order, whatever its state. -/
theorem neighboursOk_of_clear {e : Call} (hf : e.filter = none) (hn : e.neighbours = []) (hr : e.handover = none) :
    e.neighboursOk := by
  refine ⟨fun _ => ⟨hf, hn⟩, ?_, ?_, ?_, ?_⟩ <;> simp [hn, hr]

/-- The law of an entry in terms of its set. -/
theorem neighboursOk_iff {e : Call} : e.neighboursOk ↔
    (callLive e.state = false → e.filter = none ∧ e.neighbours = []) ∧ setApart e.base e.neighbours ∧
      (e.neighbours.Pairwise fun m n => ranksBefore m n = true) ∧ ∀ r, e.handover = some r → r.target ≠ e.base := by
  simp only [ranksBefore_iff]
  exact ⟨fun ⟨h, hd, hs, ho, ht⟩ => ⟨h, ⟨hd, hs⟩, ho, ht⟩, fun ⟨h, ⟨hd, hs⟩, ho, ht⟩ => ⟨h, hd, hs, ho, ht⟩⟩

/-- The law of an entry's levels in terms of its set. -/
theorem levelsOk_iff {e : Call} :
    e.levelsOk ↔ (∀ f, e.filter = some f → f ≤ Config.filteredMax) ∧ setInRange e.neighbours := Iff.rfl

/-- An entry with its handover record gone. -/
def Call.forgetRecord (e : Call) : Call := { e with handover := none }

/-- The state with the handover record of call `c` gone. -/
def State.forgetRecord (s : State) (c : CallNo) : State := s.updCall c Call.forgetRecord

theorem forgetRecord_self (s : State) (c : CallNo) : (s.forgetRecord c).calls[c] = s.calls[c].forgetRecord :=
  (updCall_get s c c _).trans (if_pos rfl)

theorem forgetRecord_other {d : CallNo} (hd : d ≠ c) (s : State) : (s.forgetRecord c).calls[d] = s.calls[d] :=
  updCall_other hd.symm s _

/-- An entry whose record is gone waits for no mark. -/
theorem forgetRecord_not_awaits (s : State) (c : CallNo) : ¬(s.forgetRecord c).calls[c].awaitsMark := by
  rw [forgetRecord_self]
  exact not_awaits_of_none rfl

/-- What a change of one entry keeps of the laws, from a state `s` on: it neither begins a call nor changes its
handset, and keeps the other laws of an entry. -/
structure CallChange (s : State) (e e' : Call) : Prop where
  bound  : callLive e'.state = true → callLive e.state = true ∧ e'.handset = e.handset
  record : e.recordOk → e'.recordOk
  levels : e.levelsOk → e'.levelsOk
  sets   : s.channelsOk → e.neighboursOk → e'.neighboursOk

namespace CallChange

variable {e e' e'' : Call}

theorem trans (h : CallChange s e e') (k : CallChange s e' e'') : CallChange s e e'' where
  bound hl := by
    obtain ⟨hl', hh'⟩ := k.bound hl
    obtain ⟨hl'', hh⟩ := h.bound hl'
    exact ⟨hl'', hh'.trans hh⟩
  record := k.record ∘ h.record
  levels := k.levels ∘ h.levels
  sets hc := k.sets hc ∘ h.sets hc

/-- A change of fields that no law names. -/
theorem of_same (hs : e'.state = e.state) (hh : e'.handset = e.handset) (hb : e'.base = e.base)
    (hf : e'.filter = e.filter) (hn : e'.neighbours = e.neighbours) (hr : e'.handover = e.handover) :
    CallChange s e e' where
  bound hl := ⟨hs ▸ hl, hh⟩
  record h := by rwa [Call.recordOk, hs, hr]
  levels h := by rwa [Call.levelsOk, hf, hn]
  sets _ h := by rwa [Call.neighboursOk, hs, hf, hn, hb, hr]

/-- The handover record goes. -/
theorem forget (e : Call) : CallChange s e e.forgetRecord where
  bound hl := ⟨hl, rfl⟩
  record _ _ := rfl
  levels h := h
  sets _ h := by
    obtain ⟨hl, ha, ho, -⟩ := neighboursOk_iff.mp h
    exact neighboursOk_iff.mpr ⟨hl, ha, ho, nofun⟩

/-- A call in progress without a record goes from CONNECTED to MOVING or back (R71). -/
theorem move (hl : callLive e.state = true) {v : CallState} (hv : callLive v = true) (hn : e.handover = none) :
    CallChange s e { e with state := v } where
  bound _ := ⟨hl, rfl⟩
  record _ _ := hn
  levels h := h
  sets _ h := by
    obtain ⟨-, ha, ho, ht⟩ := neighboursOk_iff.mp h
    exact neighboursOk_iff.mpr ⟨fun hx => absurd (hv.symm.trans hx) (by decide), ha, ho, ht⟩

/-- The record changes, but not its target. -/
theorem changeRecord (e : Call) {f : Handover → Handover} (hf : ∀ r, (f r).target = r.target) :
    CallChange s e { e with handover := e.handover.map f } where
  bound hl := ⟨hl, rfl⟩
  record h hs := by rw [h hs]; rfl
  levels h := h
  sets _ h := by
    obtain ⟨hl, ha, ho, ht⟩ := neighboursOk_iff.mp h
    refine neighboursOk_iff.mpr ⟨hl, ha, ho, fun r hr => ?_⟩
    obtain ⟨q, hq, rfl⟩ := Option.map_eq_some_iff.mp hr
    rw [hf]
    exact ht q hq

/-- A base leaves the neighbour set (R90). -/
theorem filterSet (e : Call) (p : Neighbour → Bool) :
    CallChange s e { e with neighbours := e.neighbours.filter p } where
  bound hl := ⟨hl, rfl⟩
  record h := h
  levels h := by
    obtain ⟨hf, hs⟩ := levelsOk_iff.mp h
    exact levelsOk_iff.mpr ⟨hf, setInRange_filter hs p⟩
  sets _ h := by
    obtain ⟨hl, ha, ho, ht⟩ := neighboursOk_iff.mp h
    refine neighboursOk_iff.mpr ⟨fun hd => ?_, setApart_filter ha p, ho.sublist List.filter_sublist, ht⟩
    obtain ⟨hf, hn⟩ := hl hd
    exact ⟨hf, by rw [hn]; rfl⟩

/-- The leads of the set change (R102). -/
theorem mapLeads (e : Call) {f : Neighbour → Neighbour} (hb : ∀ n, (f n).base = n.base)
    (hv : ∀ n, (f n).level = n.level) (hd : ∀ n, n.lead ≤ Config.leadMax → (f n).lead ≤ Config.leadMax) :
    CallChange s e { e with neighbours := e.neighbours.map f } where
  bound hl := ⟨hl, rfl⟩
  record h := h
  levels h := by
    obtain ⟨hf, hs⟩ := levelsOk_iff.mp h
    refine levelsOk_iff.mpr ⟨hf, setInRange_map hs fun n hn => ?_⟩
    rw [hv]
    exact ⟨(hs.2 n hn).1, hd n (hs.2 n hn).2⟩
  sets _ h := by
    obtain ⟨hl, ha, ho, ht⟩ := neighboursOk_iff.mp h
    refine neighboursOk_iff.mpr
      ⟨fun hx => ?_, setApart_map ha hb, List.pairwise_map.mpr (ho.imp fun {m n} hmn => ?_), ht⟩
    · obtain ⟨hf, hn⟩ := hl hx
      exact ⟨hf, by rw [hn]; rfl⟩
    · rwa [ranksBefore, hv, hv, hb, hb]

end CallChange

/-! ### What every block's work keeps -/

/-- The tables that the laws of the calls name. -/
def State.callTables (s : State) : Vector Call 256 × List BatchEntry × Vector RosterEntry 512 :=
  (s.calls, s.batch, s.roster)

theorem callTables_fields (h : t.callTables = s.callTables) :
    t.calls = s.calls ∧ t.batch = s.batch ∧ t.roster = s.roster := by
  simpa [State.callTables] using h

/-- The laws of the calls go over from a state to the next; that of the sets with the law of the channel map. -/
structure KeepsCalls (s t : State) : Prop where
  bound  : s.callsOk → t.callsOk
  batch  : s.batchOk → t.batchOk
  levels : s.levelsOk → t.levelsOk
  sets   : s.channelsOk → s.neighboursOk → t.neighboursOk

namespace KeepsCalls

theorem refl (s : State) : KeepsCalls s s := ⟨id, id, id, fun _ => id⟩

/-- From a state with the same tables and the law of the channel map. -/
theorem from_same (h : KeepsCalls t u) (e : t.callTables = s.callTables) (hc : s.channelsOk → t.channelsOk) :
    KeepsCalls s u := by
  obtain ⟨ec, eb, er⟩ := callTables_fields e
  refine ⟨fun k => h.bound (callsOk_iff.mpr fun c hl => ?_), fun k => h.batch ?_, fun k => h.levels ?_,
    fun k l => h.sets (hc k) ?_⟩
  · rw [ec] at hl ⊢
    exact (boundTo_congr er).mpr (callsOk_iff.mp k c hl)
  · rwa [State.batchOk, ec, eb]
  · rwa [State.levelsOk, ec]
  · rwa [State.neighboursOk, ec]

/-- Work that leaves the calls and the batch, and of the roster what stands in an entry and whose call it is. -/
theorem offCalls (h : KeepsCalls s t) (hc : u.calls = t.calls) (hb : u.batch = t.batch)
    (hr : t.callsOk → ∀ c : CallNo, callLive t.calls[c].state = true → t.boundTo t.calls[c].handset c →
      u.boundTo t.calls[c].handset c) : KeepsCalls s u where
  bound k := callsOk_iff.mpr fun c hl => by
    rw [hc] at hl ⊢
    exact hr (h.bound k) c hl (callsOk_iff.mp (h.bound k) c hl)
  batch k := by
    rw [State.batchOk, hc, hb]
    exact h.batch k
  levels k := by
    rw [State.levelsOk, hc]
    exact h.levels k
  sets k l := by
    rw [State.neighboursOk, hc]
    exact h.sets k l

/-- Work on other tables than these. -/
theorem same (h : KeepsCalls s t) (e : u.callTables = t.callTables) : KeepsCalls s u := by
  obtain ⟨ec, eb, er⟩ := callTables_fields e
  exact h.offCalls ec eb fun _ c _ hb => (boundTo_congr er).mpr hb

theorem markCall {v : Byte} (h : KeepsCalls s t) : KeepsCalls s (t.markCall c v) := h.same rfl

/-- A fold of such operations is one. -/
theorem foldl {α : Type} {f : State → α → State} (hf : ∀ {v x}, KeepsCalls s v → KeepsCalls s (f v x))
    (h : KeepsCalls s t) (l : List α) : KeepsCalls s (l.foldl f t) := by
  induction l generalizing t with
  | nil => exact h
  | cons x r ih => exact ih (hf h)

/-- Cleared tables are in order, whatever went before. -/
theorem cleared (e : t.callTables = State.reset.callTables) : KeepsCalls s t := by
  obtain ⟨ec, eb, -⟩ := callTables_fields e
  have hf : ∀ c : CallNo, t.calls[c] = .free := fun c => by rw [ec]; exact getElem_replicate_fin _ c
  refine ⟨fun _ c hl => ?_, fun _ => batchOk_iff.mpr ⟨fun c _ => ?_, ?_, ?_, ?_⟩, fun _ c => ?_, fun _ _ c => ?_⟩
  · rw [hf] at hl
    cases hl
  · rw [hf]
    rfl
  · rw [eb]
    exact Nat.zero_le _
  · rw [eb]
    exact .nil
  · rw [eb]
    exact nofun
  · rw [hf]
    exact levelsOk_iff.mpr ⟨nofun, setInRange_nil⟩
  · rw [hf]
    exact neighboursOk_of_clear rfl rfl rfl

/-! Changes of one entry -/

/-- A change of one entry of the call table, with what the batch says of it afterwards. -/
theorem updCallWith {f : Call → Call} (h : KeepsCalls s t) (hf : CallChange s t.calls[c] (f t.calls[c]))
    (hb : s.batchOk → t.notBatched c ∨ (t.calls[c].awaitsMark → (f t.calls[c]).awaitsMark)) :
    KeepsCalls s (t.updCall c f) where
  bound k := callsOk_iff.mpr fun d hl => by
    have hk := callsOk_iff.mp (h.bound k)
    rw [updCall_get] at hl ⊢
    split at hl
    · next e =>
      subst e
      obtain ⟨hl', hh⟩ := hf.bound hl
      rw [if_pos rfl, hh]
      exact hk c hl'
    · next e =>
      rw [if_neg e]
      exact hk d hl
  batch k := by
    obtain ⟨hrec, hlen, hnodup, haw⟩ := batchOk_iff.mp (h.batch k)
    refine batchOk_iff.mpr ⟨fun d => ?_, hlen, hnodup, fun e he => ?_⟩
    · rw [updCall_get]
      split
      · exact hf.record (hrec c)
      · exact hrec d
    · rw [updCall_get]
      split
      · next ec =>
        rcases hb k with hn | ha
        · exact absurd ec.symm (hn e he)
        · exact ha (ec ▸ haw e he)
      · exact haw e he
  levels k d := by
    rw [updCall_get]
    split
    · exact hf.levels (h.levels k c)
    · exact h.levels k d
  sets k l d := by
    rw [updCall_get]
    split
    · exact hf.sets k (h.sets k l c)
    · exact h.sets k l d

/-- A change that keeps the wait for a mark. -/
theorem updCall {f : Call → Call} (h : KeepsCalls s t) (hf : CallChange s t.calls[c] (f t.calls[c]))
    (ha : t.calls[c].awaitsMark → (f t.calls[c]).awaitsMark) : KeepsCalls s (t.updCall c f) :=
  h.updCallWith hf fun _ => .inr ha

/-- A change of fields that no law names. -/
theorem updRest {f : Call → Call} (h : KeepsCalls s t) (hs : ∀ e, (f e).state = e.state := by intro _; rfl)
    (hh : ∀ e, (f e).handset = e.handset := by intro _; rfl) (hb : ∀ e, (f e).base = e.base := by intro _; rfl)
    (hf : ∀ e, (f e).filter = e.filter := by intro _; rfl)
    (hn : ∀ e, (f e).neighbours = e.neighbours := by intro _; rfl)
    (hr : ∀ e, (f e).handover = e.handover := by intro _; rfl) : KeepsCalls s (t.updCall c f) :=
  h.updCall (.of_same (hs _) (hh _) (hb _) (hf _) (hn _) (hr _)) fun ha => by rwa [Call.awaitsMark, hr]

/-- Entries leave the switch batch. -/
theorem filterBatch (h : KeepsCalls s t) (p : BatchEntry → Bool) : KeepsCalls s (t.setBatch (t.batch.filter p)) where
  bound := h.bound
  batch k := by
    obtain ⟨hrec, hlen, hnodup, haw⟩ := batchOk_iff.mp (h.batch k)
    exact batchOk_iff.mpr ⟨hrec, (List.length_filter_le p _).trans hlen,
      hnodup.sublist (List.filter_sublist.map _), fun e he => haw e (List.mem_filter.mp he).1⟩
  levels := h.levels
  sets := h.sets

end KeepsCalls

/-! ### Tables left alone -/

section
variable (s : State)

theorem append_callTables (b : BaseNo) (m : Downlink) : (s.append b m).1.callTables = s.callTables :=
  (congrArg State.callTables (send_frame s b m) :)

theorem append_callTables_of_eq {b : BaseNo} {m : Downlink} {v : Bool} (h : s.append b m = (t, v)) :
    t.callTables = s.callTables := by
  rw [← append_callTables s b m, h]

theorem send_callTables (b : BaseNo) (m : Downlink) : (s.send b m).callTables = s.callTables :=
  append_callTables s b m

theorem handBack_callTables (i : SlotNo) (r : OrderResult) : (s.handBack i r).callTables = s.callTables :=
  (congrArg State.callTables (handBack_frame s i r) :)

theorem answerMove_callTables (i : Option SlotNo) (r : OrderResult) : (s.answerMove i r).callTables = s.callTables :=
  (congrArg State.callTables (answerMove_frame s i r) :)

theorem unreserve_callTables (b : BaseNo) (j : ChanNo) (c : CallNo) (g : AttemptTag) :
    (s.unreserve b j c g).callTables = s.callTables := by
  unfold State.unreserve
  split <;> rfl

theorem switchOut_callTables (c : CallNo) (b : BaseNo) (j : ChanNo) (g : AttemptTag) :
    (s.switchOut c b j g).callTables = s.callTables := by
  unfold State.switchOut
  dsimp only
  split <;> rfl

theorem switchBack_callTables (c : CallNo) (b : BaseNo) (j : ChanNo) (g : AttemptTag) :
    (s.switchBack c b j g).callTables = s.callTables := by
  unfold State.switchBack
  dsimp only
  split <;> rfl

theorem bumpBase_callTables (b : BaseNo) (k : BaseCounter) : (s.bumpBase b k).callTables = s.callTables := rfl

theorem giveUp_callTables (c : CallNo) (r : Handover) : (s.giveUp c r).callTables = s.callTables := by
  unfold State.giveUp
  split
  · rfl
  · dsimp only
    rw [bumpBase_callTables]
    split
    · rw [send_callTables, send_callTables, switchBack_callTables]
    · rw [send_callTables, unreserve_callTables]

theorem giveUpCandidate_callTables (c : CallNo) (r : Handover) (a : AbortReason) :
    (s.giveUpCandidate c r a).callTables = s.callTables := by
  unfold State.giveUpCandidate
  split
  · rfl
  · dsimp only
    rw [bumpBase_callTables]
    split
    · rw [unreserve_callTables]
    · rw [send_callTables, unreserve_callTables]

end

/-! ### Attempts that end (R124) -/

/-- The laws go on but for the handover record of call `c`: they hold with its record gone, and a record stands only in
a MOVING entry. -/
structure KeepsCallsBut (s t : State) (c : CallNo) : Prop where
  forgot : KeepsCalls s (t.forgetRecord c)
  record : s.batchOk → t.calls[c].recordOk

namespace KeepsCallsBut

theorem same (h : KeepsCallsBut s t c) (e : u.callTables = t.callTables) : KeepsCallsBut s u c := by
  obtain ⟨ec, eb, er⟩ := callTables_fields e
  refine ⟨h.forgot.same ?_, fun k => by rw [ec]; exact h.record k⟩
  rw [State.callTables, State.callTables, State.forgetRecord, State.forgetRecord, State.updCall_calls,
    State.updCall_calls, State.updCall_batch, State.updCall_batch, State.updCall_roster, State.updCall_roster, ec, eb,
    er]

theorem markCall {v : Byte} (h : KeepsCallsBut s t c) : KeepsCallsBut s (t.markCall c v) c := h.same rfl

/-- Call `c` is not in the switch batch. -/
theorem notBatched (h : KeepsCallsBut s t c) (k : s.batchOk) : t.notBatched c :=
  notBatched_of_not_awaits (s := t.forgetRecord c) (h.forgot.batch k) (forgetRecord_not_awaits t c)

/-- The call leaves the batch. -/
theorem of_dropBatch (h : KeepsCalls s t) : KeepsCallsBut s (t.dropBatch c) c where
  forgot := (h.filterBatch _).updCallWith (.forget _) fun _ => .inl fun e he => by
    simpa using (List.mem_filter.mp he).2
  record k := (h.batch k).1 c

theorem dropBatch (h : KeepsCallsBut s t c) : KeepsCallsBut s (t.dropBatch c) c :=
  ⟨h.forgot.filterBatch _, h.record⟩

/-- A change of the entry: it is judged with the record gone. -/
theorem updCall {f : Call → Call} (h : KeepsCallsBut s t c)
    (hf : CallChange s t.calls[c].forgetRecord (f t.calls[c]).forgetRecord)
    (hr : t.calls[c].recordOk → (f t.calls[c]).recordOk) : KeepsCallsBut s (t.updCall c f) c where
  forgot := by
    have hc := h.forgot.updCall (f := fun _ => (f t.calls[c]).forgetRecord) (by rw [forgetRecord_self]; exact hf)
      fun ha => absurd ha (forgetRecord_not_awaits t c)
    rw [State.forgetRecord, updCall_updCall] at hc ⊢
    exact hc
  record k := by
    rw [updCall_get, if_pos rfl]
    exact hr (h.record k)

/-- A change of the record alone. -/
theorem updHandover {f : Handover → Handover} (h : KeepsCallsBut s t c) : KeepsCallsBut s (t.updHandover c f) c :=
  h.updCall (.of_same rfl rfl rfl rfl rfl rfl) fun hr hs => by rw [hr hs]; rfl

/-- With the record at another base than the serving one every law holds. -/
theorem done (h : KeepsCallsBut s t c) (ht : ∀ r, t.calls[c].handover = some r → r.target ≠ t.calls[c].base) :
    KeepsCalls s t := by
  refine ⟨fun k => callsOk_iff.mpr fun d hl => ?_, fun k => ?_, fun k d => ?_, fun k l d => ?_⟩
  · have hd := callsOk_iff.mp (h.forgot.bound k) d
    by_cases e : d = c
    · subst e
      rw [forgetRecord_self] at hd
      exact hd hl
    · rw [forgetRecord_other e] at hd
      exact hd hl
  · obtain ⟨hrec, hlen, hnodup, haw⟩ := batchOk_iff.mp (h.forgot.batch k)
    refine batchOk_iff.mpr ⟨fun d => ?_, hlen, hnodup, fun e he => ?_⟩
    · by_cases e : d = c
      · subst e
        exact h.record k
      · rw [← forgetRecord_other e]
        exact hrec d
    · rw [← forgetRecord_other (h.notBatched k e he)]
      exact haw e he
  · have hd := h.forgot.levels k d
    by_cases e : d = c
    · subst e
      rwa [forgetRecord_self] at hd
    · rwa [forgetRecord_other e] at hd
  · have hd := h.forgot.sets k l d
    by_cases e : d = c
    · subst e
      rw [forgetRecord_self] at hd
      obtain ⟨hlive, ha, ho, -⟩ := neighboursOk_iff.mp hd
      exact neighboursOk_iff.mpr ⟨hlive, ha, ho, ht⟩
    · rwa [forgetRecord_other e] at hd

end KeepsCallsBut

namespace KeepsCalls

theorem moveEnd (h : KeepsCalls s t) (hn : t.calls[c].handover = none) : KeepsCalls s (t.moveEnd c) := by
  unfold State.moveEnd
  split
  · next hm =>
    exact (h.updCall (.move (by rw [hm]; rfl) rfl hn) fun ha => absurd ha (not_awaits_of_none hn)).markCall
  · exact h

/-- The record of a call goes, with its move-end notice (R124 step 3). -/
theorem removeRecord (h : KeepsCallsBut s t c) : KeepsCalls s (t.removeRecord c) :=
  h.forgot.moveEnd (by rw [forgetRecord_self]; rfl)

theorem noteAbort {a : AbortReason} (h : KeepsCalls s t) : KeepsCalls s (t.noteAbort c a) := h.updRest.markCall

theorem startHold (h : KeepsCalls s t) : KeepsCalls s (t.startHold c) := by
  unfold State.startHold
  dsimp only
  split
  · exact h.updRest
  · exact h

/-- An attempt ends once its call is out of the batch (R124). -/
theorem attemptEnd_of_but {a : AbortReason} {r : Handover} (hr : t.calls[c].handover = some r)
    (h : KeepsCallsBut s (t.dropBatch c) c) : KeepsCalls s (t.attemptEnd c a) := by
  have hn : KeepsCalls s ((((t.dropBatch c).giveUp c r).removeRecord c).noteAbort c a) :=
    (removeRecord (h.same (giveUp_callTables _ c r))).noteAbort
  rw [State.attemptEnd, hr]
  dsimp only
  split
  · exact hn.startHold.same (answerMove_callTables _ _ _)
  · exact hn.same (answerMove_callTables _ _ _)

theorem attemptEnd {a : AbortReason} (h : KeepsCalls s t) : KeepsCalls s (t.attemptEnd c a) := by
  cases hr : t.calls[c].handover with
  | none => rwa [attemptEnd_of_no_record hr]
  | some r => exact attemptEnd_of_but hr (.of_dropBatch h)

end KeepsCalls

/-! ### Candidates tried in turn (R112, R113) -/

namespace KeepsCallsBut

theorem attemptEnd {a : AbortReason} (h : KeepsCallsBut s t c) : KeepsCalls s (t.attemptEnd c a) := by
  cases hr : t.calls[c].handover with
  | none =>
    rw [attemptEnd_of_no_record hr]
    exact h.done fun r e => by rw [hr] at e; cases e
  | some r => exact .attemptEnd_of_but hr h.dropBatch

theorem takeTarget {b : BaseNo} {l : List BaseNo} (h : KeepsCallsBut s t c) : KeepsCallsBut s (t.takeTarget c b l) c :=
  KeepsCallsBut.markCall (h.updCall (.of_same rfl rfl rfl rfl rfl rfl) fun hr hs => by rw [hr hs]; rfl)

/-- The new candidate is the target of the record, if any. -/
theorem takeTarget_target {b : BaseNo} {l : List BaseNo} {r : Handover}
    (h : (s.takeTarget c b l).calls[c].handover = some r) : r.target = b := by
  rw [State.takeTarget, State.markCall_calls, updCall_get, if_pos rfl] at h
  obtain ⟨q, -, rfl⟩ := Option.map_eq_some_iff.mp h
  rfl

/-- A candidate that is reserved is not the serving base (R69). -/
theorem ne_base_of_reservable {b : BaseNo} {j : ChanNo} (h : s.reservable b c = some j) : b ≠ s.calls[c].base := by
  rintro e
  unfold State.reservable at h
  rw [← e] at h
  simp at h

/-- One candidate after another is tried until one is reserved: each law holds again (R112, R113). -/
theorem tryCandidates (h : KeepsCallsBut s t c) (l : List BaseNo) : KeepsCalls s (t.tryCandidates c l) := by
  induction l generalizing t with
  | nil => exact h.attemptEnd
  | cons b r ih =>
    unfold State.tryCandidates
    dsimp only
    split
    · exact ih h.takeTarget.updHandover
    · next j hj =>
      split
      · next v hv =>
        have e := append_callTables_of_eq _ hv
        have hc : v.calls = (t.takeTarget c b r).calls := (callTables_fields e).1
        refine (h.takeTarget.same e).updHandover.done fun q hq => ?_
        rw [State.updHandover, updCall_get, if_pos rfl, hc] at hq ⊢
        obtain ⟨p, hp, rfl⟩ := Option.map_eq_some_iff.mp hq
        exact (takeTarget_target hp).trans_ne (ne_base_of_reservable hj)
      · next v hv =>
        have e := append_callTables_of_eq _ hv
        exact ih ((h.takeTarget.same e).same (unreserve_callTables v b j c _)).updHandover

end KeepsCallsBut

/-- A move-begin notice makes a call in progress MOVING (R71). -/
theorem moveBegin_calls (h : callLive s.calls[c].state = true) :
    (s.moveBegin c).callTables = (s.updCall c fun e => { e with state := .moving }).callTables := by
  unfold State.moveBegin
  split
  · rfl
  · next hn =>
    have hm : s.calls[c].state = .moving := by
      cases e : s.calls[c].state <;> simp_all [callLive]
    have he : { s.calls[c] with state := .moving } = s.calls[c] := by rw [← hm]
    rw [State.callTables, State.callTables, State.updCall_calls, he]
    exact congrArg (·, s.batch, s.roster) (Vector.set_getElem_self _).symm

namespace KeepsCalls

/-- A handover starts of a call in progress without a record (R112). -/
theorem startHandover {k : HandoverKind} {l : List BaseNo} {i : Option SlotNo} (h : KeepsCalls s t)
    (hl : callLive t.calls[c].state = true) (hn : s.batchOk → t.calls[c].handover = none) :
    KeepsCalls s (t.startHandover c k l i) := by
  refine KeepsCallsBut.tryCandidates (.same ?_ (moveBegin_calls (by rw [updCall_get, if_pos rfl]; exact hl))) l
  rw [updCall_updCall]
  refine ⟨?_, fun _ hm => absurd ?_ hm⟩
  · rw [State.forgetRecord, updCall_updCall]
    refine h.updCallWith ((CallChange.forget t.calls[c]).trans
      (.move (e := { t.calls[c] with handover := none }) hl (v := .moving) rfl rfl)) fun k => .inl ?_
    exact notBatched_of_not_awaits (h.batch k) (not_awaits_of_none (hn k))
  · rw [updCall_get, if_pos rfl]

/-- The same of a call that is CONNECTED. -/
theorem startHandover_of_connected {k : HandoverKind} {l : List BaseNo} {i : Option SlotNo} (h : KeepsCalls s t)
    (hs : t.calls[c].state = .connected) : KeepsCalls s (t.startHandover c k l i) :=
  h.startHandover (by rw [hs]; rfl) fun hb => (h.batch hb).1 c (by rw [hs]; decide)

theorem updHandover {f : Handover → Handover} (h : KeepsCalls s t) (ht : ∀ r, (f r).target = r.target)
    (hs : ∀ r, (f r).state = r.state) : KeepsCalls s (t.updHandover c f) :=
  h.updCall (.changeRecord _ ht) fun ⟨r, hr, hm⟩ => ⟨f r, by dsimp only; rw [hr]; rfl, (hs r).trans hm⟩

theorem candidateFail {a : AbortReason} (h : KeepsCalls s t) : KeepsCalls s (t.candidateFail c a) := by
  unfold State.candidateFail
  split
  · exact h
  · next r _ =>
    have hf : KeepsCalls s (t.noteFailure c a) := h.updHandover (fun _ => rfl) fun _ => rfl
    exact ((KeepsCallsBut.of_dropBatch hf).same (giveUpCandidate_callTables _ c r a)).updHandover.tryCandidates _

/-! Switching -/

/-- A switch begins for a call that is not in the batch (R118). -/
theorem beginSwitch (h : KeepsCalls s t) (hb : s.batchOk → t.notBatched c) : KeepsCalls s (t.beginSwitch c) := by
  unfold State.beginSwitch
  split
  · exact h
  · split
    · exact h
    · next r _ _ j _ =>
      have e := switchOut_callTables t c r.target j r.tag
      refine KeepsCalls.same (t := (t.switchOut c r.target j r.tag).updHandover c _) ?_ rfl
      refine (h.same e).updCallWith (.changeRecord _ fun _ => rfl) fun k => .inl ?_
      rw [State.notBatched, (callTables_fields e).2.1]
      exact hb k

end KeepsCalls

theorem beginSwitch_batch (s : State) (c : CallNo) : (s.beginSwitch c).batch = s.batch := by
  unfold State.beginSwitch
  split
  · rfl
  · split
    · rfl
    · next r _ _ j _ => exact (callTables_fields (switchOut_callTables s c r.target j r.tag)).2.1

theorem moveEnd_batch (s : State) (c : CallNo) : (s.moveEnd c).batch = s.batch := by
  unfold State.moveEnd
  split <;> rfl

theorem startHold_batch (s : State) (c : CallNo) : (s.startHold c).batch = s.batch := by
  unfold State.startHold
  dsimp only
  split <;> rfl

/-- The end of an attempt takes its call out of the batch, and leaves the rest (R124). -/
theorem attemptEnd_batch (s : State) (c : CallNo) (a : AbortReason) :
    (s.attemptEnd c a).batch ⊆ s.batch := by
  unfold State.attemptEnd
  split
  · exact List.Subset.refl _
  · next r _ =>
    have hb : ((((s.dropBatch c).giveUp c r).removeRecord c).noteAbort c a).batch = (s.dropBatch c).batch :=
      (moveEnd_batch _ c).trans (callTables_fields (giveUp_callTables (s.dropBatch c) c r)).2.1
    dsimp only
    rw [answerMove_batch]
    split
    · rw [startHold_batch, hb]
      exact List.filter_subset_self _
    · rw [hb]
      exact List.filter_subset_self _

namespace KeepsCalls

/-- Calls that are not in the batch are switched, or their attempts end, one after another (R118, R120). -/
theorem switchEach {f : State → CallNo → State}
    (hf : ∀ {v c}, KeepsCalls s v → (s.batchOk → v.notBatched c) → KeepsCalls s (f v c))
    (hs : ∀ (v : State) (c : CallNo), (f v c).batch ⊆ v.batch) (h : KeepsCalls s t) (cs : List CallNo)
    (hb : s.batchOk → ∀ c ∈ cs, t.notBatched c) : KeepsCalls s (cs.foldl f t) := by
  induction cs generalizing t with
  | nil => exact h
  | cons c r ih =>
    exact ih (hf h fun k => hb k c (.head r)) fun k d hd e he => hb k d (.tail c hd) e (hs t c he)

theorem sendSwitchList {b : BaseNo} {cs : List CallNo} (h : KeepsCalls s t)
    (hb : s.batchOk → ∀ c ∈ cs, t.notBatched c) : KeepsCalls s (t.sendSwitchList b cs) := by
  have sent : ∀ {v : State} {x : Bool}, t.append b (.switchList (cs.filterMap t.switchEntry)) = (v, x) →
      KeepsCalls s v ∧ (s.batchOk → ∀ c ∈ cs, v.notBatched c) := fun hv => by
    have e := append_callTables_of_eq _ hv
    refine ⟨h.same e, fun k c hc => ?_⟩
    rw [State.notBatched, (callTables_fields e).2.1]
    exact hb k c hc
  unfold State.sendSwitchList
  split
  · next v hv =>
    exact switchEach beginSwitch (fun v c e he => by rwa [beginSwitch_batch] at he) (sent hv).1 cs (sent hv).2
  · next v hv =>
    exact switchEach (fun k _ => k.attemptEnd) (fun v c => attemptEnd_batch v c _) (sent hv).1 cs (sent hv).2

end KeepsCalls

end Sys2Proof.Machine
end

section
/-! SUPPORT. The laws of the calls over the events of the blocks, one lemma per event (R58, R69, R75, R87, R119). -/

namespace Sys2Proof.Machine

open Sys2Proof

variable {s t u : State} {c : CallNo}

/-! ### The switch batch (7.4) -/

theorem sendSwitchList_batch (s : State) (b : BaseNo) (cs : List CallNo) : (s.sendSwitchList b cs).batch ⊆ s.batch := by
  have folded : ∀ {f : State → CallNo → State}, (∀ (v : State) (c : CallNo), (f v c).batch ⊆ v.batch) →
      ∀ {v : State} {x : Bool}, s.append b (.switchList (cs.filterMap s.switchEntry)) = (v, x) →
      (cs.foldl f v).batch ⊆ s.batch := fun {f} hf {v x} hv => by
    have e : v.batch = s.batch := (callTables_fields (append_callTables_of_eq _ hv)).2.1
    exact List.foldlRecOn (motive := fun w : State => w.batch ⊆ s.batch) cs f (fun y hy => e ▸ hy)
      fun w hw c _ => List.Subset.trans (hf w c) hw
  unfold State.sendSwitchList
  split
  · next v hv => exact folded (fun v c e he => by rwa [beginSwitch_batch] at he) hv
  · next v hv => exact folded (fun v c => attemptEnd_batch v c _) hv

theorem mem_switchPieces {α : Type} {n : Nat} {l p : List α} (h : p ∈ switchPieces n l) : p ⊆ l := by
  induction n generalizing l with
  | zero => cases l <;> cases h
  | succ n ih =>
    cases l with
    | nil => cases h
    | cons x r =>
      rcases List.mem_cons.mp h with rfl | h
      · exact List.take_subset _ _
      · exact List.Subset.trans (ih h) (List.drop_subset _ _)

/-- The lists of a delivery name the due calls only (R120). -/
theorem mem_switchLists {due : List CallNo} {p : BaseNo × List CallNo} (h : p ∈ s.switchLists due) : p.2 ⊆ due := by
  obtain ⟨b, -, hb⟩ := List.mem_flatMap.mp h
  obtain ⟨q, hq, rfl⟩ := List.mem_map.mp hb
  exact List.Subset.trans (mem_switchPieces hq) (List.filter_subset_self _)

/-- A call that is due is in the batch no longer once the entries due are gone. -/
theorem notBatched_of_due (hn : (s.batch.map (·.call)).Nodup)
    (hc : c ∈ (s.batch.filter fun e => e.due == s.now).map (·.call)) :
    (s.setBatch (s.batch.filter fun e => e.due != s.now)).notBatched c := by
  obtain ⟨e, he, rfl⟩ := List.mem_map.mp hc
  obtain ⟨he, hd⟩ := List.mem_filter.mp he
  intro x hx hxe
  obtain ⟨hx, hxd⟩ := List.mem_filter.mp hx
  rw [List.inj_on_of_nodup_map hn hx he hxe, bne, hd] at hxd
  cases hxd

namespace KeepsCalls

/-- A call whose record waits for its mark joins the batch. -/
theorem snocBatch {e : BatchEntry} (h : KeepsCalls s t) (hl : t.batch.length < Config.batchMax)
    (hn : s.batchOk → t.notBatched e.call) (ha : t.calls[e.call].awaitsMark) :
    KeepsCalls s (t.setBatch (t.batch ++ [e])) where
  bound := h.bound
  batch k := by
    obtain ⟨hrec, -, hnodup, haw⟩ := batchOk_iff.mp (h.batch k)
    refine batchOk_iff.mpr ⟨hrec, ?_, ?_, fun x hx => ?_⟩
    · rw [State.setBatch_batch, List.length_append]
      exact hl
    · rw [State.setBatch_batch, List.map_append, List.nodup_append]
      refine ⟨hnodup, List.nodup_singleton _, fun x hx y hy => ?_⟩
      obtain ⟨q, hq, rfl⟩ := List.mem_map.mp hx
      rw [List.map_singleton, List.mem_singleton] at hy
      rw [hy]
      exact hn k q hq
    · rcases List.mem_append.mp hx with hx | hx
      · exact haw x hx
      · rw [List.mem_singleton] at hx
        subst hx
        exact ha
  levels := h.levels
  sets := h.sets

theorem joinBatch {b : BaseNo} {r : Handover} (h : KeepsCalls s t) (hr : t.calls[c].handover = some r)
    (hs : r.state = .reserving) (hl : t.batch.length < Config.batchMax) : KeepsCalls s (t.joinBatch c b) := by
  have hn : s.batchOk → t.notBatched c := fun k =>
    notBatched_of_not_awaits (h.batch k) (not_awaits_of_state hr (by rw [hs]; decide))
  have hu : KeepsCalls s (t.updHandover c fun r => { r with state := .awaitMark, reserveTimer := none }) :=
    h.updCallWith (.changeRecord _ fun _ => rfl) fun k => .inl (hn k)
  refine KeepsCalls.markCall (hu.snocBatch (e := ⟨c, _⟩) hl hn
    ⟨{ r with state := .awaitMark, reserveTimer := none }, ?_, rfl⟩)
  rw [State.updHandover, updCall_get, if_pos rfl, hr]
  rfl

theorem takeReady {r : Handover} (h : KeepsCalls s t) (hr : t.calls[c].handover = some r) (hs : r.state = .reserving) :
    KeepsCalls s (t.takeReady c r) := by
  have hu : KeepsCalls s (t.updHandover c fun q => { q with reserveTimer := none }) :=
    h.updHandover (fun _ => rfl) fun _ => rfl
  have hq : (t.updHandover c fun q => { q with reserveTimer := none }).calls[c].handover =
      some { r with reserveTimer := none } := by
    rw [State.updHandover, updCall_get, if_pos rfl, hr]
    rfl
  have hn : s.batchOk → ∀ d ∈ [c], t.notBatched d := fun k d hd => by
    rw [List.mem_singleton.mp hd]
    exact notBatched_of_not_awaits (h.batch k) (not_awaits_of_state hr (by rw [hs]; decide))
  unfold State.takeReady
  dsimp only
  split
  · exact hu.sendSwitchList hn
  · split
    · next hl => exact hu.joinBatch hq hs hl
    · exact (hu.same (u := State.bump _ .batchFull) rfl).sendSwitchList hn

theorem deliverBatch (h : KeepsCalls s t) : KeepsCalls s t.deliverBatch := by
  have hl : ∀ p ∈ t.switchLists ((t.batch.filter fun e => e.due == t.now).map (·.call)), s.batchOk →
      ∀ d ∈ p.2, (t.setBatch (t.batch.filter fun e => e.due != t.now)).notBatched d := fun p hp k d hd =>
    notBatched_of_due (h.batch k).2.2.1 (mem_switchLists hp hd)
  have hf : KeepsCalls s (t.setBatch (t.batch.filter fun e => e.due != t.now)) := h.filterBatch _
  unfold State.deliverBatch
  dsimp only
  generalize t.switchLists _ = l at hl
  generalize t.setBatch _ = v at hl hf
  induction l generalizing v with
  | nil => exact hf
  | cons p r ih =>
    refine ih _ (fun q hq k d hd e he => ?_) (hf.sendSwitchList (hl p (.head r)))
    exact hl q (.tail p hq) k d hd e (sendSwitchList_batch v p.1 p.2 he)

/-! ### The end of a call (R66) -/

/-- The end of a call in progress unbinds its handset, and clears its entry (R66). -/
theorem callEndActions {r : EndReason} (h : KeepsCalls s t) (hl : callLive t.calls[c].state = true) :
    KeepsCalls s (t.callEndActions c r) := by
  have self := callEndActions_self t c r
  have other : ∀ {d : CallNo}, d ≠ c → (t.callEndActions c r).calls[d] = t.calls[d] := fun hd =>
    callEndActions_other t c r hd
  refine ⟨fun k => callsOk_iff.mpr fun d hd => ?_, fun k => ?_, fun k d => ?_, fun k l d => ?_⟩
  · have ht := callsOk_iff.mp (h.bound k)
    by_cases e : d = c
    · subst e
      rw [self] at hd
      cases hd
    · rw [other e] at hd ⊢
      obtain ⟨hr, hc⟩ := ht d hd
      have hne : t.calls[d].handset ≠ t.calls[c].handset := fun eh => by
        have hx := (ht c hl).2
        rw [← eh, hc] at hx
        exact e (Option.some.inj hx)
      rw [State.boundTo, callEndActions_roster, unbindCall_other hne]
      exact ⟨hr, hc⟩
  · obtain ⟨hrec, hlen, hnodup, haw⟩ := batchOk_iff.mp (h.batch k)
    have hn : ∀ x ∈ (t.callEndActions c r).batch, x ∈ t.batch ∧ x.call ≠ c := by
      rw [callEndActions_batch, endRecord_batch]
      split
      · next hn => exact fun x hx => ⟨hx, notBatched_of_not_awaits (h.batch k) (not_awaits_of_none hn) x hx⟩
      · exact fun x hx => by simpa using hx
    have hb : (t.callEndActions c r).batch.Sublist t.batch := by
      rw [callEndActions_batch, endRecord_batch]
      split
      · exact .refl _
      · exact List.filter_sublist
    refine batchOk_iff.mpr ⟨fun d => ?_, hb.length_le.trans hlen, hnodup.sublist (hb.map _), fun x hx => ?_⟩
    · by_cases e : d = c
      · subst e
        rw [self]
        exact fun _ => rfl
      · rw [other e]
        exact hrec d
    · obtain ⟨hx, hxc⟩ := hn x hx
      rw [other hxc]
      exact haw x hx
  · by_cases e : d = c
    · subst e
      rw [self]
      exact levelsOk_iff.mpr ⟨nofun, setInRange_nil⟩
    · rw [other e]
      exact h.levels k d
  · by_cases e : d = c
    · subst e
      rw [self]
      exact neighboursOk_of_clear rfl rfl rfl
    · rw [other e]
      exact h.sets k l d

/-! ### Drains and withdrawals (Chapter 8) -/

theorem handBack {i : SlotNo} {r : OrderResult} (h : KeepsCalls s t) : KeepsCalls s (t.handBack i r) :=
  h.same (handBack_callTables t i r)

theorem send {b : BaseNo} {m : Downlink} (h : KeepsCalls s t) : KeepsCalls s (t.send b m) :=
  h.same (send_callTables t b m)

theorem bump {k : GlobalCounter} (h : KeepsCalls s t) : KeepsCalls s (t.bump k) := h.same rfl

theorem removeFromSets {b : BaseNo} (h : KeepsCalls s t) : KeepsCalls s (t.removeFromSets b) :=
  h.foldl (fun k => (k.updCall (.filterSet _ _) id).markCall) _

theorem targetLostNotice {b : BaseNo} (h : KeepsCalls s t) : KeepsCalls s (t.targetLostNotice b) :=
  h.foldl attemptEnd _

theorem drainStartNotice {b : BaseNo} (h : KeepsCalls s t) : KeepsCalls s (t.drainStartNotice b) :=
  h.foldl attemptEnd _

theorem withdrawTail {b : BaseNo} (h : KeepsCalls s t) : KeepsCalls s (t.withdrawTail b) :=
  h.targetLostNotice.removeFromSets.same rfl

theorem endDrain {b : BaseNo} {d : DrainRecord} {v : Verdict} {n : Nat} (h : KeepsCalls s t) :
    KeepsCalls s (t.endDrain b d v n) :=
  (h.same (u := t.setDrain b none) rfl).handBack

theorem drainComplete {b : BaseNo} {d : DrainRecord} {n : Nat} (h : KeepsCalls s t) :
    KeepsCalls s (t.drainComplete b d n) :=
  (h.same (u := t.enterStopped b (attnLink ||| attnDrained)) rfl).withdrawTail.endDrain

theorem drainCheck {b : BaseNo} (h : KeepsCalls s t) : KeepsCalls s (t.drainCheck b) := by
  unfold State.drainCheck
  split
  · split
    · exact h.drainComplete
    · exact h
  · exact h

theorem setDrain {b : BaseNo} {d : Option DrainRecord} (h : KeepsCalls s t) : KeepsCalls s (t.setDrain b d) :=
  h.same rfl

theorem callLeftNotice {b : BaseNo} (h : KeepsCalls s t) : KeepsCalls s (t.callLeftNotice b) := by
  unfold State.callLeftNotice
  split
  · split
    · exact h.setDrain.drainCheck
    · exact h
  · exact h

theorem callEndNotice {b : BaseNo} (h : KeepsCalls s t) : KeepsCalls s (t.callEndNotice b) := by
  unfold State.callEndNotice
  split
  · split
    · exact h.setDrain.drainCheck
    · exact h.setDrain
  · exact h

theorem endCall {r : EndReason} (h : KeepsCalls s t) : KeepsCalls s (t.endCall c r) := by
  unfold State.endCall
  split
  · next hl =>
    dsimp only
    split
    · exact (h.callEndActions hl).callEndNotice
    · exact h.callEndActions hl
  · exact h

theorem endServed {b : BaseNo} {r : EndReason} (h : KeepsCalls s t) : KeepsCalls s (t.endServed b r) :=
  h.foldl endCall _

theorem withdraw {b : BaseNo} {r : EndReason} (h : KeepsCalls s t) : KeepsCalls s (t.withdraw b r) :=
  h.endServed.withdrawTail

theorem failDrain {b : BaseNo} {f : FailCode} (h : KeepsCalls s t) : KeepsCalls s (t.failDrain b f) := by
  unfold State.failDrain
  split
  · exact h.endDrain
  · exact h

theorem clearDrain {b : BaseNo} {d : DrainRecord} (h : KeepsCalls s t) : KeepsCalls s (t.clearDrain b d) := by
  have hw : KeepsCalls s ((t.setDrain b (some { d with phase := .clearing })).endServed b .drained) :=
    h.setDrain.endServed
  unfold State.clearDrain
  dsimp only
  split
  · exact hw.drainComplete
  · exact hw

theorem takeDrainLimit {b : BaseNo} (h : KeepsCalls s t) : KeepsCalls s (t.takeDrainLimit b) := by
  unfold State.takeDrainLimit
  split
  · split
    · exact h.clearDrain
    · exact h
  · exact h

theorem offerDrainMove (h : KeepsCalls s t) : KeepsCalls s (t.offerDrainMove c) := by
  unfold State.offerDrainMove
  split
  · next hc =>
    split
    · exact h
    · split
      · exact h.setDrain.startHandover_of_connected hc
      · exact h
  · exact h

theorem startDrain {i : SlotNo} {b : BaseNo} {n : Nat} (h : KeepsCalls s t) : KeepsCalls s (t.startDrain i b n) :=
  KeepsCalls.drainCheck <| KeepsCalls.foldl offerDrainMove
    (KeepsCalls.drainStartNotice (h.same (u := (t.setDrain b (some (t.newDrain i n))).changeService b .draining) rfl)) _

theorem takeDrainBase {i : SlotNo} {b : BaseNo} {n : Nat} (h : KeepsCalls s t) :
    KeepsCalls s (t.takeDrainBase i b n) := by
  unfold State.takeDrainBase
  split
  · exact h.handBack
  · exact h.startDrain
  all_goals exact h.handBack

theorem takeStopBase {i : SlotNo} {b : BaseNo} (h : KeepsCalls s t) : KeepsCalls s (t.takeStopBase i b) :=
  (h.failDrain.same (u := (t.failDrain b .stopped).enterStopped b _) rfl).withdraw.handBack

theorem takeStartBase {i : SlotNo} {b : BaseNo} (h : KeepsCalls s t) : KeepsCalls s (t.takeStartBase i b) := by
  unfold State.takeStartBase
  split
  · exact (h.same (u := t.changeService b .absent) rfl).handBack
  · exact h.handBack

/-! ### Links (Chapter 1) -/

theorem baseLost {b : BaseNo} (h : KeepsCalls s t) : KeepsCalls s (t.baseLost b) :=
  (h.failDrain.same (u := (t.failDrain b .baseLost).loseLink b) rfl).withdraw

theorem transmitHead {b : BaseNo} (h : KeepsCalls s t) : KeepsCalls s (t.transmitHead b) := by
  rcases transmitHead_cases t b with e | ⟨m, e⟩ <;> rw [e]
  · exact h
  · exact h.same rfl

theorem setHead {b : BaseNo} {x : Head} (h : KeepsCalls s t) : KeepsCalls s (t.setHead b x) := h.same rfl

theorem bumpBase {b : BaseNo} {k : BaseCounter} (h : KeepsCalls s t) : KeepsCalls s (t.bumpBase b k) := h.same rfl

theorem updLink {b : BaseNo} {f : Link → Link} (h : KeepsCalls s t) : KeepsCalls s (t.updLink b f) := h.same rfl

theorem dropHead {b : BaseNo} (h : KeepsCalls s t) : KeepsCalls s (t.dropHead b) := h.updLink.updLink.transmitHead

theorem restartSilence {b : BaseNo} (h : KeepsCalls s t) : KeepsCalls s (t.restartSilence b) := by
  unfold State.restartSilence
  split
  · exact h.updLink
  · exact h

theorem retryAction {b : BaseNo} (h : KeepsCalls s t) : KeepsCalls s (t.retryAction b) := by
  unfold State.retryAction
  split
  · exact h.bumpBase.dropHead
  · exact h.baseLost

theorem deferHead {b : BaseNo} {x : Head} (h : KeepsCalls s t) : KeepsCalls s (t.deferHead b x) := by
  unfold State.deferHead
  dsimp only
  split
  · exact h.bumpBase.setHead
  · exact h.bumpBase.retryAction

theorem expireHead {b : BaseNo} {x : Head} (h : KeepsCalls s t) : KeepsCalls s (t.expireHead b x) := by
  unfold State.expireHead
  dsimp only
  split
  · exact h.bumpBase.setHead.transmitHead
  · exact h.bumpBase.retryAction

theorem takeHello {b : BaseNo} {n : Nat} (h : KeepsCalls s t) : KeepsCalls s (t.takeHello b n) := by
  unfold State.takeHello
  split
  · split
    · exact h.updLink.send
    · exact h.same rfl
  · exact h.restartSilence
  · exact h.baseLost
  · exact h.baseLost
  · exact h.bump

theorem takeReadyMessage {b : BaseNo} (h : KeepsCalls s t) : KeepsCalls s (t.takeReadyMessage b) := by
  unfold State.takeReadyMessage
  split
  · exact h.same rfl
  · exact h.bump

theorem takeAccept {b : BaseNo} (h : KeepsCalls s t) : KeepsCalls s (t.takeAccept b) := by
  unfold State.takeAccept
  split
  · exact h.dropHead
  · exact h

theorem takeDefer {b : BaseNo} (h : KeepsCalls s t) : KeepsCalls s (t.takeDefer b) := by
  unfold State.takeDefer
  split
  · exact h.deferHead
  · exact h

theorem takeJoinTimer {b : BaseNo} (h : KeepsCalls s t) : KeepsCalls s (t.takeJoinTimer b) := by
  unfold State.takeJoinTimer
  split
  · exact h.same rfl
  · exact h

theorem takeSilenceTimer {b : BaseNo} (h : KeepsCalls s t) : KeepsCalls s (t.takeSilenceTimer b) := by
  unfold State.takeSilenceTimer
  split
  · exact h.baseLost
  · exact h

theorem takeRetransmit {b : BaseNo} (h : KeepsCalls s t) : KeepsCalls s (t.takeRetransmit b) := by
  unfold State.takeRetransmit
  split
  · split
    · exact h.setHead.transmitHead
    · exact h
  · exact h

theorem takeAnswerTimeout {b : BaseNo} (h : KeepsCalls s t) : KeepsCalls s (t.takeAnswerTimeout b) := by
  unfold State.takeAnswerTimeout
  split
  · split
    · exact h.expireHead
    · exact h
  · exact h

end KeepsCalls

end Sys2Proof.Machine
end

section
/-! SUPPORT. The laws of the calls over the events of the roster, the calls, the levels and the handovers, one lemma
per event (R58, R69, R75, R87, R119). -/

namespace Sys2Proof.Machine

open Sys2Proof

variable {s t u : State} {c : CallNo}

/-! ### Tables left alone -/

theorem endPage_callTables (s : State) (p : PageRecord) (v : Verdict) (d z : Nat) :
    (s.endPage p v d z).callTables = s.callTables := by
  have h : ∀ l, ((s.handBack p.slot l).setPages (s.pages.filter fun q => q.handset != p.handset)).callTables =
      s.callTables := fun l => handBack_callTables s p.slot l
  unfold State.endPage
  dsimp only
  split <;> exact h _

theorem pageCallNotice_callTables (s : State) (i : HandsetNo) (b : BaseNo) :
    (s.pageCallNotice i b).callTables = s.callTables := by
  unfold State.pageCallNotice
  split
  · exact endPage_callTables s _ _ _ _
  · rfl

theorem countIgnored_callTables (s : State) (n : Nat) : (s.countIgnored n).callTables = s.callTables := by
  induction n generalizing s with
  | zero => rfl
  | succ n ih => exact (ih _).trans rfl

theorem pageAppends_callTables (m : Downlink) (l : List BaseNo) (a : State × PageRecord) :
    (l.foldl (pageAppend m) a).1.callTables = a.1.callTables := by
  induction l generalizing a with
  | nil => rfl
  | cons b r ih =>
    refine (ih _).trans ?_
    unfold pageAppend
    split
    · next e => exact append_callTables_of_eq _ e
    · next v hv =>
      have e : v.callTables = a.1.callTables := append_callTables_of_eq _ hv
      exact e

namespace KeepsCalls

/-! ### The roster (Chapter 2) -/

/-- A change of a roster entry that keeps its handset and its call. -/
theorem updEntry {x : HandsetNo} {f : RosterEntry → RosterEntry} (h : KeepsCalls s t)
    (hr : ∀ e, (f e).registered = e.registered := by intro _; rfl) (hc : ∀ e, (f e).call = e.call := by intro _; rfl) :
    KeepsCalls s (t.updEntry x f) :=
  h.offCalls rfl rfl fun _ d _ hb => by
    rw [State.boundTo, updEntry_get]
    split
    · next e =>
      subst e
      rw [hr, hc]
      exact hb
    · exact hb

/-- A roster entry that no call in progress is bound to is written anew. -/
theorem newEntry {x : HandsetNo} {f : RosterEntry → RosterEntry} (h : KeepsCalls s t)
    (hx : t.callsOk → ∀ d : CallNo, callLive t.calls[d].state = true → t.calls[d].handset ≠ x) :
    KeepsCalls s (t.updEntry x f) :=
  h.offCalls rfl rfl fun k d hd hb => by
    rw [State.boundTo, updEntry_get, if_neg (hx k d hd).symm]
    exact hb

theorem markHandset {x : HandsetNo} {v : Byte} (h : KeepsCalls s t) : KeepsCalls s (t.markHandset x v) := h.same rfl

theorem locate {x : HandsetNo} {b : BaseNo} (h : KeepsCalls s t) : KeepsCalls s (t.locate x b) := by
  unfold State.locate
  split
  · exact h.updEntry.markHandset
  · exact h

theorem heard {x : HandsetNo} (h : KeepsCalls s t) : KeepsCalls s (t.heard x) := by
  unfold State.heard
  split
  · exact h.updEntry.markHandset
  · exact h

theorem renew {x : HandsetNo} (h : KeepsCalls s t) : KeepsCalls s (t.renew x) := h.updEntry.markHandset

theorem append_eq {b : BaseNo} {m : Downlink} {v : Bool} (h : KeepsCalls s t) (e : t.append b m = (u, v)) :
    KeepsCalls s u := h.same (append_callTables_of_eq t e)

theorem endCallOf {x : HandsetNo} {r : EndReason} (h : KeepsCalls s t) : KeepsCalls s (t.endCallOf x r) := by
  unfold State.endCallOf
  split
  · exact h.endCall
  · exact h

end KeepsCalls

/-- A call unbind gives no handset another call. -/
theorem call_of_unbindCall {h x : HandsetNo} (hc : (s.unbindCall h).roster[x].call = some c) :
    s.roster[x].call = some c := by
  by_cases e : x = h
  · subst e
    cases hr : s.roster[x].registered with
    | false => rwa [unbindCall_of_free hr] at hc
    | true =>
      cases hk : s.roster[x].call with
      | none => rwa [unbindCall_of_idle hk, hk] at hc
      | some d =>
        rw [unbindCall_of_call hr hk, changeEntry_self] at hc
        cases hc
  · rwa [unbindCall_other e] at hc

/-- The call that a handset still names after its call has ended is not in progress. -/
theorem endCallOf_over {x : HandsetNo} {r : EndReason} (h : (s.endCallOf x r).roster[x].call = some c) :
    callLive (s.endCallOf x r).calls[c].state = false := by
  cases hc : s.roster[x].call with
  | none =>
    rw [endCallOf_of_idle hc, hc] at h
    cases h
  | some d =>
    rw [endCallOf_of_call hc] at h ⊢
    cases hl : callLive s.calls[d].state with
    | false =>
      rw [endCall_of_not_live hl, hc] at h
      rw [endCall_of_not_live hl]
      cases h
      exact hl
    | true =>
      rw [(endCall_offRoster hl r).roster] at h
      have hd := call_of_unbindCall h
      rw [hc] at hd
      cases hd
      obtain ⟨hs, -⟩ := endCall_callOver hl r
      rw [hs]
      rfl

namespace KeepsCalls

theorem pageFreedNotice {x : HandsetNo} (h : KeepsCalls s t) : KeepsCalls s (t.pageFreedNotice x) := by
  unfold State.pageFreedNotice
  split
  · exact h.same (endPage_callTables t _ _ _ _)
  · exact h

/-- A handset is freed once its call has ended (R36, R38, R39). -/
theorem freeEntry {x : HandsetNo} {r : EndReason} (h : KeepsCalls s t) : KeepsCalls s (t.freeEntry x r) := by
  have hp : ((t.endCallOf x r).pageFreedNotice x).callTables = (t.endCallOf x r).callTables := by
    unfold State.pageFreedNotice
    split
    · exact endPage_callTables _ _ _ _ _
    · rfl
  obtain ⟨ec, -, er⟩ := callTables_fields hp
  refine (h.endCallOf.pageFreedNotice.newEntry fun k d hd hx => ?_).markHandset
  have hb := (callsOk_iff.mp k d hd).2
  rw [hx, er] at hb
  rw [ec, endCallOf_over hb] at hd
  cases hd

theorem reattach {b : BaseNo} {x : HandsetNo} {i : Identity} (h : KeepsCalls s t) :
    KeepsCalls s (t.reattach b x i) := by
  have he : KeepsCalls s (t.reattachEntry b x) := h.endCallOf.locate.updEntry.renew
  unfold State.reattach
  split
  · next e => exact (he.append_eq e).bump
  · next e => exact (he.append_eq e).bump

theorem answerAgain {b : BaseNo} {i : Identity} (h : KeepsCalls s t) : KeepsCalls s (t.answerAgain b i) := h.send.bump

theorem setAttaches {l : List PendingAttach} {k : Option Lookup} (h : KeepsCalls s t) :
    KeepsCalls s (t.setAttaches l k) := h.same rfl

theorem takeAttach {b : BaseNo} {i : Identity} (h : KeepsCalls s t) : KeepsCalls s (t.takeAttach b i) := by
  unfold State.takeAttach
  split
  · exact h.reattach
  · split
    · exact h.setAttaches
    · split
      · exact h.answerAgain
      · exact h.setAttaches

theorem takeRefresh {b : BaseNo} {x : HandsetNo} {v : BitVec 16} (h : KeepsCalls s t) :
    KeepsCalls s (t.takeRefresh b x v) := by
  have he : KeepsCalls s (((t.updEntry x fun e => { e with heardFrame := t.now }).renew x).markHandset x 0) :=
    h.updEntry.renew.markHandset
  unfold State.takeRefresh State.refreshEntry
  split
  · dsimp only
    split
    · exact he
    · exact he.locate
  · exact h.answerAgain

theorem takeDetach {x : HandsetNo} (h : KeepsCalls s t) : KeepsCalls s (t.takeDetach x) := by
  unfold State.takeDetach
  split
  · exact h.freeEntry.bump
  · exact h.bump

theorem takeLifetime {x : HandsetNo} (h : KeepsCalls s t) : KeepsCalls s (t.takeLifetime x) := by
  unfold State.takeLifetime
  split
  · exact h.freeEntry.bump
  · exact h

theorem takeDeregister {i : SlotNo} {x : HandsetNo} (h : KeepsCalls s t) : KeepsCalls s (t.takeDeregister i x) := by
  unfold State.takeDeregister
  split
  · exact h.send.freeEntry.bump.handBack
  · exact h.handBack

/-- A FREE handset number is registered: no call was bound to it (R30). -/
theorem registerHandset {r : PendingAttach} {x : HandsetNo} {p : Nat} {e : Subscription} (h : KeepsCalls s t)
    (hx : t.roster[x].registered = false) : KeepsCalls s (t.registerHandset r x p e) := by
  unfold State.registerHandset
  split
  · next v hv =>
    refine KeepsCalls.bump (KeepsCalls.markHandset ((h.append_eq hv).newEntry fun k d hd he => ?_))
    have hb := (callsOk_iff.mp k d hd).1
    rw [he, (callTables_fields (append_callTables_of_eq t hv)).2.2, hx] at hb
    cases hb
  · next e => exact (h.append_eq e).bump

theorem rejectAttach {r : PendingAttach} {v : AttachVerdict} (h : KeepsCalls s t) : KeepsCalls s (t.rejectAttach r v) :=
  h.send.bump

theorem answerLookup {r : PendingAttach} {f : Option (Nat × Subscription)} (h : KeepsCalls s t) :
    KeepsCalls s (t.answerLookup r f) := by
  unfold State.answerLookup
  split
  · exact h.rejectAttach
  · split
    · exact h.rejectAttach
    · split
      · exact h.rejectAttach
      · split
        · exact h.rejectAttach
        · next hx => exact h.registerHandset (by simpa using (lowestWhere_some hx).1)

theorem endLookup {f : Option (Nat × Subscription)} (h : KeepsCalls s t) : KeepsCalls s (t.endLookup f) := by
  unfold State.endLookup
  split
  · exact h.setAttaches
  · refine setAttaches ?_
    split
    · exact h.setAttaches.answerLookup
    · exact h.setAttaches.bump

theorem searchBounds {x y : Nat} (h : KeepsCalls s t) : KeepsCalls s (t.searchBounds x y) := h.setAttaches

theorem takeSubCount {n : Nat} (h : KeepsCalls s t) : KeepsCalls s (t.takeSubCount n) := by
  unfold State.takeSubCount
  dsimp only
  split
  · exact h.endLookup
  · exact h.searchBounds

theorem takeSubEntry {i : Identity} {x y : Nat} {e : Subscription} (h : KeepsCalls s t) :
    KeepsCalls s (t.takeSubEntry i x y e) := by
  unfold State.takeSubEntry
  dsimp only
  split
  · exact h.endLookup
  · split
    · split
      · exact h.endLookup
      · exact h.searchBounds
    · split
      · exact h.endLookup
      · exact h.searchBounds

/-! ### Pages (Chapter 3) -/

theorem endPage {p : PageRecord} {v : Verdict} {d z : Nat} (h : KeepsCalls s t) : KeepsCalls s (t.endPage p v d z) :=
  h.same (endPage_callTables t p v d z)

theorem setPages {p : List PageRecord} (h : KeepsCalls s t) : KeepsCalls s (t.setPages p) := h.same rfl

theorem makeRound {p : PageRecord} {z : ZoneNo} (h : KeepsCalls s t) : KeepsCalls s (t.makeRound p z) :=
  (h.same (pageAppends_callTables _ _ (t, p))).setPages

theorem takePage {i : SlotNo} {x : HandsetNo} (h : KeepsCalls s t) : KeepsCalls s (t.takePage i x) := by
  unfold State.takePage
  split
  · exact h.handBack
  · unfold State.startPage
    split
    · exact h
    · exact h.setPages.makeRound

theorem expireRound {p : PageRecord} (h : KeepsCalls s t) : KeepsCalls s (t.expireRound p) := by
  unfold State.expireRound
  split
  · split
    · exact h.makeRound
    · split
      · exact h.makeRound
      · exact h.endPage
  · exact h.endPage

theorem takeRoundTimer {x : HandsetNo} (h : KeepsCalls s t) : KeepsCalls s (t.takeRoundTimer x) := by
  unfold State.takeRoundTimer
  split
  · split
    · exact h.expireRound
    · exact h
  · exact h

theorem pageAnswered {b : BaseNo} {x : HandsetNo} (h : KeepsCalls s t) : KeepsCalls s (t.pageAnswered b x) := by
  unfold State.pageAnswered
  split
  · split
    · exact h.locate.renew.endPage
    · exact h.locate
  · exact h.bump

/-! ### Calls (Chapter 4) -/

/-- A FREE entry takes a call for a REGISTERED handset without one (R62). -/
theorem admitCall {b : BaseNo} {x : HandsetNo} {k : ChanNo} {paged : Bool} (h : KeepsCalls s t)
    (e : t.callTables = s.callTables) (hr : t.roster[x].registered = true) (hn : t.roster[x].call = none)
    (hf : t.calls[c].state = .free) : KeepsCalls s (t.admitCall b x k c paged) := by
  obtain ⟨-, hcalls, hx, hother, -⟩ := admitCall_tables (s := t) (b := b) (k := k) (c := c) paged hr hn
  have hb : (t.admitCall b x k c paged).batch = t.batch := by rw [admitCall_eq paged hr hn]; rfl
  have self : (t.admitCall b x k c paged).calls[c] = admittedCall t.calls[c] b x k paged t.now := by
    rw [hcalls, callEntered_self]
  have other : ∀ {d : CallNo}, d ≠ c → (t.admitCall b x k c paged).calls[d] = t.calls[d] := fun hd => by
    rw [hcalls, callEntered_other hd]
  have hm : t.calls[c].state ≠ .moving := by rw [hf]; decide
  refine ⟨fun l => callsOk_iff.mpr fun d hd => ?_, fun l => ?_, fun l d => ?_, fun l m d => ?_⟩
  · by_cases ed : d = c
    · subst ed
      rw [self, State.boundTo, admittedCall, hx]
      exact ⟨hr, rfl⟩
    · rw [other ed] at hd ⊢
      have hk := callsOk_iff.mp (h.bound l) d hd
      have hne : t.calls[d].handset ≠ x := fun ex => by
        have := hk.2
        rw [ex, hn] at this
        cases this
      rwa [State.boundTo, hother _ hne]
  · obtain ⟨hrec, hlen, hnodup, haw⟩ := batchOk_iff.mp (h.batch l)
    have hno : t.notBatched c := notBatched_of_not_awaits (h.batch l) (not_awaits_of_none (hrec c hm))
    refine batchOk_iff.mpr ⟨fun d => ?_, hb ▸ hlen, hb ▸ hnodup, fun y hy => ?_⟩
    · by_cases ed : d = c
      · subst ed
        rw [self]
        exact fun _ => hrec d hm
      · rw [other ed]
        exact hrec d
    · rw [hb] at hy
      rw [other (hno y hy)]
      exact haw y hy
  · by_cases ed : d = c
    · subst ed
      rw [self]
      exact h.levels l d
    · rw [other ed]
      exact h.levels l d
  · by_cases ed : d = c
    · subst ed
      rw [self]
      obtain ⟨hfil, hset⟩ := (h.sets l m d).1 (by rw [hf]; rfl)
      refine neighboursOk_of_clear hfil hset (Option.eq_none_iff_forall_ne_some.mpr fun r hr => hm ?_)
      have ec := (callTables_fields e).1
      rw [ec]
      exact (l.2.2.1 d r (by rw [← ec]; exact hr)).1
    · rw [other ed]
      exact h.sets l m d

theorem takeCallRequest {b : BaseNo} {x : HandsetNo} {paged : Bool} :
    KeepsCalls s (s.takeCallRequest b x paged) := by
  have e : (if s.roster[x].registered then s.pageCallNotice x b else s).callTables = s.callTables := by
    split
    · exact pageCallNotice_callTables s x b
    · rfl
  unfold State.takeCallRequest
  dsimp only
  generalize (if s.roster[x].registered then s.pageCallNotice x b else s) = t at e ⊢
  have ht : KeepsCalls s t := (refl s).same e
  split
  · exact ht.send.bumpBase
  · next hn =>
    obtain ⟨-, hreg, hcall, -⟩ := callRefusal_eq_none.mp hn
    unfold State.admission
    split
    · next k d _ hd =>
      have hfree := (freeCall_some hd).1
      split
      · next v hv =>
        have ev := append_callTables_of_eq t hv
        obtain ⟨ec, -, er⟩ := callTables_fields ev
        exact (ht.append_eq hv).admitCall (ev.trans e) (by rw [er]; exact hreg) (by rw [er]; exact hcall)
          (by rw [ec]; exact hfree)
      · next hv => exact (ht.append_eq hv).bumpBase
    · exact ht

end KeepsCalls

end Sys2Proof.Machine
end

section
/-! SUPPORT. The laws of the calls over level reports, handovers and the ends of calls that bases report (R58, R69, R75,
R87, R119). -/

namespace Sys2Proof.Machine

open Sys2Proof

variable {s t u : State} {c : CallNo}

/-! ### Level reports (Chapters 5 and 6) -/

/-- A channel in use at a base belongs to a call in progress that the base serves (R56). -/
theorem served_of_channelsOk {b : BaseNo} {k : ChanNo} (hk : s.channelsOk)
    (h : s.chan b k = .held c ∨ s.chan b k = .leaving c) : callLive s.calls[c].state = true ∧ s.calls[c].base = b := by
  have ho := (hk.1 b k).1
  unfold State.channelOk at ho
  rcases h with h | h <;> rw [h] at ho <;> exact ⟨ho.1, ho.2.1⟩

namespace KeepsCalls

/-- A report of a call that its base serves filters the levels and keeps the set in order (R82 to R87). -/
theorem filterReport {b : BaseNo} {l : LevelCode} {p : List (ReportedBase × LevelCode)}
    (hb : s.channelsOk → callLive s.calls[c].state = true ∧ s.calls[c].base = b) :
    KeepsCalls s (s.filterReport c b l p) := by
  have hi : KeepsCalls s (s.countIgnored (s.takePairs b (s.zoneAt b).shift s.calls[c].neighbours p).ignored) :=
    (refl s).same (countIgnored_callTables s _)
  have hc : (s.countIgnored (s.takePairs b (s.zoneAt b).shift s.calls[c].neighbours p).ignored).calls = s.calls :=
    (callTables_fields (countIgnored_callTables s _)).1
  refine KeepsCalls.markCall (hi.updCall (f := fun e => { e with
    filter := some (servingSample (s.zoneAt b).shift e.filter (sampleTarget l s.plan.offsets[b]))
    neighbours := rankNeighbours (ageNeighbours (s.zoneAt b).staleLimit
      (s.takePairs b (s.zoneAt b).shift s.calls[c].neighbours p).named
      (s.takePairs b (s.zoneAt b).shift s.calls[c].neighbours p).set) }) ?_ id)
  rw [hc]
  refine ⟨fun hl => ⟨hl, rfl⟩, id, fun k => ?_, fun k n => ?_⟩
  · obtain ⟨hf, hs⟩ := levelsOk_iff.mp k
    refine levelsOk_iff.mpr ⟨fun f e => ?_, setInRange_of_perm
      (ageNeighbours_inRange (takePairs_inRange s b _ hs p) _ _) (rankNeighbours_perm _)⟩
    cases e
    exact servingSample_le hf (sampleTarget_le _ _)
  · obtain ⟨hl, hbase⟩ := hb k
    obtain ⟨-, ha, -, ht⟩ := neighboursOk_iff.mp n
    rw [hbase] at ha
    have hset := ageNeighbours_apart (takePairs_apart s b (s.zoneAt b).shift ha p) (s.zoneAt b).staleLimit
      (s.takePairs b (s.zoneAt b).shift s.calls[c].neighbours p).named
    refine neighboursOk_iff.mpr ⟨fun hd => absurd (hl.symm.trans hd) (by decide), ?_, ?_, ht⟩
    · rw [hbase]
      exact setApart_of_perm hset (rankNeighbours_perm _)
    · exact rankNeighbours_pairwise hset.1

theorem leadAfter_le (q : Bool) (n : Nat) : leadAfter q n ≤ Config.leadMax := by
  unfold leadAfter
  split
  · exact Nat.min_le_right _ _
  · exact Nat.zero_le _

theorem leadStep {z : ZoneParams} {f : Nat} (h : KeepsCalls s t) : KeepsCalls s (t.leadStep c z f) := by
  unfold State.leadStep
  exact h.updCall (.mapLeads _ (fun _ => rfl) (fun _ => rfl) fun _ _ => leadAfter_le _ _) id

theorem watchStep {z : ZoneParams} {f e : Nat} (h : KeepsCalls s t) : KeepsCalls s (t.watchStep c z f e) :=
  h.updRest.markCall

theorem decisionTrigger {z : ZoneParams} (h : KeepsCalls s t) : KeepsCalls s (t.decisionTrigger c z) := by
  unfold State.decisionTrigger
  dsimp only
  split
  · next hc =>
    obtain ⟨hs, -⟩ := hc
    split
    · exact h
    · exact h.startHandover_of_connected hs
  · exact h

theorem handOff {e : Nat} (h : KeepsCalls s t) : KeepsCalls s (t.handOff c e) := by
  unfold State.handOff State.triggerStep
  split
  · have hk : ∀ z f, KeepsCalls s ((t.watchStep c z f e).leadStep c z f) := fun z f => h.watchStep.leadStep
    dsimp only
    split
    · exact (hk _ _).decisionTrigger
    · exact (hk _ _).offerDrainMove
    all_goals exact hk _ _
  · exact h

theorem takeLevelReport {b : BaseNo} {k : ChanNo} {l : LevelCode} {e : Nat} {p : List (ReportedBase × LevelCode)} :
    KeepsCalls s (s.takeLevelReport b k l e p) := by
  have hr : ∀ c, (s.chan b k = .held c ∨ s.chan b k = .leaving c) → KeepsCalls s (s.takeReport c b l e p) := fun c h =>
    (filterReport fun hk => served_of_channelsOk hk h).handOff.heard
  unfold State.takeLevelReport
  split
  · split
    · next h => exact hr _ (.inl h)
    · next h => exact hr _ (.inr h)
    all_goals exact (refl s).bump
  · exact (refl s).bump

/-! ### The end of a move (7.5) -/

end KeepsCalls

/-- A set whose leads are made 0 and that is ranked anew (R89 step 3). -/
theorem setInRange_restart {l : List Neighbour} (h : setInRange l) :
    setInRange (rankNeighbours (l.map fun n => { n with lead := 0 })) :=
  setInRange_of_perm (setInRange_map (f := fun n => { n with lead := 0 }) h fun n hn =>
    ⟨(h.2 n hn).1, Nat.zero_le _⟩) (rankNeighbours_perm _)

theorem setApart_restart {b : BaseNo} {l : List Neighbour} (h : setApart b l) :
    setApart b (rankNeighbours (l.map fun n => { n with lead := 0 })) ∧
      (rankNeighbours (l.map fun n => { n with lead := 0 })).Pairwise fun m n => ranksBefore m n = true := by
  have hm : setApart b (l.map fun n => { n with lead := 0 }) := setApart_map h fun _ => rfl
  exact ⟨setApart_of_perm hm (rankNeighbours_perm _), rankNeighbours_pairwise hm.1⟩

/-- The set after a serving change is within its limits (R89). -/
theorem changedSet_inRange {a b : BaseNo} (h : s.calls[c].levelsOk) : setInRange (s.changedSet c a b) := by
  obtain ⟨hf, hs⟩ := levelsOk_iff.mp h
  have hrest : setInRange (withoutNeighbour b s.calls[c].neighbours) := setInRange_filter hs _
  refine setInRange_restart ?_
  split
  · next f e =>
    split
    · exact insertNeighbour_inRange hrest a (hf f e)
    · exact hrest
  · exact hrest

/-- The set after a serving change to another base is in order, and apart from the new base (R87, R89). -/
theorem changedSet_apart {b : BaseNo} (h : s.calls[c].neighboursOk) (hb : s.calls[c].base ≠ b) :
    setApart b (s.changedSet c s.calls[c].base b) ∧
      (s.changedSet c s.calls[c].base b).Pairwise fun m n => ranksBefore m n = true := by
  obtain ⟨-, ⟨hd, ha⟩, -⟩ := neighboursOk_iff.mp h
  have hrest : setApart b (withoutNeighbour b s.calls[c].neighbours) :=
    ⟨hd.sublist (List.filter_sublist.map _), fun n hn => by simpa using (List.mem_filter.mp hn).2⟩
  refine setApart_restart ?_
  split
  · split
    · exact insertNeighbour_apart hrest hb (fun n hn => ha n (List.mem_filter.mp hn).1) _
    · exact hrest
  · exact hrest

/-! ### The end of a move (7.5) -/

/-- The channels of call `c` stand as its switch to position `j` of base `b` left them (R70). -/
def State.switched (s : State) (c : CallNo) (b : BaseNo) (j : ChanNo) (g : AttemptTag) : Prop :=
  s.chan s.calls[c].base s.calls[c].channel = .leaving c ∧ s.chan b j = .reserved c g

/-- An entry served at position `j` of base `b` after one handover more (R70). -/
def Call.movedTo (b : BaseNo) (j : ChanNo) (e : Call) : Call :=
  { e with base := b, channel := j, handoverCount := succTo255 e.handoverCount }

/-- An entry after the serving change from base `a` to base `b`, with its watch and timers restarted (R89, R103). -/
def State.resettled (s : State) (c : CallNo) (a b : BaseNo) (e : Call) : Call :=
  { e with
    filter := levelOf e.neighbours b
    neighbours := s.changedSet c a b
    watch := .normal
    watchCount := 0
    hold := none
    settle := if 0 < (s.zoneAt b).settleFrames then some (s.after (s.zoneAt b).settleFrames) else none }

/-- The completion of a move up to the location of the handset (R121 steps 1 to 4). -/
def State.settled (s : State) (c : CallNo) (b : BaseNo) (j : ChanNo) (g : AttemptTag) : State :=
  ((s.completeMove c b j g).servingChange c s.calls[c].base b).settleCall c b

/-- The completion of a move but for the answer of its FORCE MOVE (R121 steps 1 to 8). -/
def State.handedOver (s : State) (c : CallNo) (r : Handover) (j : ChanNo) : State :=
  (((((s.settled c r.target j r.tag).locate s.calls[c].handset r.target).removeRecord c).markCall c attnMoved).bumpBase
    r.target .handoversIn).bumpBase s.calls[c].base .handoversOut

theorem completeHandover_eq (s : State) (c : CallNo) (r : Handover) (j : ChanNo) :
    s.completeHandover c r j =
      (s.handedOver c r j).answerMove r.slot (moveResult (s.handedOver c r j).calls[c] r.tag) := rfl

theorem completeMove_of_switched {b : BaseNo} {j : ChanNo} {g : AttemptTag} (h : s.switched c b j g) :
    s.completeMove c b j g =
      (((s.setChan s.calls[c].base s.calls[c].channel .free).setChan b j (.held c)).updCall c
        (Call.movedTo b j)).markCall c 0 := if_pos h

theorem completeMove_of_not {b : BaseNo} {j : ChanNo} {g : AttemptTag} (h : ¬s.switched c b j g) :
    s.completeMove c b j g = s := if_neg h

/-- The serving change and the restart of the timers are one change of the entry (R89, R103). -/
theorem settleCall_servingChange (s : State) (c : CallNo) (a b : BaseNo) :
    (s.servingChange c a b).settleCall c b = (s.updCall c (s.resettled c a b)).markCall c 0 := by
  have e : (s.servingChange c a b).settleCall c b =
      ((s.updCall c fun e => { e with
        filter := levelOf e.neighbours b, neighbours := s.changedSet c a b }).updCall c fun e => { e with
          watch := .normal, watchCount := 0, hold := none
          settle := if 0 < (s.zoneAt b).settleFrames then some (s.after (s.zoneAt b).settleFrames) else none }).markCall
        c 0 := rfl
  rw [e, updCall_updCall]
  rfl

theorem changedSet_congr {a b : BaseNo} (hn : t.calls[c].neighbours = s.calls[c].neighbours)
    (hf : t.calls[c].filter = s.calls[c].filter) (hs : t.service a = s.service a) :
    t.changedSet c a b = s.changedSet c a b := by
  rw [State.changedSet, State.changedSet, hn, hf, hs]

/-- The state with the channels of a completed move: the old one FREE, the target's HELD (R70). -/
def State.moveChans (s : State) (c : CallNo) (b : BaseNo) (j : ChanNo) : State :=
  (s.setChan s.calls[c].base s.calls[c].channel .free).setChan b j (.held c)

/-- A move that completes changes two channels and one entry (R121). -/
theorem settled_of_switched {b : BaseNo} {j : ChanNo} {g : AttemptTag} (h : s.switched c b j g) :
    s.settled c b j g =
      (((s.moveChans c b j).updCall c fun e => s.resettled c s.calls[c].base b (e.movedTo b j)).markCall c 0).markCall
        c 0 := by
  rw [State.settled, settleCall_servingChange, completeMove_of_switched h, ← State.moveChans]
  have hs : (((s.moveChans c b j).updCall c (Call.movedTo b j)).markCall c 0).changedSet c s.calls[c].base b =
      s.changedSet c s.calls[c].base b := by
    refine changedSet_congr ?_ ?_ rfl <;> rw [State.markCall_calls, updCall_get, if_pos rfl] <;> rfl
  have hr : (((s.moveChans c b j).updCall c (Call.movedTo b j)).markCall c 0).resettled c s.calls[c].base b =
      s.resettled c s.calls[c].base b := by
    funext x
    rw [State.resettled, State.resettled, hs]
    rfl
  rw [hr]
  have hm : ∀ (v : State) (f : Call → Call) (x : Byte), (v.markCall c x).updCall c f = (v.updCall c f).markCall c x :=
    fun _ _ _ => rfl
  rw [hm, updCall_updCall]

theorem settled_of_not {b : BaseNo} {j : ChanNo} {g : AttemptTag} (h : ¬s.switched c b j g) :
    s.settled c b j g = (s.updCall c (s.resettled c s.calls[c].base b)).markCall c 0 := by
  rw [State.settled, settleCall_servingChange, completeMove_of_not h]

/-- The law of the channel map says that a call whose record is SWITCHING stands as its switch left it (R70). -/
theorem switched_of_channelsOk {r : Handover} {j : ChanNo} (hk : s.channelsOk) (hr : s.calls[c].handover = some r)
    (hs : r.state = .switching) (hj : r.channel = some j) :
    callLive s.calls[c].state = true ∧ s.switched c r.target j r.tag := by
  obtain ⟨hchan, hlive, hrec, -⟩ := hk
  obtain ⟨hm, i, hi, hres⟩ := hrec c r hr
  have hl : callLive s.calls[c].state = true := by rw [hm]; rfl
  refine ⟨hl, (hlive c hl).resolve_left fun hh => ?_, ?_⟩
  · have ho := (hchan s.calls[c].base s.calls[c].channel).1
    unfold State.channelOk at ho
    rw [hh] at ho
    exact ho.2.2.2 r hr hs
  · rw [hj] at hi
    cases hi
    exact hres

/-- The change of the entry of a call that has moved, its record gone; under the law of the channel map it is served by
the target (R69, R87, R89). -/
theorem CallChange.resettled {e : Call} {b : BaseNo} (hs : e.state = s.calls[c].state)
    (hh : e.handset = s.calls[c].handset) (hn : e.neighbours = s.calls[c].neighbours)
    (hk : s.channelsOk → s.calls[c].neighboursOk →
      callLive s.calls[c].state = true ∧ e.base = b ∧ s.calls[c].base ≠ b) :
    CallChange s s.calls[c] (s.resettled c s.calls[c].base b e).forgetRecord where
  bound hl := ⟨hs ▸ hl, hh⟩
  record _ _ := rfl
  levels k := by
    refine levelsOk_iff.mpr ⟨fun f hf => ?_, changedSet_inRange k⟩
    exact levelOf_le (hn ▸ (levelsOk_iff.mp k).2) hf
  sets k n := by
    obtain ⟨hl, hb, hne⟩ := hk k n
    obtain ⟨ha, ho⟩ := changedSet_apart n hne
    have hd : callLive e.state ≠ false := by
      rw [hs, hl]
      decide
    exact neighboursOk_iff.mpr ⟨fun hx => absurd hx hd, hb ▸ ha, ho, nofun⟩

namespace KeepsCallsBut

/-- The record aside, a change of the entry in place of the old record. -/
theorem of_updCall {f : Call → Call} (h : KeepsCalls s t) (hf : CallChange s t.calls[c] (f t.calls[c]).forgetRecord)
    (hb : s.batchOk → t.notBatched c) (hr : t.calls[c].recordOk → (f t.calls[c]).recordOk) :
    KeepsCallsBut s (t.updCall c f) c where
  forgot := by
    rw [State.forgetRecord, updCall_updCall]
    exact h.updCallWith hf fun k => .inl (hb k)
  record k := by
    rw [updCall_get, if_pos rfl]
    exact hr ((h.batch k).1 c)

theorem locate {x : HandsetNo} {b : BaseNo} (h : KeepsCallsBut s t c) : KeepsCallsBut s (t.locate x b) c where
  forgot := by
    have e : (t.locate x b).forgetRecord c = (t.forgetRecord c).locate x b := by
      unfold State.locate
      by_cases hr : t.roster[x].registered = true
      · rw [if_pos hr]
        exact (if_pos hr).symm
      · rw [if_neg hr]
        exact (if_neg hr).symm
    rw [e]
    exact h.forgot.locate
  record k := by
    have e : (t.locate x b).calls = t.calls := by
      unfold State.locate
      split <;> rfl
    rw [e]
    exact h.record k

end KeepsCallsBut

namespace KeepsCalls

theorem settled {r : Handover} {j : ChanNo} (hr : s.calls[c].handover = some r) (hs : r.state = .switching)
    (hj : r.channel = some j) : KeepsCallsBut s (s.settled c r.target j r.tag) c := by
  have hb : s.batchOk → s.notBatched c := fun k =>
    notBatched_of_not_awaits k (not_awaits_of_state hr (by rw [hs]; decide))
  by_cases h : s.switched c r.target j r.tag
  · have hf : CallChange s s.calls[c]
        (s.resettled c s.calls[c].base r.target (s.calls[c].movedTo r.target j)).forgetRecord :=
      .resettled rfl rfl rfl fun k n => by
        obtain ⟨-, -, -, ht⟩ := neighboursOk_iff.mp n
        exact ⟨(switched_of_channelsOk k hr hs hj).1, rfl, (ht r hr).symm⟩
    rw [settled_of_switched h]
    exact ((KeepsCallsBut.of_updCall (f := fun e => s.resettled c s.calls[c].base r.target (e.movedTo r.target j))
      ((refl s).same (u := s.moveChans c r.target j) rfl) hf hb id).markCall).markCall
  · rw [settled_of_not h]
    exact (KeepsCallsBut.of_updCall (refl s) (.resettled rfl rfl rfl fun k _ =>
      absurd (switched_of_channelsOk k hr hs hj).2 h) hb id).markCall

/-- A handover completes (R121). -/
theorem completeHandover {r : Handover} {j : ChanNo} (hr : s.calls[c].handover = some r) (hs : r.state = .switching)
    (hj : r.channel = some j) : KeepsCalls s (s.completeHandover c r j) := by
  have h : KeepsCalls s (s.handedOver c r j) := (removeRecord (settled hr hs hj).locate).markCall.bumpBase.bumpBase
  rw [completeHandover_eq]
  exact h.same (answerMove_callTables _ _ _)

/-! ### Answers, timers and orders of handovers (Chapter 7) -/

end KeepsCalls

/-- The record that an answer matches (R114). -/
theorem matching_some {b : BaseNo} {j : ChanNo} {g : AttemptTag} {r : Handover} (h : s.matching b j c g = some r) :
    s.calls[c].handover = some r ∧ r.target = b ∧ r.channel = some j ∧ r.tag = g := by
  obtain ⟨hr, hm⟩ := Option.filter_eq_some_iff.mp h
  simp only [Bool.and_eq_true, beq_iff_eq] at hm
  exact ⟨hr, hm.1.1, hm.1.2, hm.2⟩

namespace KeepsCalls

theorem takeArrived {b : BaseNo} {j : ChanNo} {g : AttemptTag} : KeepsCalls s (s.takeArrived b j c g) := by
  unfold State.takeArrived
  split
  · next r hm =>
    obtain ⟨hr, -, hj, -⟩ := matching_some hm
    split
    · next hs =>
      unfold State.arrive
      dsimp only
      split
      · exact (completeHandover hr hs hj).callLeftNotice
      · exact completeHandover hr hs hj
    · exact (refl s).bump
  · unfold State.staleRelease
    dsimp only
    split
    · exact (bump (k := .stale) (refl s)).send
    · exact (refl s).bump

theorem targetDropped {r : Handover} (h : KeepsCalls s t) : KeepsCalls s (t.targetDropped c r) := by
  unfold State.targetDropped
  split
  · exact h.endCall
  · exact h.attemptEnd

theorem takeReserveAnswer {b : BaseNo} {j : ChanNo} {g : AttemptTag} {v : ReserveVerdict} (h : KeepsCalls s t) :
    KeepsCalls s (t.takeReserveAnswer b j c g v) := by
  unfold State.takeReserveAnswer
  split
  · unfold State.takeRefused
    split
    · exact h.candidateFail
    · exact h.candidateFail
    · exact h.targetDropped
  · next r hm =>
    split
    · next hs => exact h.takeReady (matching_some hm).1 hs
    · exact h.bump
  · unfold State.staleRelease
    dsimp only
    split
    · exact (bump (k := .stale) h).send
    · exact h.bump
  · exact h.bump

theorem takeReserveTimer (h : KeepsCalls s t) : KeepsCalls s (t.takeReserveTimer c) := by
  unfold State.takeReserveTimer
  split
  · split
    · exact h.candidateFail
    · exact h
  · exact h

theorem takeArrivalTimer (h : KeepsCalls s t) : KeepsCalls s (t.takeArrivalTimer c) := by
  unfold State.takeArrivalTimer
  split
  · split
    · unfold State.noArrival
      split
      · exact h.endCall
      · exact h.attemptEnd
    · exact h
  · exact h

theorem takeSettleTimer (h : KeepsCalls s t) : KeepsCalls s (t.takeSettleTimer c) := by
  unfold State.takeSettleTimer
  split
  · exact h.updRest
  · exact h

theorem takeHoldTimer (h : KeepsCalls s t) : KeepsCalls s (t.takeHoldTimer c) := by
  unfold State.takeHoldTimer
  split
  · exact h.updRest
  · exact h

end KeepsCalls

/-- A FORCE MOVE that is not refused names a call in progress without a record (R108). -/
theorem moveRefusal_none {b : BaseNo} (h : s.moveRefusal c b = none) :
    callLive s.calls[c].state = true ∧ s.calls[c].handover = none := by
  rw [State.moveRefusal, check_passed_iff, check_passed_iff] at h
  obtain ⟨hl, hn, -⟩ := h
  simpa using And.intro hl hn

namespace KeepsCalls

theorem takeForceMove {i : SlotNo} {b : BaseNo} (h : KeepsCalls s t) : KeepsCalls s (t.takeForceMove i c b) := by
  unfold State.takeForceMove
  split
  · exact h.handBack
  · next hn =>
    obtain ⟨hl, hr⟩ := moveRefusal_none hn
    exact h.startHandover hl fun _ => hr

/-! ### Calls that bases or orders end (Chapter 4) -/

theorem takeCallEnd {b : BaseNo} {k : ChanNo} (h : KeepsCalls s t) : KeepsCalls s (t.takeCallEnd b k) := by
  unfold State.takeCallEnd
  split
  · split
    · exact h.endCall
    · exact h.endCall
    all_goals exact h.bump
  · exact h.bump

theorem oldSideDropped (h : KeepsCalls s t) : KeepsCalls s (t.oldSideDropped c) := by
  unfold State.oldSideDropped
  split
  · split
    · exact (h.updHandover (f := fun q => { q with oldDropped := true }) (fun _ => rfl) fun _ => rfl).markCall
    · exact h.bump
  · exact h.bump

theorem reservedDropped {b : BaseNo} {k : ChanNo} {g : AttemptTag} (h : KeepsCalls s t) :
    KeepsCalls s (t.reservedDropped b k c g) := by
  unfold State.reservedDropped
  split
  · split
    · split
      · exact h.targetDropped
      · exact h.candidateFail
    · exact h.bump
  · exact h.bump

theorem takeChannelDropped {b : BaseNo} {k : ChanNo} (h : KeepsCalls s t) :
    KeepsCalls s (t.takeChannelDropped b k) := by
  unfold State.takeChannelDropped
  split
  · split
    · exact h.endCall
    · exact h.oldSideDropped
    · exact h.reservedDropped
    all_goals exact h.bump
  · exact h.bump

theorem takeClearCall {i : SlotNo} (h : KeepsCalls s t) : KeepsCalls s (t.takeClearCall i c) := by
  unfold State.takeClearCall
  split
  · exact h.endCall.handBack
  · exact h.handBack

theorem setChan {b : BaseNo} {k : ChanNo} {v : Chan} (h : KeepsCalls s t) : KeepsCalls s (t.setChan b k v) :=
  h.same rfl

theorem takeBlockChannel {i : SlotNo} {b : BaseNo} {k : ChanNo} (h : KeepsCalls s t) :
    KeepsCalls s (t.takeBlockChannel i b k) := by
  unfold State.takeBlockChannel
  split
  · exact h.setChan.handBack
  · exact h.handBack

theorem takeUnblockChannel {i : SlotNo} {b : BaseNo} {k : ChanNo} (h : KeepsCalls s t) :
    KeepsCalls s (t.takeUnblockChannel i b k) := by
  unfold State.takeUnblockChannel
  split
  · exact h.setChan.handBack
  all_goals exact h.handBack

/-! ### CANCEL and AMEND PLAN -/

theorem answerCancel {i x : SlotNo} {v : Verdict} (h : KeepsCalls s t) : KeepsCalls s (t.answerCancel i x v) :=
  h.handBack

theorem cancelMove {i x : SlotNo} {r : Handover} (h : KeepsCalls s t) : KeepsCalls s (t.cancelMove i x c r) := by
  unfold State.cancelMove
  split
  · exact h.answerCancel
  · exact h.attemptEnd.answerCancel

theorem cancelDrain {i x : SlotNo} {b : BaseNo} {d : DrainRecord} (h : KeepsCalls s t) :
    KeepsCalls s (t.cancelDrain i x b d) :=
  (h.same (u := t.changeService b .serving) rfl).endDrain.answerCancel

theorem cancelKind {i x : SlotNo} {k : Byte} (h : KeepsCalls s t) : KeepsCalls s (t.cancelKind i x k) := by
  unfold State.cancelKind
  split
  · split
    · exact h.endPage.answerCancel
    · exact h.answerCancel
  · split
    · split
      · split
        · exact h.cancelMove
        · exact h.answerCancel
      · exact h.answerCancel
    · split
      · split
        · split
          · exact h.cancelDrain
          · exact h.answerCancel
        · exact h.answerCancel
      · exact h.answerCancel

theorem takeCancel {i x : SlotNo} (h : KeepsCalls s t) : KeepsCalls s (t.takeCancel i x) := by
  unfold State.takeCancel
  split
  · split
    · exact h.cancelKind
    · exact h.answerCancel
  · exact h.answerCancel

theorem takePlanRecord {i : SlotNo} {r : PlanRecord} {w : BitVec 256} (h : KeepsCalls s t) :
    KeepsCalls s (t.takePlanRecord i r w) := by
  have hn : ∀ {v : State} {n : Nat}, KeepsCalls s v → KeepsCalls s (v.noteClamps n) := by
    intro v n hv
    unfold State.noteClamps
    split
    · exact hv.same rfl
    · exact hv
  unfold State.takePlanRecord
  split
  · exact (hn (h.same (u := t.applyZone _ _) rfl)).handBack
  · split
    · exact h.handBack
    · exact (hn (h.same (u := t.applyBase _ _) rfl)).handBack

end KeepsCalls

end Sys2Proof.Machine
end

section
/-! SUPPORT. Every command keeps the laws of the calls (O58, O59, O60). -/

namespace Sys2Proof.Machine

open Sys2Proof

variable {s t u : State} {c : CallNo}

/-! ### The ways of taking a command -/

/-- The law of the channel map reads the channels, the calls, and of each link its service state and its effective
channel count. -/
theorem channelsOk_congr (hv : t.chans = s.chans) (hc : t.calls = s.calls)
    (hl : ∀ b : BaseNo, t.links[b].effCount = s.links[b].effCount ∧ t.service b = s.service b) (h : s.channelsOk) :
    t.channelsOk := by
  have he : ∀ b k, t.chan b k = s.chan b k := fun b k => by rw [State.chan, hv]; rfl
  have hs : ∀ b, t.inService b ↔ s.inService b := fun b => by rw [State.inService, (hl b).2]; rfl
  unfold State.channelsOk State.channelOk at h ⊢
  simpa only [he, hs, hc, (hl _).1] using h

theorem restartSilence_channelsOk {b : BaseNo} (h : s.channelsOk) : (s.restartSilence b).channelsOk := by
  unfold State.restartSilence
  split
  · refine channelsOk_congr (s := s) rfl rfl (fun x => ?_) h
    rw [State.service, updLink_get]
    split
    · next e => subst e; exact ⟨rfl, rfl⟩
    · exact ⟨rfl, rfl⟩
  · exact h

theorem restartSilence_callTables (s : State) (b : BaseNo) : (s.restartSilence b).callTables = s.callTables := by
  unfold State.restartSilence
  split <;> rfl

theorem completeAccess_callTables {n : Nat} (s : State) (data : BitVec n) :
    (s.completeAccess data).callTables = s.callTables := by
  unfold State.completeAccess
  split <;> rfl

theorem scanOn_callTables (s : State) : s.scanOn.callTables = s.callTables := by
  unfold State.scanOn
  split
  · rfl
  · split <;> rfl

theorem takeIntake_callTables (s : State) : s.takeIntake.callTables = s.callTables := by
  unfold State.takeIntake
  split
  · dsimp only
    split <;> rfl
  · rfl

namespace KeepsCalls

theorem arbitrate (h : KeepsCalls s t) : KeepsCalls s t.arbitrate := by
  obtain ⟨-, -, -, hr, -, -, -, -, hc, hb, -⟩ := body_fields t.arbitrate_body
  exact h.same (by rw [State.callTables, hc, hb, hr]; rfl)

theorem beginStartup (s t : State) : KeepsCalls s t.beginStartup := by
  unfold State.beginStartup
  refine KeepsCalls.arbitrate ?_
  exact cleared rfl

theorem settle (h : KeepsCalls s t) : KeepsCalls s t.settle := by
  rcases settle_cases t with e | ⟨-, -, e⟩ <;> rw [e]
  · exact h.arbitrate
  · unfold State.endHalt
    dsimp only
    split
    · exact beginStartup s _
    · exact cleared rfl

theorem whileServing {f : State → State} (hf : s.serves = true → KeepsCalls s (f s)) (e : s.whileServing f = .next t) :
    KeepsCalls s t := by
  cases hs : s.serves
  · rw [whileServing_off hs] at e
    cases e
    exact (refl s).settle
  · rw [whileServing_of hs] at e
    cases e
    exact (hf hs).settle

theorem event {f : State → State} (hf : KeepsCalls s (f s)) (e : s.whileServing f = .next t) : KeepsCalls s t :=
  whileServing (fun _ => hf) e

/-- Work on a message goes on from the restart of the silence timer. -/
theorem afterSilence {b : BaseNo} (h : KeepsCalls (s.restartSilence b) t) : KeepsCalls s t :=
  h.from_same (restartSilence_callTables s b) restartSilence_channelsOk

theorem message {b : BaseNo} {f : State → State} (hf : ∀ v, KeepsCalls v (f v)) (e : s.messageFrom b f = .next t) :
    KeepsCalls s t := by
  refine event ?_ e
  split
  · exact (hf _).afterSilence
  · exact (refl s).bump

theorem answer {b : BaseNo} {f : State → State} (hf : ∀ v, KeepsCalls v (f v)) (e : s.answerFrom b f = .next t) :
    KeepsCalls s t := by
  refine event ?_ e
  split
  · exact (hf _).afterSilence
  · exact refl s

theorem order {i : SlotNo} {o : Order} {f : State → State} (hf : ∀ {v w}, KeepsCalls v w → KeepsCalls v (f w))
    (e : s.takeOrder i o f = .next t) : KeepsCalls s t := by
  refine event ?_ e
  split
  · exact (hf (same (u := s.undispatched) (refl s) rfl)).same (scanOn_callTables _)
  · exact refl s

/-- Work on the completion of an access, from the state that the access leaves. -/
theorem access {n : Nat} {data : BitVec n} {f : State → AccessKind → Option State}
    (hf : ∀ k v, f (s.completeAccess data) k = some v → KeepsCalls s (s.completeAccess data) → KeepsCalls s v)
    (e : s.onAccess data f = .next t) : KeepsCalls s t := by
  rcases onAccess_cases s data f with h | ⟨k, v, -, hv, h⟩ <;> rw [h] at e <;> cases e
  · exact refl s
  · exact (hf k v hv ((refl s).same (completeAccess_callTables s data))).settle

theorem fromServing {b : BaseNo} {f : State → State} (h : KeepsCalls t (f t)) : KeepsCalls t (t.fromServing b f) := by
  unfold State.fromServing
  split
  · exact (refl t).bump
  · exact h

/-! ### The frame mark's work -/

theorem dueLinks (h : KeepsCalls s t) : KeepsCalls s t.dueLinks :=
  (((h.foldl takeJoinTimer _).foldl takeSilenceTimer _).foldl takeRetransmit _).foldl takeAnswerTimeout _

theorem dueRoster (h : KeepsCalls s t) : KeepsCalls s t.dueRoster := (h.foldl takeLifetime _).foldl takeRoundTimer _

theorem dueCalls (h : KeepsCalls s t) : KeepsCalls s t.dueCalls :=
  (((h.foldl takeReserveTimer _).foldl takeArrivalTimer _).foldl takeSettleTimer _).foldl takeHoldTimer _

theorem dueBatch (h : KeepsCalls s t) : KeepsCalls s t.dueBatch := h.deliverBatch.foldl takeDrainLimit _

theorem takeIntake (h : KeepsCalls s t) : KeepsCalls s t.takeIntake := h.same (takeIntake_callTables t)

theorem dueWork (h : KeepsCalls s t) : KeepsCalls s t.dueWork :=
  h.dueLinks.dueRoster.dueCalls.dueBatch.takeIntake

theorem advanceFrame (h : KeepsCalls s t) : KeepsCalls s t.advanceFrame := h.same rfl

/-! ### Control writes -/

theorem stopTransmit {b : BaseNo} (h : KeepsCalls s t) : KeepsCalls s (t.stopTransmit b) := h.same rfl

theorem beginHalt (h : KeepsCalls s t) : KeepsCalls s t.beginHalt :=
  ((h.same (u := t.withdrawRequests) rfl).foldl stopTransmit _).foldl handBack _

theorem writeRun0 (s : State) (v : Bool) : KeepsCalls s (s.writeRun0 v) := by
  have hc : KeepsCalls s (s.clearRun v) := (refl s).same rfl
  unfold State.writeRun0
  dsimp only
  split
  · exact hc
  · exact cleared rfl
  · split
    · exact hc
    · exact hc.beginHalt
  · exact hc.same rfl

theorem writeRun1 (s : State) (v : Bool) : KeepsCalls s (s.writeRun1 v) := by
  unfold State.writeRun1
  dsimp only
  split
  · exact beginStartup s _
  · exact (refl s).same rfl

theorem writeXbase (s : State) (v : BitVec 32) : KeepsCalls s (s.writeXbase v) := by
  unfold State.writeXbase
  split
  · exact (refl s).same rfl
  · exact refl s

theorem writeWindow (s : State) (o : Nat) (v : BitVec 32) : KeepsCalls s (s.writeWindow o v) := by
  unfold State.writeWindow
  split
  · unfold State.writeControl
    split
    · exact cleared rfl
    · split
      · exact (writeRun1 s _).settle
      · exact (writeRun0 s _).settle
  · exact writeXbase s v
  · split
    · exact (refl s).same rfl
    · exact refl s
  · exact refl s

/-! ### Completions of accesses -/

theorem ask (h : KeepsCalls s t) (l : List AccessKind) : KeepsCalls s (t.ask l) := h.same rfl

theorem updAcu (h : KeepsCalls s t) (f : Acu → Acu) : KeepsCalls s (t.updAcu f) := h.same rfl

theorem setJob (h : KeepsCalls s t) (j : Option AcuJob) : KeepsCalls s (t.setJob j) := h.same rfl

/-- An ENDED entry that has been written is FREE again; it has no record (R59). -/
theorem writeReport {e : Bool} (h : KeepsCalls s t) (ht : t.callTables = s.callTables) :
    KeepsCalls s (t.writeReport c e) := by
  unfold State.writeReport
  split
  · next hc =>
    obtain ⟨-, hend, -⟩ := hc
    have ec := (callTables_fields ht).1
    have hm : t.calls[c].state ≠ .moving := by rw [hend]; decide
    refine h.updCall ⟨nofun, fun hr _ => hr hm, id, fun k n => ?_⟩ id
    obtain ⟨hf, hn⟩ := n.1 (by rw [hend]; rfl)
    refine neighboursOk_of_clear hf hn (Option.eq_none_iff_forall_ne_some.mpr fun r hr => hm ?_)
    rw [ec]
    exact (k.2.2.1 c r (by rw [← ec]; exact hr)).1
  · exact h

theorem giveReport (h : KeepsCalls s t) (ht : t.callTables = s.callTables) (r : Option (CallNo × Bool)) :
    KeepsCalls s (t.giveReport r) := by
  unfold State.giveReport
  split
  · exact h.writeReport ht
  · exact h

theorem recordWritten (h : KeepsCalls s t) (ht : t.callTables = s.callTables) (r : RecordRef) (v : Byte) (e : Bool) :
    KeepsCalls s (t.recordWritten r v e) := by
  unfold State.recordWritten
  split
  · exact (h.setJob none).giveReport ht _
  · exact h.setJob _

theorem bitsSet (h : KeepsCalls s t) (ht : t.callTables = s.callTables) (r : Option (CallNo × Bool)) :
    KeepsCalls s (t.bitsSet r) := ((h.same (u := t.setPending) rfl).setJob none).giveReport ht r

theorem byteRead (h : KeepsCalls s t) (v : Byte) : KeepsCalls s (t.byteRead v) := by
  unfold State.byteRead
  split
  · exact h.setJob _
  · exact h

theorem byteWritten (h : KeepsCalls s t) (ht : t.callTables = s.callTables) : KeepsCalls s t.byteWritten := by
  unfold State.byteWritten
  split
  · split
    · exact h.bitsSet ht _
    · exact h.setJob _
  · exact h

theorem summaryRead (h : KeepsCalls s t) (v : Byte) : KeepsCalls s (t.summaryRead v) := by
  unfold State.summaryRead
  split
  · exact h.setJob _
  · exact h

theorem summaryWritten (h : KeepsCalls s t) (ht : t.callTables = s.callTables) : KeepsCalls s t.summaryWritten := by
  unfold State.summaryWritten
  split
  · exact h.bitsSet ht _
  · exact h

theorem counterWritten (h : KeepsCalls s t) : KeepsCalls s t.counterWritten := by
  unfold State.counterWritten
  split
  · split
    · exact h.same rfl
    · exact (h.same (u := t.updAcu _) rfl).handBack
  · exact h

theorem takeSlot (h : KeepsCalls s t) (i : SlotNo) (w : BitVec 512) : KeepsCalls s (t.takeSlot i w) := by
  unfold State.takeSlot
  dsimp only
  split
  · exact h.same rfl
  · exact (h.same (u := t.updOru _) rfl).handBack.same (scanOn_callTables _)

theorem takePostedCount (h : KeepsCalls s t) (v : BitVec 32) : KeepsCalls s (t.takePostedCount v) := by
  unfold State.takePostedCount
  split
  · exact h
  · dsimp only
    split <;> exact h.same rfl

theorem takeOwnerByte (h : KeepsCalls s t) (i : SlotNo) (v : Byte) : KeepsCalls s (t.takeOwnerByte i v) := by
  unfold State.takeOwnerByte
  split
  · exact h.ask _
  · exact h.same (scanOn_callTables t)

theorem faultWith (s t : State) (f : FaultCode) : KeepsCalls s (t.faultWith f) := cleared rfl

end KeepsCalls

/-! ### Every command -/

theorem startupPlanRead_keepsCalls {w : BitVec 256} (e : exec (.startupPlanReadDone w) s = .next t) :
    KeepsCalls s t := by
  rw [exec_startupPlanReadDone] at e
  refine .access (fun k v hv h => ?_) e
  split at hv <;> cases hv
  · exact h.same rfl
  · exact h.same rfl
  · unfold finOf
    split <;> exact h.same rfl

/-- Every command keeps the laws of the calls. -/
theorem exec_keepsCalls {i : Instr} (e : exec i s = .next t) : KeepsCalls s t := by
  have hr := KeepsCalls.refl s
  cases i with dsimp only [exec] at e
  | hello b a n =>
    refine .event ?_ e
    split
    · exact hr.bump
    · exact hr.takeHello
  | ready b => exact .message (fun v => (KeepsCalls.refl v).takeReadyMessage) e
  | beacon b => exact .message .refl e
  | malformedMessage b => exact .event hr.bump e
  | accept b => exact .answer (fun v => (KeepsCalls.refl v).takeAccept) e
  | defer b => exact .answer (fun v => (KeepsCalls.refl v).takeDefer) e
  | attach b i => exact .message (fun v => .fromServing (KeepsCalls.refl v).takeAttach) e
  | refresh b h v => exact .message (fun v => .fromServing (KeepsCalls.refl v).takeRefresh) e
  | detach b h => exact .message (fun v => .fromServing (KeepsCalls.refl v).takeDetach) e
  | callRequest b h p => exact .message (fun _ => .fromServing .takeCallRequest) e
  | callEnd b k => exact .message (fun v => (KeepsCalls.refl v).takeCallEnd) e
  | channelDropped b k => exact .message (fun v => (KeepsCalls.refl v).takeChannelDropped) e
  | levelReport b k l n p =>
    change execLevelReport b k l n p s = .next t at e
    unfold execLevelReport at e
    split at e
    · exact .message (fun _ => .takeLevelReport) e
    · exact .event hr.bump e
  | reserveAnswer b j c g v r => exact .message (fun v => (KeepsCalls.refl v).takeReserveAnswer) e
  | arrived b j c g => exact .message (fun _ => .takeArrived) e
  | pageAnswer b h => exact .message (fun v => .fromServing (KeepsCalls.refl v).pageAnswered) e
  | frameMark =>
    refine .event (f := fun v => v.dueWork.advanceFrame) ?_ e
    exact hr.dueWork.advanceFrame
  | joinTimerExpiry b => exact .event hr.takeJoinTimer e
  | silenceTimerExpiry b => exact .event hr.takeSilenceTimer e
  | headRetransmit b => exact .event hr.takeRetransmit e
  | headAnswerTimeout b => exact .event hr.takeAnswerTimeout e
  | lifetimeExpiry h => exact .event hr.takeLifetime e
  | roundTimerExpiry h => exact .event hr.takeRoundTimer e
  | reserveTimerExpiry c => exact .event hr.takeReserveTimer e
  | arrivalTimerExpiry c => exact .event hr.takeArrivalTimer e
  | settleTimerExpiry c => exact .event hr.takeSettleTimer e
  | holdTimerExpiry c => exact .event hr.takeHoldTimer e
  | switchBatchDelivery => exact .event hr.deliverBatch e
  | drainLimitExpiry b => exact .event hr.takeDrainLimit e
  | orderIntake => exact .event hr.takeIntake e
  | accessTimeout | busError =>
    cases e
    split
    · exact .faultWith s s _
    · exact hr
  | subscriptionCountReadDone n =>
    refine .access (fun k v hv h => ?_) e
    split at hv <;> cases hv
    split
    · exact h.takeSubCount
    · exact h
  | subscriptionEntryReadDone w =>
    refine .access (fun k v hv h => ?_) e
    split at hv <;> cases hv
    split
    · exact h.takeSubEntry
    · exact h
  | postedCountReadDone n =>
    refine .access (fun k v hv h => ?_) e
    split at hv <;> cases hv
    split
    · exact h.takePostedCount _
    · split
      · exact h.same rfl
      · exact h
  | ownerByteReadDone v =>
    refine .access (fun k v hv h => ?_) e
    split at hv <;> cases hv
    split
    · exact h.takeOwnerByte _ _
    · exact h
  | slotReadDone w =>
    refine .access (fun k v hv h => ?_) e
    split at hv <;> cases hv
    split
    · exact h.takeSlot _ _
    · exact h
  | takenWriteDone | resultWriteDone =>
    refine .access (fun k v hv h => ?_) e
    split at hv <;> cases hv
    exact h
  | answeredWriteDone =>
    refine .access (fun k v hv h => ?_) e
    split at hv <;> cases hv
    exact h.same rfl
  | planRecordReadDone w =>
    refine .access (fun k v hv h => ?_) e
    split at hv <;> cases hv
    split
    · exact h.takePlanRecord
    · exact h
  | recordWriteDone =>
    refine .access (fun k v hv h => ?_) e
    split at hv <;> cases hv
    split
    · exact h.recordWritten (completeAccess_callTables s _) _ _ _
    · exact h
  | attentionByteAccessDone v =>
    refine .access (fun k v hv h => ?_) e
    split at hv <;> cases hv
    · exact h.byteRead _
    · exact h.byteWritten (completeAccess_callTables s _)
  | summaryByteAccessDone v =>
    refine .access (fun k v hv h => ?_) e
    split at hv <;> cases hv
    · exact h.summaryRead _
    · exact h.summaryWritten (completeAccess_callTables s _)
  | counterWriteDone =>
    refine .access (fun k v hv h => ?_) e
    split at hv <;> cases hv
    exact h.counterWritten
  | startupHeaderReadDone n =>
    refine .access (fun k v hv h => ?_) e
    split at hv <;> cases hv
    split
    · exact h.ask _
    · exact .faultWith _ _ _
  | startupPlanReadDone w => exact startupPlanRead_keepsCalls e
  | startupZeroWriteDone =>
    refine .access (fun k v hv h => ?_) e
    split at hv <;> cases hv
    split
    · exact h.setJob _
    · exact (h.setJob _).ask _
  | startupSlotScanReadDone v =>
    refine .access (fun k v hv h => ?_) e
    split at hv <;> cases hv
    exact h.ask _
  | startCountAccessDone n =>
    refine .access (fun k v hv h => ?_) e
    split at hv <;> cases hv
    · exact h.ask _
    · exact h.same rfl
  | runSet v => cases e; exact (KeepsCalls.writeRun1 s v).settle
  | runClear v => cases e; exact (KeepsCalls.writeRun0 s v).settle
  | restart | resetPin => cases e; exact .cleared rfl
  | xbaseWrite v => cases e; exact .writeXbase s v
  | attnClear => cases e; exact hr.same rfl
  | registerWrite o v =>
    change execRegisterWrite o v s = .next t at e
    unfold execRegisterWrite at e
    split at e <;> cases e
    exact .writeWindow s o v
  | deregister i h => exact .order .takeDeregister e
  | page i h => exact .order .takePage e
  | cancel i x => exact .order .takeCancel e
  | clearCall i c => exact .order .takeClearCall e
  | forceMove i c b => exact .order .takeForceMove e
  | drainBase i b n => exact .order .takeDrainBase e
  | stopBase i b => exact .order .takeStopBase e
  | startBase i b => exact .order .takeStartBase e
  | blockChannel i b k => exact .order .takeBlockChannel e
  | unblockChannel i b k => exact .order .takeUnblockChannel e
  | amendPlan i r => exact .order (fun h => h.ask _) e
  | snapshot i v => exact .order (fun h => h.updAcu _) e

/-- Settles O58: by the ways of taking a command, from what each block's event keeps of the calls. -/
theorem commandsKeepCallsBound : Obligations.CommandsKeepCallsBound :=
  fun _ _ _ h e => (exec_keepsCalls e).bound h

/-- Settles O59: from what each block's event keeps of the batch and the handover records. -/
theorem commandsKeepTheSwitchBatch : Obligations.CommandsKeepTheSwitchBatch :=
  fun _ _ _ h e => (exec_keepsCalls e).batch h

/-- Settles O60: from what each block's event keeps of the filters and the neighbour sets. -/
theorem commandsKeepLevelsInRange : Obligations.CommandsKeepLevelsInRange :=
  ⟨fun _ _ _ h e => (exec_keepsCalls e).levels h, fun _ _ _ hc h e => (exec_keepsCalls e).sets hc h⟩

end Sys2Proof.Machine
end

section
/-! SUPPORT. The end of a move (7.5): O38. -/

namespace Sys2Proof.Machine

open Sys2Proof

variable {s : State} {c : CallNo} {b : BaseNo} {j : ChanNo} {g : AttemptTag} {r : Handover}

/-! ### The notices to a DRAINING base (R135) -/

/-- A drain whose record has been renewed completes once its base serves no call. -/
theorem drainCheck_setDrain (s : State) (b : BaseNo) (d : DrainRecord) :
    (s.setDrain b (some d)).drainCheck b =
      if s.servedBy b = [] then (s.setDrain b (some d)).drainComplete b d 0 else s.setDrain b (some d) := by
  have hd : (s.setDrain b (some d)).drains[b] = some d := (setDrain_get s b b _).trans (if_pos rfl)
  have hs : (s.setDrain b (some d)).servedBy b = s.servedBy b := rfl
  rw [State.drainCheck, hd]
  dsimp only
  simp only [hs, List.isEmpty_iff]

theorem notices_of_no_drain (h : s.drains[b] = none) : s.callLeftNotice b = s ∧ s.callEndNotice b = s := by
  rw [State.callLeftNotice, State.callEndNotice, h]
  exact ⟨rfl, rfl⟩

theorem callLeftNotice_of_active {d : DrainRecord} (h : s.drains[b] = some d) (hp : d.phase = .active) :
    s.callLeftNotice b = (s.setDrain b (some { d with moved := satSucc d.moved })).drainCheck b := by
  rw [State.callLeftNotice, h]
  exact if_pos hp

theorem callEndNotice_of_active {d : DrainRecord} (h : s.drains[b] = some d) (hp : d.phase = .active) :
    s.callEndNotice b = (s.setDrain b (some { d with ended := satSucc d.ended })).drainCheck b := by
  rw [State.callEndNotice, h]
  exact if_pos hp

theorem notices_of_clearing {d : DrainRecord} (h : s.drains[b] = some d) (hp : d.phase = .clearing) :
    s.callLeftNotice b = s ∧ s.callEndNotice b = s.setDrain b (some { d with cleared := satSucc d.cleared }) := by
  have hn : ¬d.phase = .active := by rw [hp]; decide
  rw [State.callLeftNotice, State.callEndNotice, h]
  exact ⟨if_neg hn, if_neg hn⟩

/-! ### The completed handover (R121) -/

theorem succTo255_eq (n : Nat) : succTo255 n = min (n + 1) 255 := by
  unfold succTo255
  rw [show Config.handoverCountMax = 255 from rfl]
  split <;> omega

/-- An entry CONNECTED again, its handover record gone (R124 step 3). -/
def Call.reconnected (e : Call) : Call := { e with state := .connected, handover := none }

theorem removeRecord_of_moving (h : s.calls[c].state = .moving) :
    s.removeRecord c = (s.updCall c Call.reconnected).markCall c 0 := by
  rw [State.removeRecord, State.moveEnd, if_pos (by rw [updCall_get, if_pos rfl]; exact h), updCall_updCall]
  rfl

/-- The entry of a call whose handover is complete (R121). -/
def State.arrivedCall (s : State) (c : CallNo) (r : Handover) (j : ChanNo) (e : Call) : Call :=
  (s.resettled c s.calls[c].base r.target (e.movedTo r.target j)).reconnected

/-- The bases of a set after an insertion were there before, or are the base inserted. -/
theorem mem_insertNeighbour {l : List Neighbour} {a : BaseNo} {v : Nat} {n : Neighbour}
    (h : n ∈ insertNeighbour l a v) : n ∈ l ∨ n.base = a := by
  rcases insertNeighbour_cases l a v with e | ⟨-, e⟩ | ⟨x, -, e⟩ <;> rw [e] at h
  · exact .inl h
  · rcases List.mem_append.mp h with h | h
    · exact .inl h
    · rw [List.mem_singleton] at h
      exact .inr (by rw [h])
  · rcases List.mem_append.mp h with h | h
    · exact .inl (List.mem_filter.mp h).1
    · rw [List.mem_singleton] at h
      exact .inr (by rw [h])

theorem pairTaken_iff {v : Service} : pairTaken v = true ↔ v = .serving ∨ v = .draining := by
  cases v <;> decide

/-- The old base joins the set where it is in service and there is a filter to give it (R89 step 2). -/
theorem changedSet_of_filter {a : BaseNo} {f : Nat} (hf : s.calls[c].filter = some f) (ha : s.inService a) :
    s.changedSet c a b =
      rankNeighbours ((insertNeighbour (s.calls[c].neighbours.filter fun n => n.base != b) a f).map fun n =>
        { n with lead := 0 }) := by
  rw [State.changedSet, hf]
  dsimp only
  rw [if_pos (pairTaken_iff.mpr ha)]
  rfl

theorem changedSet_of_rest {a : BaseNo} (h : s.calls[c].filter = none ∨ ¬s.inService a) :
    s.changedSet c a b =
      rankNeighbours ((s.calls[c].neighbours.filter fun n => n.base != b).map fun n => { n with lead := 0 }) := by
  rw [State.changedSet]
  cases hf : s.calls[c].filter with
  | none => rfl
  | some f =>
    have ha : ¬pairTaken (s.service a) = true := fun hp =>
      h.elim (fun hn => by rw [hf] at hn; cases hn) fun hn => hn (pairTaken_iff.mp hp)
    dsimp only
    rw [if_neg ha]
    rfl

/-- After a serving change every lead is 0, and the new base is not in the set (R89). -/
theorem mem_changedSet {a : BaseNo} {n : Neighbour} (h : n ∈ s.changedSet c a b) :
    n.lead = 0 ∧ (a ≠ b → n.base ≠ b) := by
  obtain ⟨m, hm, rfl⟩ := List.mem_map.mp ((rankNeighbours_perm _).mem_iff.mp h)
  have hrest : ∀ n ∈ withoutNeighbour b s.calls[c].neighbours, n.base ≠ b := fun n hn => by
    simpa using (List.mem_filter.mp hn).2
  refine ⟨rfl, fun hne => ?_⟩
  split at hm
  · split at hm
    · rcases mem_insertNeighbour hm with hm | hm
      · exact hrest m hm
      · exact fun e => hne (hm.symm.trans e)
    · exact hrest m hm
  · exact hrest m hm

/-- The roster entry of handset `h` located at base `b` (R33). -/
def State.locatedEntry (s : State) (b : BaseNo) (e : RosterEntry) : RosterEntry :=
  { e with lastBase := b, lastZone := s.links[b].zone }

/-- A location reads the roster and the zone of the base (R33). -/
theorem locate_of_tables {t : State} {h : HandsetNo} (er : t.roster = s.roster) (el : t.links = s.links)
    (hr : s.roster[h].registered = true) :
    t.locate h b = t.changeEntry h (s.locatedEntry b) (s.locationBits h b) := by
  rw [locate_of_registered (by rw [er]; exact hr), State.locationBits, State.locationBits, er, el]
  rfl

/-- The tables of a completed handover before its counts: the channels, the entry and the location (R121). -/
def State.arrivedTables (s : State) (c : CallNo) (r : Handover) (j : ChanNo) : State :=
  ((s.moveChans c r.target j).updCall c (s.arrivedCall c r j)).updEntry s.calls[c].handset (s.locatedEntry r.target)

theorem arrivedTables_frame (s : State) (c : CallNo) (r : Handover) (j : ChanNo) :
    { s.arrivedTables c r j with chans := s.chans, calls := s.calls, roster := s.roster } = s := rfl

theorem arrivedTables_self (s : State) (c : CallNo) (r : Handover) (j : ChanNo) :
    (s.arrivedTables c r j).calls[c] = s.arrivedCall c r j s.calls[c] :=
  (updCall_get (s.moveChans c r.target j) c c _).trans (if_pos rfl)

theorem arrivedTables_other {d : CallNo} (hd : d ≠ c) (s : State) (r : Handover) (j : ChanNo) :
    (s.arrivedTables c r j).calls[d] = s.calls[d] :=
  (updCall_get (s.moveChans c r.target j) c d _).trans (if_neg hd.symm)

theorem arrivedTables_handset (s : State) (c : CallNo) (r : Handover) (j : ChanNo) :
    (s.arrivedTables c r j).roster[s.calls[c].handset] =
      s.locatedEntry r.target s.roster[s.calls[c].handset] :=
  (updEntry_get _ _ _ _).trans (if_pos rfl)

theorem arrivedTables_others {x : HandsetNo} (hx : x ≠ s.calls[c].handset) (r : Handover) (j : ChanNo) :
    (s.arrivedTables c r j).roster[x] = s.roster[x] :=
  (updEntry_get _ _ _ _).trans (if_neg hx.symm)

theorem arrivedTables_chan (s : State) (c : CallNo) (r : Handover) (j : ChanNo) (x : BaseNo) (k : ChanNo) :
    (s.arrivedTables c r j).chan x k =
      if x = r.target ∧ k = j then .held c
      else if x = s.calls[c].base ∧ k = s.calls[c].channel then .free else s.chan x k := by
  have e : (s.arrivedTables c r j).chan x k = (s.moveChans c r.target j).chan x k := rfl
  rw [e, State.moveChans, setChan_get, setChan_get]
  simp only [eq_comm]

/-- The marks of a completed handover (R121 steps 2 to 7). -/
def State.markMove (s : State) (c : CallNo) (h : HandsetNo) (bits : Byte) : State :=
  ((((s.markCall c 0).markCall c 0).markHandset h bits).markCall c 0).markCall c attnMoved

/-- Two steps that change the ACU alone. -/
theorem acuAlone_trans {s t u : State} (h : { t with acu := s.acu } = s) (k : { u with acu := t.acu } = t) :
    { u with acu := s.acu } = s :=
  (congrArg (fun v : State => { v with acu := s.acu }) k).trans h

theorem markCall_frame (s : State) (c : CallNo) (v : Byte) : { s.markCall c v with acu := s.acu } = s := rfl

theorem markHandset_frame (s : State) (h : HandsetNo) (v : Byte) : { s.markHandset h v with acu := s.acu } = s := rfl

theorem markMove_frame (s : State) (c : CallNo) (h : HandsetNo) (bits : Byte) :
    { s.markMove c h bits with acu := s.acu } = s :=
  acuAlone_trans (acuAlone_trans (acuAlone_trans (acuAlone_trans (markCall_frame s c 0) (markCall_frame _ c 0))
    (markHandset_frame _ h bits)) (markCall_frame _ c 0)) (markCall_frame _ c attnMoved)

/-- The marks and the counts of a completed handover from base `a` to base `b` (R121 steps 2 to 8). -/
def State.noteMove (s : State) (c : CallNo) (h : HandsetNo) (bits : Byte) (a b : BaseNo) : State :=
  ((s.markMove c h bits).bumpBase b .handoversIn).bumpBase a .handoversOut

theorem noteMove_frame (s : State) (c : CallNo) (h : HandsetNo) (bits : Byte) (a b : BaseNo) :
    { s.noteMove c h bits a b with acu := s.acu, counters := s.counters } = s := by
  have hm := markMove_frame s c h bits
  unfold State.noteMove
  generalize s.markMove c h bits = t at hm ⊢
  exact congrArg (fun v : State => { v with counters := s.counters }) hm

theorem noteMove_counters (s : State) (c : CallNo) (h : HandsetNo) (bits : Byte) (a b : BaseNo) :
    (s.noteMove c h bits a b).counters = ((s.bumpBase b .handoversIn).bumpBase a .handoversOut).counters :=
  have e : (s.markMove c h bits).counters = s.counters := (congrArg State.counters (markMove_frame s c h bits) :)
  bumpBase_counters_congr (bumpBase_counters_congr e b .handoversIn) a .handoversOut

theorem noteMove_mark (s : State) (c : CallNo) (h : HandsetNo) (bits : Byte) (a b : BaseNo) :
    ∃ v, (s.noteMove c h bits a b).acu.callMarks[c] = some v ∧ v &&& attnMoved = attnMoved := by
  have e : (s.noteMove c h bits a b).acu = (s.markMove c h bits).acu := rfl
  rw [e, State.markMove]
  exact markCall_holds _ c attnMoved

theorem noteMove_oru (s : State) (c : CallNo) (h : HandsetNo) (bits : Byte) (a b : BaseNo) :
    (s.noteMove c h bits a b).oru = s.oru := (congrArg State.oru (noteMove_frame s c h bits a b) :)

/-- The answer of a FORCE MOVE that is DONE (R128) changes the Order Unit alone. -/
theorem answerMove_done_frame (s : State) (i : Option SlotNo) (e : Call) (g : AttemptTag) :
    { s.answerMove i (moveResult e g) with oru := s.oru } = s := by
  unfold State.answerMove
  split <;> rfl

/-- An answer changes the Order Unit alone, after a change of the marks and the counts. -/
theorem answered_frame {s t u v : State} (h : { t with acu := s.acu, counters := s.counters } = v)
    (ho : t.oru = s.oru) (k : { u with oru := t.oru } = t) :
    { u with acu := s.acu, counters := s.counters, oru := s.oru } = v := by
  rw [← h, ← ho]
  exact congrArg (fun w : State => { w with acu := s.acu, counters := s.counters }) k

section
variable (hs : s.switched c r.target j r.tag) (hm : s.calls[c].state = .moving)
  (hr : s.roster[s.calls[c].handset].registered = true)
include hs hm hr

/-- A completed handover of a call that stands in SWITCHING changes those tables, marks the call and its handset, and
counts one move in and one out (R121). -/
theorem handedOver_of_switched :
    s.handedOver c r j =
      (s.arrivedTables c r j).noteMove c s.calls[c].handset (s.locationBits s.calls[c].handset r.target)
        s.calls[c].base r.target := by
  have hloc : (s.settled c r.target j r.tag).locate s.calls[c].handset r.target =
      (s.settled c r.target j r.tag).changeEntry s.calls[c].handset (s.locatedEntry r.target)
        (s.locationBits s.calls[c].handset r.target) := by
    refine locate_of_tables ?_ ?_ hr <;> rw [settled_of_switched hs] <;> rfl
  have hmov : (s.settled c r.target j r.tag).calls[c].state = .moving := by
    rw [settled_of_switched hs, State.markCall_calls, State.markCall_calls, updCall_get, if_pos rfl]
    exact hm
  have e : ∀ (v : State) (f : Call → Call) (x : HandsetNo) (k : RosterEntry → RosterEntry) (w : Byte),
      ((((v.updCall c f).markCall c 0).markCall c 0).changeEntry x k w).updCall c Call.reconnected =
        (((((v.updCall c f).updCall c Call.reconnected).updEntry x k).markCall c 0).markCall c 0).markHandset x w :=
    fun _ _ _ _ _ => rfl
  rw [State.handedOver, hloc, removeRecord_of_moving (by exact hmov), settled_of_switched hs, e, updCall_updCall]
  rfl

theorem handedOver_oru : (s.handedOver c r j).oru = s.oru := by
  rw [handedOver_of_switched hs hm hr, noteMove_oru]
  rfl

/-- What a completed handover leaves as the tables of the move have it. -/
theorem completeHandover_frame :
    { s.completeHandover c r j with
      acu := s.acu, counters := s.counters, oru := s.oru } = s.arrivedTables c r j := by
  have ho := handedOver_oru hs hm hr
  have hn : { s.handedOver c r j with acu := s.acu, counters := s.counters } = s.arrivedTables c r j := by
    rw [handedOver_of_switched hs hm hr]
    exact noteMove_frame _ _ _ _ _ _
  rw [completeHandover_eq]
  exact answered_frame hn ho (answerMove_done_frame _ _ _ _)

theorem handedOver_call : (s.handedOver c r j).calls[c] = s.arrivedCall c r j s.calls[c] := by
  rw [handedOver_of_switched hs hm hr]
  exact arrivedTables_self s c r j

theorem completeHandover_counters :
    (s.completeHandover c r j).counters =
      ((s.bumpBase r.target .handoversIn).bumpBase s.calls[c].base .handoversOut).counters := by
  have e : (s.completeHandover c r j).counters = (s.handedOver c r j).counters :=
    (congrArg State.counters (answerMove_done_frame (s.handedOver c r j) r.slot _ _) :)
  rw [e, handedOver_of_switched hs hm hr, noteMove_counters]
  rfl

/-- MOVED is raised (R121 step 7). -/
theorem completeHandover_mark :
    ∃ v, (s.completeHandover c r j).acu.callMarks[c] = some v ∧ v &&& attnMoved = attnMoved := by
  have e : (s.completeHandover c r j).acu = (s.handedOver c r j).acu :=
    (congrArg State.acu (answerMove_done_frame (s.handedOver c r j) r.slot _ _) :)
  rw [e, handedOver_of_switched hs hm hr]
  exact noteMove_mark _ _ _ _ _ _

theorem completeHandover_oru_of_none (h : r.slot = none) : (s.completeHandover c r j).oru = s.oru := by
  rw [completeHandover_eq, h]
  exact handedOver_oru hs hm hr

theorem completeHandover_oru_of_slot {i : SlotNo} (h : r.slot = some i) :
    (s.completeHandover c r j).oru =
      (s.handBack i (moveResult (s.arrivedCall c r j s.calls[c]) r.tag)).oru := by
  rw [completeHandover_eq, h, handedOver_call hs hm hr]
  exact handBack_oru_congr (handedOver_oru hs hm hr) i _

end

/-! ### ARRIVED (R114, R121) -/

theorem restartSilence_service (s : State) (b x : BaseNo) : (s.restartSilence b).service x = s.service x := by
  unfold State.restartSilence
  split
  · rw [State.service, updLink_get]
    split
    · next e => subst e; rfl
    · rfl
  · rfl

theorem restartSilence_linkZone (s : State) (b x : BaseNo) : (s.restartSilence b).links[x].zone = s.links[x].zone := by
  unfold State.restartSilence
  split
  · rw [updLink_get]
    split
    · next e => subst e; rfl
    · rfl
  · rfl

/-- A restarted silence timer does not bear on the entry of a completed handover. -/
theorem restartSilence_arrivedCall (s : State) (b : BaseNo) (c : CallNo) (r : Handover) (j : ChanNo) :
    (s.restartSilence b).arrivedCall c r j = s.arrivedCall c r j := by
  have hp : (s.restartSilence b).plan = s.plan := (congrArg State.plan (restartSilence_frame s b) :)
  have ha : ∀ n, (s.restartSilence b).after n = s.after n := fun n => by
    rw [State.after, State.after]
    exact congrArg (· + BitVec.ofNat 32 n) (restartSilence_now s b)
  have hz : (s.restartSilence b).zoneAt r.target = s.zoneAt r.target := by
    simp only [State.zoneAt, hp, restartSilence_linkZone]
  have hn : (s.restartSilence b).changedSet c (s.restartSilence b).calls[c].base r.target =
      s.changedSet c s.calls[c].base r.target := by
    simp only [restartSilence_calls]
    exact changedSet_congr (by rw [restartSilence_calls]) (by rw [restartSilence_calls]) (restartSilence_service s b _)
  funext e
  rw [State.arrivedCall, State.arrivedCall, State.resettled, State.resettled, hn, hz, ha]

/-- A restarted silence timer does not bear on the tables of a completed handover. -/
theorem restartSilence_arrivedTables (s : State) (b : BaseNo) (c : CallNo) (r : Handover) (j : ChanNo) :
    (s.restartSilence b).arrivedTables c r j = { s.arrivedTables c r j with links := (s.restartSilence b).links } := by
  have hc := restartSilence_arrivedCall s b c r j
  have hl : (s.restartSilence b).locatedEntry r.target = s.locatedEntry r.target := by
    funext e
    rw [State.locatedEntry, State.locatedEntry, restartSilence_linkZone]
  have hv : s.restartSilence b = { s with links := (s.restartSilence b).links } :=
    congrArg (fun v : State => { v with links := (s.restartSilence b).links }) (restartSilence_frame s b)
  generalize (s.restartSilence b).links = l at hv ⊢
  rw [hv] at hc hl ⊢
  rw [State.arrivedTables, hc, hl]
  rfl

/-- An ARRIVED that matches the record of its call (R114). -/
theorem takeArrived_of_match (hr : s.calls[c].handover = some r) (hj : r.channel = some j) :
    s.takeArrived r.target j c r.tag = if r.state = .switching then s.arrive c r j else s.bump .stale := by
  have hm : s.matching r.target j c r.tag = some r := by
    rw [State.matching, hr, Option.filter_some, if_pos]
    simp [hj]
  rw [State.takeArrived, hm]
  rfl

theorem exec_arrived_of_match (hs : s.serves = true) (ha : linkActive (s.service r.target) = true)
    (hr : s.calls[c].handover = some r) (hj : r.channel = some j) :
    exec (.arrived r.target j c r.tag) s =
      .next (if r.state = .switching then (s.restartSilence r.target).arrive c r j
        else (s.restartSilence r.target).bump .stale).settle := by
  rw [exec_arrived, messageFrom_active hs ha, takeArrived_of_match (by rw [restartSilence_calls]; exact hr) hj]

theorem restartSilence_switched (h : s.switched c b j g) (x : BaseNo) : (s.restartSilence x).switched c b j g := by
  unfold State.switched at h ⊢
  simpa only [restartSilence_calls, restartSilence_chan] using h

/-- The state `u` is `s` with its silence timer restarted and the handover of record `r` to position `j` complete
(R121). -/
structure MoveDone (s : State) (c : CallNo) (r : Handover) (j : ChanNo) (u : State) : Prop where
  chans : ∀ x k, u.chan x k = (s.arrivedTables c r j).chan x k
  calls : u.calls = (s.arrivedTables c r j).calls
  roster : u.roster = (s.arrivedTables c r j).roster
  links : u.links = (s.restartSilence r.target).links
  rest : u.wire = s.wire ∧ u.batch = s.batch
  counters : u.counters = ((s.bumpBase r.target .handoversIn).bumpBase s.calls[c].base .handoversOut).counters
  mark : ∃ v, u.acu.callMarks[c] = some v ∧ v &&& attnMoved = attnMoved
  quiet : r.slot = none → u.oru = s.oru
  answer : ∀ i, r.slot = some i →
    u.oru = (s.handBack i (moveResult (s.arrivedCall c r j s.calls[c]) r.tag)).oru

theorem completeHandover_moveDone (hs : s.switched c r.target j r.tag) (hm : s.calls[c].state = .moving)
    (hr : s.roster[s.calls[c].handset].registered = true) :
    MoveDone s c r j ((s.restartSilence r.target).completeHandover c r j) := by
  have hv : (s.restartSilence r.target).calls = s.calls := restartSilence_calls s r.target
  have ho : (s.restartSilence r.target).oru = s.oru := restartSilence_oru s r.target
  have ks := restartSilence_switched hs r.target
  have km : (s.restartSilence r.target).calls[c].state = .moving := by rw [hv]; exact hm
  have kr : (s.restartSilence r.target).roster[(s.restartSilence r.target).calls[c].handset].registered = true := by
    simp only [hv, restartSilence_roster]
    exact hr
  have hframe := (completeHandover_frame ks km kr).trans (restartSilence_arrivedTables s r.target c r j)
  have hcounters := completeHandover_counters ks km kr
  have hmark := completeHandover_mark ks km kr
  have hquiet := completeHandover_oru_of_none ks km kr
  have hanswer := fun i (h : r.slot = some i) => completeHandover_oru_of_slot ks km kr h
  generalize (s.restartSilence r.target).completeHandover c r j = u at *
  refine ⟨fun x k => (congrArg (fun v : State => v.chan x k) hframe :), (congrArg State.calls hframe :),
    (congrArg State.roster hframe :), (congrArg State.links hframe :),
    ⟨(congrArg State.wire hframe :), (congrArg State.batch hframe :)⟩, ?_, hmark, fun h => (hquiet h).trans ho,
    fun i h => ?_⟩
  · simp only [hv] at hcounters
    exact hcounters.trans (bumpBase_counters_congr (bumpBase_counters_congr (restartSilence_counters s _) _ _) _ _)
  · rw [hanswer i h, hv, restartSilence_arrivedCall, handBack_oru_congr ho]

namespace MoveDone

variable {u : State}

theorem call (h : MoveDone s c r j u) : u.calls[c] = s.arrivedCall c r j s.calls[c] := by
  rw [h.calls, arrivedTables_self]

theorem neighbours (h : MoveDone s c r j u) : u.calls[c].neighbours = s.changedSet c s.calls[c].base r.target := by
  rw [h.call]
  rfl

theorem moves (h : MoveDone s c r j u) :
    u.baseCount r.target .handoversIn = satSucc (s.baseCount r.target .handoversIn) ∧
      u.baseCount s.calls[c].base .handoversOut = satSucc (s.baseCount s.calls[c].base .handoversOut) := by
  have e : ∀ x k, u.baseCount x k =
      ((s.bumpBase r.target .handoversIn).bumpBase s.calls[c].base .handoversOut).baseCount x k := fun x k => by
    rw [State.baseCount, h.counters]
    rfl
  constructor
  · rw [e, baseCount_bumpBase, if_neg (by simp), baseCount_bumpBase, if_pos ⟨rfl, rfl⟩]
  · rw [e, baseCount_bumpBase, if_pos ⟨rfl, rfl⟩, baseCount_bumpBase, if_neg (by simp)]

end MoveDone

/-- Settles O38: the notices by the drain record, and the completed handover table by table. -/
theorem arrivedCompletesTheMove : Obligations.ArrivedCompletesTheMove := by
  refine ⟨fun _ _ => rfl, fun s b h => notices_of_no_drain h, fun b d s h => ⟨fun hp => ⟨fun hn => ?_, fun hn => ?_⟩,
    fun hp => notices_of_clearing h hp⟩, fun b j c g r s hs ha hr hb hj hg => ?_⟩
  · rw [callLeftNotice_of_active h hp, callEndNotice_of_active h hp, drainCheck_setDrain, drainCheck_setDrain,
      if_neg hn, if_neg hn]
    exact ⟨rfl, rfl⟩
  · rw [callLeftNotice_of_active h hp, callEndNotice_of_active h hp, drainCheck_setDrain, drainCheck_setDrain,
      if_pos hn, if_pos hn]
    exact ⟨rfl, rfl⟩
  · subst hb hg
    refine ⟨fun hn => ?_, fun hsw hm hleave hres hreg => ?_⟩
    · rw [exec_arrived_of_match hs ha hr hj, if_neg hn]
    have h : MoveDone s c r j ((s.restartSilence r.target).completeHandover c r j) :=
      completeHandover_moveDone ⟨hleave, hres⟩ hm hreg
    obtain ⟨hin, hout⟩ := h.moves
    obtain ⟨hwire, hbatch⟩ := h.rest
    refine ⟨_, ?_, fun x k => (h.chans x k).trans (arrivedTables_chan s c r j x k), ?_, ?_, ?_, ?_, ?_, ?_,
      fun n hn => ?_, ?_, ?_, ?_, ?_, fun d hd => ?_, ?_,
      fun x hx => ?_, hin, hout, h.mark, h.links, hwire, hbatch, fun f hf hi => ?_,
      fun hk => ?_, h.quiet, fun i hi => ?_⟩
    · rw [exec_arrived_of_match hs ha hr hj, if_pos hsw, State.arrive]
      simp only [restartSilence_calls, restartSilence_service]
    · rw [h.call]; rfl
    · rw [h.call]; rfl
    · rw [h.call]; rfl
    · rw [h.call]; rfl
    · rw [h.call]; exact succTo255_eq _
    · rw [h.call]; rfl
    · rw [h.neighbours] at hn
      exact mem_changedSet hn
    · rw [h.call]; rfl
    · rw [h.call]; rfl
    · rw [h.call]; rfl
    · rw [h.call]; rfl
    · rw [h.calls, arrivedTables_other hd]
    · rw [h.roster, arrivedTables_handset]; rfl
    · rw [h.roster, arrivedTables_others hx]
    · rw [h.neighbours, changedSet_of_filter hf hi]
    · rw [h.neighbours, changedSet_of_rest hk]
    · rw [h.answer i hi, moveResult, ← succTo255_eq]
      rfl

end Sys2Proof.Machine
end

section
/-! SUPPORT. The write-back of records and attention bits (R149, R157, R158): O47. -/

namespace Sys2Proof.Machine

open Sys2Proof

/-! ### Fields of a record -/

/-- The number that bytes make, least significant first. -/
def leNat (l : List Byte) : Nat := l.foldr (fun b k => b.toNat + 256 * k) 0

theorem leNat_snoc (l : List Byte) (x : Byte) : leNat (l ++ [x]) = leNat l + 256 ^ l.length * x.toNat := by
  induction l with
  | nil => simp [leNat]
  | cons y r ih =>
    have hc : ∀ m : List Byte, leNat (y :: m) = y.toNat + 256 * leNat m := fun _ => rfl
    rw [List.cons_append, hc, hc, ih, List.length_cons, pow_succ]
    ring

/-- The bytes of a field make the field's low part. -/
theorem leNat_leBytes {n : Nat} (k : Nat) (w : BitVec n) : leNat (leBytes k w) = w.toNat % 256 ^ k := by
  induction k with
  | zero => rw [pow_zero, Nat.mod_one]; rfl
  | succ k ih =>
    have hs : leBytes (k + 1) w = leBytes k w ++ [byteOf w k] := by simp [leBytes, List.range_succ]
    have hl : (leBytes k w).length = k := by simp [leBytes]
    have hb : (byteOf w k).toNat = w.toNat / 256 ^ k % 256 := byteNat_eq w k
    rw [hs, leNat_snoc, ih, hl, hb, Nat.mod_pow_succ]

/-- A field of whole bytes is written whole. -/
theorem leNat_whole {n : Nat} (k : Nat) (w : BitVec n) (h : 2 ^ n = 256 ^ k) : leNat (leBytes k w) = w.toNat := by
  rw [leNat_leBytes, ← h]
  exact Nat.mod_eq_of_lt w.isLt

theorem leNat_le16 (k : Nat) : leNat (le16 k) = k % 65536 := by
  rw [le16, leNat_whole 2 _ (by decide), BitVec.toNat_ofNat]

theorem leNat_single (x : Byte) : leNat [x] = x.toNat := by simp [leNat]

theorem leNat_byte1 (k : Nat) : leNat [byte1 k] = k % 256 := by
  rw [leNat_single, byte1, BitVec.toNat_ofNat]

/-- A number below 256 is written in one byte whole. -/
theorem leNat_byte1_fin {n : Nat} (k : Fin n) (h : n ≤ 256 := by decide) : leNat [byte1 k.val] = k.val := by
  rw [leNat_byte1]
  exact Nat.mod_eq_of_lt (k.isLt.trans_le h)

/-- A number below 65536 is written in two bytes whole. -/
theorem leNat_le16_fin {n : Nat} (k : Fin n) (h : n ≤ 65536 := by decide) : leNat (le16 k.val) = k.val := by
  rw [leNat_le16]
  exact Nat.mod_eq_of_lt (k.isLt.trans_le h)

/-! ### The presence record (Table 9-7) -/

theorem presenceStatus_toNat (e : RosterEntry) :
    (presenceStatus e).toNat = e.registered.toNat + 2 * e.call.isSome.toNat + 4 * e.expiry.isSome.toNat := by
  unfold presenceStatus
  generalize e.registered = x
  generalize e.call.isSome = y
  generalize e.expiry.isSome = z
  revert x y z
  decide

theorem presence_fields (n : BitVec 16) (h : HandsetNo) (e : RosterEntry) (l : List Byte)
    (hl : l = presenceBytes n h e) :
      l.length = 32 ∧ fieldAt l 0 2 = n.toNat ∧ fieldAt l 2 2 = h.val ∧
      fieldAt l 4 1 = e.registered.toNat + 2 * e.call.isSome.toNat + 4 * e.expiry.isSome.toNat ∧
      fieldAt l 5 1 = (if e.cls = .priority then 1 else 0) ∧ fieldAt l 6 1 = e.lastBase.val ∧
      fieldAt l 7 1 = e.lastZone.val ∧ fieldAt l 8 5 = e.identity.toNat ∧
      fieldAt l 13 1 = (match e.call with | some c => c.val | none => 0) ∧ fieldAt l 14 2 = e.check.toNat ∧
      fieldAt l 16 2 = e.subIndex % 65536 ∧ fieldAt l 18 2 = e.zoneMask.toNat ∧
      fieldAt l 20 4 = e.attachFrame.toNat ∧ fieldAt l 24 4 = e.heardFrame.toNat ∧
      fieldAt l 28 4 = (match e.expiry with | some f => f.toNat | none => 0) := by
  subst hl
  refine ⟨rfl, leNat_whole 2 n (by decide), leNat_le16_fin h, ?_, ?_, leNat_byte1_fin e.lastBase,
    leNat_byte1_fin e.lastZone, leNat_whole 5 e.identity (by decide), ?_, leNat_whole 2 e.check (by decide),
    leNat_le16 e.subIndex, leNat_whole 2 e.zoneMask (by decide), leNat_whole 4 e.attachFrame (by decide),
    leNat_whole 4 e.heardFrame (by decide), ?_⟩
  · exact (leNat_single (presenceStatus e)).trans (presenceStatus_toNat e)
  · refine (leNat_single (classCode e.cls)).trans ?_
    cases e.cls <;> rfl
  · refine (leNat_single _).trans ?_
    cases e.call with
    | none => rfl
    | some c => exact (leNat_single _).symm.trans (leNat_byte1_fin c)
  · refine (leNat_whole 4 (e.expiry.getD 0) (by decide)).trans ?_
    cases e.expiry <;> rfl

/-! ### The call record (Table 9-7) -/

/-- What the two bytes of the serving filter hold. -/
def filterField : Option Nat → Nat
  | some f => f
  | none => 0xFFFF

/-- What the bytes of the first neighbour hold: its base, then its level. -/
def firstBase : List Neighbour → Nat
  | x :: _ => x.base.val
  | [] => 0xFF

def firstLevel : List Neighbour → Nat
  | x :: _ => x.level
  | [] => 0

/-- The five bytes of the handover record, by position. -/
def handoverField (h : Option Handover) (f : Handover → Byte) : Byte :=
  match h with
  | some r => f r
  | none => 0

theorem neighbour_bytes (l : List Neighbour) :
    neighbourBytes l = [byte1 l.length, byte1 (firstBase l)] ++ le16 (firstLevel l) := by
  cases l <;> rfl

theorem handover_bytes (h : Option Handover) :
    handoverBytes h = [handoverField h fun r => kindCode r.kind, handoverField h fun r => handoverStateCode r.state,
      handoverField h fun r => byte1 r.target.val, handoverField h Handover.tag,
      handoverField h fun r => if r.oldDropped then 1 else 0] := by
  cases h <;> rfl

/-- A call record as bytes whose number does not depend on the entry. -/
theorem callBytes_eq (n : BitVec 16) (c : CallNo) (e : Call) :
    callBytes n c e =
      leBytes 2 n ++ [byte1 c.val, callStateCode e.state] ++ le16 e.handset.val
        ++ [byte1 e.base.val, byte1 e.channel.val, originCode e.origin, byte1 e.handoverCount,
          endReasonCode e.endReason, abortCode e.lastAbort]
        ++ leBytes 4 e.setupFrame ++ le16 (filterField e.filter)
        ++ ([byte1 e.neighbours.length, byte1 (firstBase e.neighbours)] ++ le16 (firstLevel e.neighbours))
        ++ [watchCode e.watch, byte1 e.watchCount]
        ++ [handoverField e.handover fun r => kindCode r.kind,
          handoverField e.handover fun r => handoverStateCode r.state,
          handoverField e.handover fun r => byte1 r.target.val, handoverField e.handover Handover.tag,
          handoverField e.handover fun r => if r.oldDropped then 1 else 0] ++ [0, 0, 0] := by
  rw [callBytes, neighbour_bytes, handover_bytes]
  cases e.filter <;> rfl

theorem endReasonCode_toNat (r : Option EndReason) :
    (endReasonCode r).toNat = (match r with
        | none => 0 | some .hangup => 1 | some .radioLost => 2 | some .cleared => 3 | some .reattach => 4
        | some .detached => 5 | some .drained => 6 | some .stopped => 7 | some .baseLost => 8) := by
  cases r with
  | none => rfl
  | some r => cases r <;> rfl

theorem abortCode_toNat (r : Option AbortReason) :
    (abortCode r).toNat = (match r with
        | none => 0 | some .refused => 1 | some .noAnswer => 2 | some .noChannel => 3 | some .targetDrop => 4
        | some .noArrival => 5 | some .noLinkRoom => 6 | some .drain => 7 | some .targetLost => 8
        | some .cancelled => 9 | some .callEnded => 10) := by
  cases r with
  | none => rfl
  | some r => cases r <;> rfl

theorem call_fields (n : BitVec 16) (c : CallNo) (e : Call) (l : List Byte) (hl : l = callBytes n c e) :
      l.length = 32 ∧ fieldAt l 0 2 = n.toNat ∧ fieldAt l 2 1 = c.val ∧
      fieldAt l 3 1 = (match e.state with | .free => 0 | .connected => 1 | .moving => 2 | .ended => 3) ∧
      fieldAt l 4 2 = e.handset.val ∧ fieldAt l 6 1 = e.base.val ∧ fieldAt l 7 1 = e.channel.val ∧
      fieldAt l 8 1 = (match e.origin with | .local => 0 | .paged => 1) ∧ fieldAt l 9 1 = e.handoverCount % 256 ∧
      fieldAt l 10 1 = (match e.endReason with
        | none => 0 | some .hangup => 1 | some .radioLost => 2 | some .cleared => 3 | some .reattach => 4
        | some .detached => 5 | some .drained => 6 | some .stopped => 7 | some .baseLost => 8) ∧
      fieldAt l 11 1 = (match e.lastAbort with
        | none => 0 | some .refused => 1 | some .noAnswer => 2 | some .noChannel => 3 | some .targetDrop => 4
        | some .noArrival => 5 | some .noLinkRoom => 6 | some .drain => 7 | some .targetLost => 8
        | some .cancelled => 9 | some .callEnded => 10) ∧
      fieldAt l 12 4 = e.setupFrame.toNat ∧
      fieldAt l 16 2 = (match e.filter with | some f => f % 65536 | none => 0xFFFF) ∧
      fieldAt l 18 1 = e.neighbours.length % 256 ∧
      fieldAt l 19 1 = (match e.neighbours with | x :: _ => x.base.val | [] => 0xFF) ∧
      fieldAt l 20 2 = (match e.neighbours with | x :: _ => x.level % 65536 | [] => 0) ∧
      fieldAt l 22 1 = (match e.watch with | .normal => 0 | .suspect => 1 | .weak => 2) ∧
      fieldAt l 23 1 = e.watchCount % 256 ∧
      (e.handover = none → fieldAt l 24 5 = 0) ∧
      (∀ r, e.handover = some r →
        fieldAt l 24 1 = (match r.kind with | .decision => 1 | .forced => 2 | .drain => 3) ∧
        fieldAt l 25 1 = (match r.state with | .reserving => 1 | .awaitMark => 2 | .switching => 3) ∧
        fieldAt l 26 1 = r.target.val ∧ fieldAt l 27 1 = r.tag.toNat ∧ fieldAt l 28 1 = r.oldDropped.toNat) ∧
      fieldAt l 29 3 = 0 := by
  rw [callBytes_eq] at hl
  subst hl
  refine ⟨rfl, leNat_whole 2 n (by decide), leNat_byte1_fin c, ?_, leNat_le16_fin e.handset, leNat_byte1_fin e.base,
    leNat_byte1_fin e.channel, ?_, leNat_byte1 e.handoverCount, ?_, ?_, leNat_whole 4 e.setupFrame (by decide), ?_,
    leNat_byte1 e.neighbours.length, ?_, ?_, ?_, leNat_byte1 e.watchCount, fun hn => ?_, fun r hr => ?_, rfl⟩
  · refine (leNat_single (callStateCode e.state)).trans ?_
    cases e.state <;> rfl
  · refine (leNat_single (originCode e.origin)).trans ?_
    cases e.origin <;> rfl
  · exact (leNat_single (endReasonCode e.endReason)).trans (endReasonCode_toNat _)
  · exact (leNat_single (abortCode e.lastAbort)).trans (abortCode_toNat _)
  · refine (leNat_le16 (filterField e.filter)).trans ?_
    cases e.filter <;> rfl
  · refine (leNat_byte1 (firstBase e.neighbours)).trans ?_
    cases e.neighbours with
    | nil => rfl
    | cons x r => exact Nat.mod_eq_of_lt (x.base.isLt.trans (by decide))
  · refine (leNat_le16 (firstLevel e.neighbours)).trans ?_
    cases e.neighbours <;> rfl
  · refine (leNat_single (watchCode e.watch)).trans ?_
    cases e.watch <;> rfl
  · rw [hn]
    rfl
  · rw [hr]
    refine ⟨(leNat_single (kindCode r.kind)).trans ?_, (leNat_single (handoverStateCode r.state)).trans ?_,
      leNat_byte1_fin r.target, leNat_single r.tag, (leNat_single (if r.oldDropped then 1 else 0)).trans ?_⟩
    · cases r.kind <;> rfl
    · cases r.state <;> rfl
    · cases r.oldDropped <;> rfl

variable {s : State}

/-! ### The byte that goes first (R157, R161) -/

/-- Of an ascending list the lowest entry that satisfies a test is the first that does. -/
theorem head?_filter_lowest {α : Type} {n : Nat} {l : List (Fin n × α)} {p : Fin n × α → Bool} {x : Fin n × α}
    (ha : l.Pairwise fun a b => a.1 < b.1) (hx : x ∈ l) (hp : p x = true)
    (hlow : ∀ y ∈ l, p y = true → ¬y.1 < x.1) : (l.filter p).head? = some x := by
  have hm : x ∈ l.filter p := List.mem_filter.mpr ⟨hx, hp⟩
  have hs := ha.sublist (List.filter_sublist (p := p))
  cases hf : l.filter p with
  | nil =>
    rw [hf] at hm
    cases hm
  | cons y r =>
    rw [hf] at hm hs
    obtain ⟨hy, hpy⟩ := List.mem_filter.mp (by rw [hf]; exact .head r : y ∈ l.filter p)
    rcases List.mem_cons.mp hm with rfl | hr
    · rfl
    · exact absurd ((List.pairwise_cons.mp hs).1 x hr) (hlow y hy hpy)

theorem pendingByte_running (hh : s.regs.halting = false) :
    s.pendingByte = if s.acu.devicePending != 0 then some .device else
      match lowestWhere s.acu.basePending (· != 0) with
      | some b => some (.base b)
      | none => (lowestWhere s.acu.slotPending (· != 0)).map .slot := by
  rw [State.pendingByte, hh]
  rfl

theorem pendingByte_device (hh : s.regs.halting = false) (hd : s.acu.devicePending ≠ 0) :
    s.pendingByte = some .device := by
  rw [pendingByte_running hh, if_pos (bne_iff_ne.mpr hd)]

theorem pendingByte_base {b : BaseNo} (hh : s.regs.halting = false) (hd : s.acu.devicePending = 0)
    (hb : s.acu.basePending[b] ≠ 0) (hlow : ∀ x < b, s.acu.basePending[x] = 0) : s.pendingByte = some (.base b) := by
  have hl : lowestWhere s.acu.basePending (· != 0) = some b :=
    lowestWhere_eq_some (bne_iff_ne.mpr hb) fun x hx => by rw [hlow x hx]; rfl
  rw [pendingByte_running hh, hd, hl]
  rfl

theorem pendingByte_slots (hh : s.regs.halting = false) (hd : s.acu.devicePending = 0)
    (hb : ∀ b : BaseNo, s.acu.basePending[b] = 0) :
    s.pendingByte = (lowestWhere s.acu.slotPending (· != 0)).map .slot := by
  have hl : lowestWhere s.acu.basePending (· != 0) = none := lowestWhere_none.mpr fun b => by rw [hb]; rfl
  rw [pendingByte_running hh, hd, hl]
  rfl

theorem pendingByte_slot {i : SlotNo} (hh : s.regs.halting = false) (hd : s.acu.devicePending = 0)
    (hb : ∀ b : BaseNo, s.acu.basePending[b] = 0) (hi : s.acu.slotPending[i] ≠ 0)
    (hlow : ∀ x < i, s.acu.slotPending[x] = 0) : s.pendingByte = some (.slot i) := by
  have hl : lowestWhere s.acu.slotPending (· != 0) = some i :=
    lowestWhere_eq_some (bne_iff_ne.mpr hi) fun x hx => by rw [hlow x hx]; rfl
  rw [pendingByte_slots hh hd hb, hl]
  rfl

theorem pendingByte_none (hh : s.regs.halting = false) (hd : s.acu.devicePending = 0)
    (hb : ∀ b : BaseNo, s.acu.basePending[b] = 0) (hi : ∀ i : SlotNo, s.acu.slotPending[i] = 0) :
    s.pendingByte = none := by
  have hl : lowestWhere s.acu.slotPending (· != 0) = none := lowestWhere_none.mpr fun i => by rw [hi]; rfl
  rw [pendingByte_slots hh hd hb, hl]
  rfl

theorem pendingByte_halting (hh : s.regs.halting = true) :
    s.pendingByte = (((enumTable s.acu.slotPending).filter fun e =>
      e.2 != 0 && s.regs.haltSlots.contains e.1).head?).map fun e => .slot e.1 := by
  rw [State.pendingByte, hh]
  rfl

theorem pendingByte_haltSlot {i : SlotNo} (hh : s.regs.halting = true) (hi : i ∈ s.regs.haltSlots)
    (hp : s.acu.slotPending[i] ≠ 0) (hlow : ∀ x ∈ s.regs.haltSlots, x < i → s.acu.slotPending[x] = 0) :
    s.pendingByte = some (.slot i) := by
  have hf : ((enumTable s.acu.slotPending).filter fun e => e.2 != 0 && s.regs.haltSlots.contains e.1).head? =
      some (i, s.acu.slotPending[i]) := by
    refine head?_filter_lowest (enumFrom_ascending _ 0 (by simp)) ((mem_enumTable _ i _).mpr rfl) ?_ ?_
    · simpa using And.intro hp hi
    · rintro ⟨x, v⟩ hx hpx hlt
      have hv := (mem_enumTable _ x v).mp hx
      obtain ⟨hne, hmem⟩ : v ≠ 0 ∧ x ∈ s.regs.haltSlots := by simpa using hpx
      exact hne (hv.symm.trans (hlow x hmem hlt))
  rw [pendingByte_halting hh, hf]
  rfl

theorem pendingByte_haltNone (hh : s.regs.halting = true) (hn : ∀ i ∈ s.regs.haltSlots, s.acu.slotPending[i] = 0) :
    s.pendingByte = none := by
  rw [pendingByte_halting hh, Option.map_eq_none_iff, List.head?_eq_none_iff, List.filter_eq_nil_iff]
  rintro ⟨i, v⟩ hi hp
  obtain ⟨hne, hmem⟩ : v ≠ 0 ∧ i ∈ s.regs.haltSlots := by simpa using hp
  exact hne (((mem_enumTable _ i v).mp hi).symm.trans (hn i hmem))

/-- The pending-bit sets are those of the device, the bases and the slots. -/
theorem pendingByte_kind {t : AttnByte} (h : s.pendingByte = some t) :
    t = .device ∨ (∃ b, t = .base b) ∨ ∃ i, t = .slot i := by
  cases hh : s.regs.halting with
  | true =>
    rw [pendingByte_halting hh] at h
    obtain ⟨e, -, rfl⟩ := Option.map_eq_some_iff.mp h
    exact .inr (.inr ⟨_, rfl⟩)
  | false =>
    rw [pendingByte_running hh] at h
    split at h
    · cases h
      exact .inl rfl
    · split at h
      · cases h
        exact .inr (.inl ⟨_, rfl⟩)
      · obtain ⟨i, -, rfl⟩ := Option.map_eq_some_iff.mp h
        exact .inr (.inr ⟨i, rfl⟩)

/-! ### The next piece of work (R157) -/

theorem acuBegin_of_pending {t : AttnByte} (hj : s.acu.job = none) (hp : s.regs.part = .running)
    (h : s.pendingByte = some t) :
    s.acuBegin = some ((s.updAcu fun a => { a.clearPending t with
      job := some (.setBits t (a.pendingBits t) .readByte none) }).beginAccess (.attnRead t)) := by
  rw [State.acuBegin, hj]
  dsimp only
  rw [hp, h]
  rfl

theorem acuBegin_of_record {r : RecordRef} {q : List RecordRef} (hj : s.acu.job = none) (hs : s.serves = true)
    (hp : s.pendingByte = none) (hn : s.acu.snapshots = []) (hq : s.acu.queue = r :: q) :
    s.acuBegin = some ((s.beginAccess (.recordWrite r)).updAcu fun a => { a.takeRecord r with
      job := some (.record r (a.markBits r) (s.writesEnded r)) }) := by
  obtain ⟨hr, hh⟩ : s.regs.part = .running ∧ s.regs.halting = false := by simpa [State.serves] using hs
  rw [State.acuBegin, hj]
  dsimp only
  rw [hr, hp, hh, hn, hq]
  rfl

theorem takeRecord_queue (a : Acu) (r : RecordRef) : (a.takeRecord r).queue = a.queue.tail := by cases r <;> rfl

/-- The mark of a record that is taken is cleared (R157). -/
theorem takeRecord_markBits (a : Acu) (r : RecordRef) : (a.takeRecord r).markBits r = 0 := by
  cases r with
  | handset h =>
    rw [Acu.markBits, Acu.takeRecord]
    dsimp only
    rw [getElem_set_fin, if_pos rfl]
    rfl
  | call c =>
    rw [Acu.markBits, Acu.takeRecord]
    dsimp only
    rw [getElem_set_fin, if_pos rfl]
    rfl

/-! ### Completions (R157, R158) -/

theorem exec_recordWriteDone : exec .recordWriteDone s = execRecordWriteDone s := rfl
theorem exec_attentionByteAccessDone (data : Byte) :
    exec (.attentionByteAccessDone data) s = execAttentionByteAccessDone data s := rfl
theorem exec_summaryByteAccessDone (data : Byte) :
    exec (.summaryByteAccessDone data) s = execSummaryByteAccessDone data s := rfl

theorem exec_recordWriteDone_of_job {r : RecordRef} {bits : Byte} {ended : Bool} (hk : s.accessing (.recordWrite r))
    (hj : s.acu.job = some (.record r bits ended)) :
    exec .recordWriteDone s = .next ((s.completeAccess (0 : BitVec 0)).recordWritten r bits ended).settle := by
  rw [exec_recordWriteDone, execRecordWriteDone]
  refine onAccess_of hk ?_
  dsimp only
  rw [completeAccess_acu, hj]

theorem exec_attentionByte_read {t : AttnByte} (hk : s.accessing (.attnRead t)) (data : Byte) :
    exec (.attentionByteAccessDone data) s = .next ((s.completeAccess data).byteRead data).settle := by
  rw [exec_attentionByteAccessDone, execAttentionByteAccessDone]
  exact onAccess_of hk rfl

theorem exec_attentionByte_written {t : AttnByte} {v : Byte} (hk : s.accessing (.attnWrite t v)) (data : Byte) :
    exec (.attentionByteAccessDone data) s = .next (s.completeAccess data).byteWritten.settle := by
  rw [exec_attentionByteAccessDone, execAttentionByteAccessDone]
  exact onAccess_of hk rfl

theorem exec_summaryByte_read {t : AttnByte} (hk : s.accessing (.sumRead t)) (data : Byte) :
    exec (.summaryByteAccessDone data) s = .next ((s.completeAccess data).summaryRead data).settle := by
  rw [exec_summaryByteAccessDone, execSummaryByteAccessDone]
  exact onAccess_of hk rfl

theorem exec_summaryByte_written {t : AttnByte} {v : Byte} (hk : s.accessing (.sumWrite t v)) (data : Byte) :
    exec (.summaryByteAccessDone data) s = .next (s.completeAccess data).summaryWritten.settle := by
  rw [exec_summaryByteAccessDone, execSummaryByteAccessDone]
  exact onAccess_of hk rfl

section
variable {t : AttnByte} {bits : Byte} {rep : Option (CallNo × Bool)}

/-! Each stage of setting the bits of a byte leads to the next (R158). -/

theorem byteRead_of_job (h : s.acu.job = some (.setBits t bits .readByte rep)) (data : Byte) :
    s.byteRead data = s.setJob (some (.setBits t bits (.writeByte (data ||| bits)) rep)) := by
  rw [State.byteRead, h]

theorem byteWritten_of_job {v : Byte} (h : s.acu.job = some (.setBits t bits (.writeByte v) rep)) :
    s.byteWritten = if t = .device then s.bitsSet rep else s.setJob (some (.setBits t bits .readSummary rep)) := by
  rw [State.byteWritten, h]

theorem summaryRead_of_job (h : s.acu.job = some (.setBits t bits .readSummary rep)) (data : Byte) :
    s.summaryRead data = s.setJob (some (.setBits t bits (.writeSummary (data ||| 1)) rep)) := by
  rw [State.summaryRead, h]

theorem summaryWritten_of_job {v : Byte} (h : s.acu.job = some (.setBits t bits (.writeSummary v) rep)) :
    s.summaryWritten = s.bitsSet rep := by
  rw [State.summaryWritten, h]

end

theorem recordWritten_eq (s : State) (r : RecordRef) (bits : Byte) (ended : Bool) :
    s.recordWritten r bits ended = if bits = 0 then (s.setJob none).giveReport (reportOf r ended)
      else s.setJob (some (.setBits (recordByte r) bits .readByte (reportOf r ended))) := rfl

/-- A write report frees the entry of a call written ENDED that is not dirty again (R59). -/
theorem giveReport_some (s : State) (c : CallNo) (ended : Bool) :
    s.giveReport (some (c, ended)) =
      if ended = true ∧ s.calls[c].state = .ended ∧ s.acu.callMarks[c] = none then s.updCall c releasedCall
      else s := rfl

/-! ### Marks and places -/

/-- Marks join the queue, or are added in place (R157). -/
theorem markHandset_of_clean {h : HandsetNo} {bits : Byte} (hm : s.acu.handsetMarks[h] = none) :
    s.markHandset h bits = s.updAcu fun a => { a with
      handsetMarks := a.handsetMarks.set h (some bits), queue := a.queue ++ [.handset h] } := by
  rw [State.markHandset, hm]
  rfl

theorem markHandset_of_dirty {h : HandsetNo} {bits old : Byte} (hm : s.acu.handsetMarks[h] = some old) :
    s.markHandset h bits = s.updAcu fun a => { a with
      handsetMarks := a.handsetMarks.set h (some (old ||| bits)) } := by
  rw [State.markHandset, hm]
  rfl

theorem markCall_of_clean {c : CallNo} {bits : Byte} (hm : s.acu.callMarks[c] = none) :
    s.markCall c bits = s.updAcu fun a => { a with
      callMarks := a.callMarks.set c (some bits), queue := a.queue ++ [.call c] } := by
  rw [State.markCall, hm]
  rfl

theorem markCall_of_dirty {c : CallNo} {bits old : Byte} (hm : s.acu.callMarks[c] = some old) :
    s.markCall c bits = s.updAcu fun a => { a with callMarks := a.callMarks.set c (some (old ||| bits)) } := by
  rw [State.markCall, hm]
  rfl

theorem summaryIndex_of_offset {t : AttnByte} (ht : t ≠ .device) : summaryIndex t = (attnOffset t - 0x1040) / 16 := by
  cases t with
  | device => exact absurd rfl ht
  | handset h => simp only [summaryIndex, attnOffset]; omega
  | call c => simp only [summaryIndex, attnOffset]; omega
  | base b => simp only [summaryIndex, attnOffset]; omega
  | slot i => simp only [summaryIndex, attnOffset]; omega

/-- Settles O47: layouts by their bytes, marks and pending bits by their cases, and each completion by its stage. -/
theorem writeBackSetsItsBits : Obligations.WriteBackSetsItsBits := by
  refine ⟨by decide, fun s h c ended f => ⟨rfl, rfl, rfl, rfl, beq_iff_eq, rfl, rfl, rfl, rfl⟩, presence_fields,
    call_fields, fun h c b i => ⟨rfl, rfl, rfl, rfl, rfl, rfl, rfl, rfl, rfl, fun t ht => summaryIndex_of_offset ht⟩,
    fun s => ⟨fun r => by cases r <;> exact ⟨rfl, rfl, rfl⟩,
      fun h bits => ⟨markHandset_of_clean, fun old => markHandset_of_dirty⟩,
      fun c bits => ⟨markCall_of_clean, fun old => markCall_of_dirty⟩, fun b i bits => ⟨rfl, rfl, rfl⟩,
      fun hh => ⟨pendingByte_device hh, fun hd => ⟨fun b hb hlow => pendingByte_base hh hd hb hlow, fun hb =>
        ⟨fun i hi hlow => pendingByte_slot hh hd hb hi hlow, pendingByte_none hh hd hb⟩⟩⟩,
      fun hh => ⟨fun i hi hp hlow => pendingByte_haltSlot hh hi hp hlow, pendingByte_haltNone hh⟩,
      fun t bits acu hj hp ht e => ?_, fun r q hj hs hp hn hq => ?_,
      fun r bits ended hk hj => ⟨fun hb => ?_, fun hb => ?_⟩, fun t bits rep data hk hj => ?_,
      fun t bits v rep data hk hj => ⟨fun ht => ?_, fun ht => ?_⟩, fun t bits rep data hk hj => ?_,
      fun t bits v rep data hk hj => ?_, fun c ended => ⟨fun he hc hm => ?_, fun h => ?_⟩⟩⟩
  · refine ⟨_, acuBegin_of_pending hj hp ht, rfl, ?_, rfl⟩
    rcases pendingByte_kind ht with rfl | ⟨b, rfl⟩ | ⟨i, rfl⟩ <;> cases e <;> rfl
  · refine ⟨_, acuBegin_of_record hj hs hp hn hq, ?_, rfl, ?_, takeRecord_markBits s.acu r, rfl, rfl, rfl⟩
    · cases r <;> rfl
    · exact (takeRecord_queue s.acu r).trans (by rw [hq]; rfl)
  · rw [exec_recordWriteDone_of_job hk hj, recordWritten_eq, if_neg hb]
    rfl
  · rw [exec_recordWriteDone_of_job hk hj, recordWritten_eq, if_pos hb]
    rfl
  · rw [exec_attentionByte_read hk, byteRead_of_job (by rw [completeAccess_acu]; exact hj)]
    rfl
  · rw [exec_attentionByte_written hk, byteWritten_of_job (by rw [completeAccess_acu]; exact hj), if_neg ht]
    rfl
  · rw [exec_attentionByte_written hk, byteWritten_of_job (by rw [completeAccess_acu]; exact hj), if_pos ht]
    rfl
  · rw [exec_summaryByte_read hk, summaryRead_of_job (by rw [completeAccess_acu]; exact hj)]
    rfl
  · rw [exec_summaryByte_written hk, summaryWritten_of_job (by rw [completeAccess_acu]; exact hj)]
    rfl
  · rw [giveReport_some, if_pos ⟨he, hc, hm⟩]
    rfl
  · rw [giveReport_some, if_neg]
    rintro ⟨he, hc, hm⟩
    rcases h with h | h | h
    · rw [he] at h
      cases h
    · exact h hc
    · exact h hm

end Sys2Proof.Machine
end

section
/-! SUPPORT. The arithmetic of filtered levels and the rules of the neighbour set (R78 to R80, R83 to R87): O27, O28. -/

namespace Sys2Proof.Machine

open Sys2Proof

/-! ### Averaging (R79, R80) -/

/-- A step toward a target does not pass it downward (R79). -/
theorem le_filterStep {k : Nat} (hk : k ≠ 0) (d : Int) : min d 0 ≤ filterStep k d := by
  have hp : (0 : Int) < 2 ^ (k - 1) := by positivity
  have h2 : (2 : Int) * 2 ^ (k - 1) = 2 ^ k := mul_pow_sub_one hk 2
  have hd : min d 0 ≤ d := min_le_left d 0
  have h0 : min d 0 ≤ 0 := min_le_right d 0
  rw [filterStep, ← h2, Int.le_ediv_iff_mul_le (by linarith)]
  nlinarith

/-- A step is 0 exactly for a difference that rounds to 0, halves up (R79). -/
theorem filterStep_eq_zero_iff {k : Nat} (hk : k ≠ 0) (d : Int) :
    filterStep k d = 0 ↔ -2 ^ (k - 1) ≤ d ∧ d ≤ 2 ^ (k - 1) - 1 := by
  have hp : (0 : Int) < 2 ^ (k - 1) := by positivity
  have h2 : (2 : Int) * 2 ^ (k - 1) = 2 ^ k := mul_pow_sub_one hk 2
  have hlow : 0 ≤ filterStep k d ↔ 0 ≤ d + 2 ^ (k - 1) := Int.ediv_nonneg_iff_of_pos (by positivity)
  have hhigh : filterStep k d < 1 ↔ d + 2 ^ (k - 1) < 1 * 2 ^ k := Int.ediv_lt_iff_lt_mul (by positivity)
  omega

theorem average_shift_zero (f t : Nat) : average 0 f t = t := if_pos rfl

/-- The average before it is cut to a natural number: no step leads below 0. -/
theorem average_eq {k : Nat} (hk : k ≠ 0) (f t : Nat) : (average k f t : Int) = f + filterStep k ((t : Int) - f) := by
  have hlow := le_filterStep hk ((t : Int) - f)
  rw [average, if_neg hk]
  omega

/-- The target of a sample by the corrected level code, which is clamped (R78). -/
theorem sampleTarget_eq (code : LevelCode) (offset : Int) :
    (sampleTarget code offset : Int) = min (max ((code.val : Int) + offset) 0) 127 * 16 := by
  rw [sampleTarget, correctedCode, Config.levelCodeMax]
  omega

/-- Settles O27: from the bounds of a step and the differences that round to 0. -/
theorem filterArithmetic : Obligations.FilterArithmetic := by
  refine ⟨fun f t => ⟨average_shift_zero f t, fun k hk _ => ?_⟩, fun code offset => ?_⟩
  · have hk0 : k ≠ 0 := Nat.ne_of_gt hk
    have havg := average_eq hk0 f t
    have hlow := le_filterStep hk0 ((t : Int) - f)
    have hhigh := filterStep_le hk0 ((t : Int) - f)
    refine ⟨havg, fun _ => by omega, fun _ => by omega, ?_⟩
    rw [← filterStep_eq_zero_iff hk0]
    omega
  · have htarget := sampleTarget_eq code offset
    omega

/-! ### The order of a set (R87) -/

/-- An entry that another one does not stand before is at least as high, at a tie by its base number. -/
theorem not_ranksBefore_iff {m n : Neighbour} :
    ¬ranksBefore n m = true ↔ n.level < m.level ∨ (m.level = n.level ∧ m.base ≤ n.base) := by
  rw [ranksBefore_iff, not_or, not_and, not_lt, not_lt, le_iff_lt_or_eq]
  constructor
  · rintro ⟨hlt | heq, htie⟩
    · exact .inl hlt
    · exact .inr ⟨heq.symm, htie heq⟩
  · rintro (hlt | ⟨heq, hb⟩)
    · exact ⟨.inl hlt, fun heq => absurd heq hlt.ne⟩
    · exact ⟨.inr heq.symm, fun _ => hb⟩

theorem ranksBefore_asymm {m n : Neighbour} (h : ranksBefore m n = true) : ¬ranksBefore n m = true := by
  intro h'
  have hself := ranksBefore_iff.mp (ranksBefore_trans h h')
  exact hself.elim (lt_irrefl _) fun htie => lt_irrefl _ htie.2

/-- An entry put in its place leaves a set in order, whatever bases it holds. -/
theorem insertRanked_sorted {n : Neighbour} {l : List Neighbour}
    (h : l.Pairwise fun x y => ¬ranksBefore y x = true) :
    (insertRanked n l).Pairwise fun x y => ¬ranksBefore y x = true := by
  induction l with
  | nil => exact List.pairwise_singleton _ n
  | cons x r ih =>
    obtain ⟨hx, hr⟩ := List.pairwise_cons.mp h
    unfold insertRanked
    split
    · next hn =>
      refine List.pairwise_cons.mpr ⟨fun y hy hyn => ?_, h⟩
      rcases List.mem_cons.mp hy with rfl | hy
      · exact ranksBefore_asymm hn hyn
      · exact hx y hy (ranksBefore_trans hyn hn)
    · next hn =>
      refine List.pairwise_cons.mpr ⟨fun y hy => ?_, ih hr⟩
      rcases List.mem_cons.mp ((insertRanked_perm n r).mem_iff.mp hy) with rfl | hy
      · exact hn
      · exact hx y hy

theorem rankNeighbours_sorted (l : List Neighbour) :
    (rankNeighbours l).Pairwise fun x y => ¬ranksBefore y x = true := by
  induction l with
  | nil => exact .nil
  | cons x r ih => exact insertRanked_sorted ih

/-- The order of a set in terms of levels and base numbers. -/
theorem rankNeighbours_ordered (l : List Neighbour) :
    (rankNeighbours l).Pairwise fun x y => y.level < x.level ∨ (x.level = y.level ∧ x.base ≤ y.base) :=
  (rankNeighbours_sorted l).imp not_ranksBefore_iff.mp

/-- The last entry of a set that is not empty: no other is below it. -/
theorem rankNeighbours_last {l : List Neighbour} (h : l ≠ []) :
    ∃ last ∈ l, (rankNeighbours l).getLast? = some last ∧
      ∀ n ∈ l, last.level < n.level ∨ (n.level = last.level ∧ n.base ≤ last.base) := by
  have hmem : ∀ n, n ∈ rankNeighbours l ↔ n ∈ l := fun n => (rankNeighbours_perm l).mem_iff
  have hne : rankNeighbours l ≠ [] := fun e => h (List.perm_nil.mp (e ▸ (rankNeighbours_perm l).symm))
  refine ⟨_, (hmem _).mp (List.getLast_mem hne), List.getLast?_eq_some_getLast hne, fun n hn => ?_⟩
  have hsplit := List.dropLast_append_getLast hne
  have hord := rankNeighbours_ordered l
  rw [← hsplit] at hord
  rw [← hmem, ← hsplit, List.mem_append, List.mem_singleton] at hn
  rcases hn with hn | rfl
  · obtain ⟨-, -, hacross⟩ := List.pairwise_append.mp hord
    exact hacross n hn _ (.head _)
  · exact .inr ⟨rfl, le_rfl⟩

/-! ### Insertion (R85) -/

theorem insertNeighbour_of_room {l : List Neighbour} (h : l.length < 6) (b : BaseNo) (v : Nat) :
    insertNeighbour l b v = l ++ [⟨b, v, 0, 0⟩] := if_pos h

/-- A full set by the level of its last entry. -/
theorem insertNeighbour_of_full {l : List Neighbour} {last : Neighbour} (h : l.length = 6)
    (hlast : (rankNeighbours l).getLast? = some last) (b : BaseNo) (v : Nat) :
    insertNeighbour l b v =
      if last.level < v then (l.filter fun n => n.base != last.base) ++ [⟨b, v, 0, 0⟩] else l := by
  rw [insertNeighbour, if_neg (by rw [h]; decide), hlast]

/-- Among different bases, the entries of other bases than an entry's own are the other entries. -/
theorem filter_base_eq_erase {l : List Neighbour} {m : Neighbour} (h : (l.map (·.base)).Nodup) (hm : m ∈ l) :
    (l.filter fun n => n.base != m.base) = l.erase m := by
  rw [h.of_map.erase_eq_filter]
  refine List.filter_congr fun n hn => ?_
  have hb : n.base = m.base ↔ n = m := ⟨fun e => List.inj_on_of_nodup_map h hn hm e, congrArg _⟩
  rw [Bool.eq_iff_iff, bne_iff_ne, bne_iff_ne, ne_eq, hb]

/-! ### The pairs of a report (R83, R84) -/

/-- The number that `k` names below `n`. -/
theorem finOf_eq_some {n k : Nat} {x : Fin n} : finOf n k = some x ↔ x.val = k := by
  unfold finOf
  split
  · rw [Option.some_inj, Fin.ext_iff, eq_comm]
  · next h => exact ⟨nofun, fun e => absurd (e ▸ x.isLt) h⟩

section
variable {s : State} {b x : BaseNo} {p : PairScan} {e : ReportedBase × LevelCode}

/-- A pair is ignored where its base is not in service, serves the call, or was named before. -/
theorem takePair_of_ignored (k : Nat)
    (h : ∀ x : BaseNo, x.val = e.1.val → ¬s.inService x ∨ x = b ∨ e.1 ∈ p.seen) :
    s.takePair b k p e = { p with seen := p.seen ++ [e.1], ignored := p.ignored + 1 } := by
  unfold State.takePair
  dsimp only
  split
  · rfl
  · next x hx =>
    have hcase := h x (finOf_eq_some.mp hx)
    rw [if_pos]
    simpa [← Bool.not_eq_true, pairTaken_iff, State.inService, or_assoc] using hcase

/-- Any other pair brings its base's entry to a sample, or inserts it. -/
theorem takePair_of_taken (k : Nat) (hx : x.val = e.1.val) (hs : s.inService x) (hb : x ≠ b) (hp : e.1 ∉ p.seen) :
    s.takePair b k p e = {
      set := if hasNeighbour p.set x then updateNeighbour p.set x k (sampleTarget e.2 s.plan.offsets[x])
        else insertNeighbour p.set x (sampleTarget e.2 s.plan.offsets[x])
      seen := p.seen ++ [e.1], named := p.named ++ [x], ignored := p.ignored } := by
  rw [State.takePair, finOf_eq_some.mpr hx]
  refine if_neg ?_
  simp [pairTaken_iff.mpr hs, hb, hp]

end

theorem hasNeighbour_iff {l : List Neighbour} {x : BaseNo} : hasNeighbour l x = true ↔ ∃ n ∈ l, n.base = x := by
  simp [hasNeighbour]

/-- The pairs are taken one after another, in message order. -/
theorem takePairs_snoc (s : State) (b : BaseNo) (k : Nat) (set : List Neighbour)
    (l : List (ReportedBase × LevelCode)) (e : ReportedBase × LevelCode) :
    s.takePairs b k set (l ++ [e]) = s.takePair b k (s.takePairs b k set l) e :=
  List.foldl_concat _ _ _ _

/-! ### Ageing (R86) -/

/-- Ageing leaves the bases of a set in their order, but for those that leave it. -/
theorem ageNeighbours_bases (limit : Nat) (named : List BaseNo) (set : List Neighbour) :
    ((ageNeighbours limit named set).map (·.base)).Sublist (set.map (·.base)) := by
  have hage : (set.map fun n => if named.contains n.base then n else { n with age := n.age + 1 }).map (·.base) =
      set.map (·.base) := by
    rw [List.map_map]
    refine List.map_congr_left fun n _ => ?_
    dsimp only [Function.comp]
    split <;> rfl
  rw [← hage]
  exact List.filter_sublist.map _

/-- The entries after ageing: those named as they were, the others a report older, and all below the limit. -/
theorem mem_ageNeighbours {limit : Nat} {named : List BaseNo} {set : List Neighbour} {n : Neighbour} :
    n ∈ ageNeighbours limit named set ↔
      n.age < limit ∧
        ∃ m ∈ set, (m.base ∈ named → n = m) ∧ (m.base ∉ named → n = { m with age := m.age + 1 }) := by
  rw [ageNeighbours, List.mem_filter, List.mem_map, decide_eq_true_iff, and_comm]
  refine and_congr_right fun _ => exists_congr fun m => and_congr_right fun _ => ?_
  by_cases hm : m.base ∈ named <;> simp [hm, eq_comm]

/-- Settles O28: order, insertion, pairs and ageing, each from its own lemma. -/
theorem neighbourSetRules : Obligations.NeighbourSetRules := by
  refine ⟨fun l => ⟨rankNeighbours_perm l, rankNeighbours_ordered l⟩,
    fun set b level => ⟨fun h => insertNeighbour_of_room h b level, fun hfull hdiff => ?_⟩,
    fun s b k p e => ⟨takePair_of_ignored k, fun x hx hs hb hp => ⟨fun hin => ?_, fun hout => ?_⟩⟩,
    fun s b k set l e => ⟨rfl, takePairs_snoc s b k set l e⟩,
    fun limit named set => ⟨ageNeighbours_bases limit named set, fun n => mem_ageNeighbours⟩⟩
  · obtain ⟨last, hmem, hlast, hlow⟩ := rankNeighbours_last (l := set) fun e => by rw [e] at hfull; cases hfull
    refine ⟨last, hmem, hlow, fun hlt => ?_, fun hle => ?_⟩ <;> rw [insertNeighbour_of_full hfull hlast]
    · rw [if_pos hlt, filter_base_eq_erase hdiff hmem]
    · rw [if_neg (Nat.not_lt.mpr hle)]
  · rw [takePair_of_taken k hx hs hb hp, if_pos (hasNeighbour_iff.mpr hin)]
    rfl
  · rw [takePair_of_taken k hx hs hb hp, if_neg]
    rintro hin
    obtain ⟨n, hn, hnx⟩ := hasNeighbour_iff.mp hin
    exact hout n hn hnx

end Sys2Proof.Machine
end

section
/-! SUPPORT. A LEVEL REPORT of a call (R81, R88, R96): what its hand-off writes in the call's entry, and what the
handover that it may start leaves alone. O30. -/

namespace Sys2Proof.Machine

open Sys2Proof

variable {s t u : State} {c : CallNo}

/-- A mark and a change of a call's entry do not bear on each other. -/
theorem updCall_markCall (s : State) (c : CallNo) (f : Call → Call) (v : Byte) :
    (s.markCall c v).updCall c f = (s.updCall c f).markCall c v := rfl

/-! ### What a handover attempt leaves alone (R112, R124) -/

/-- What a LEVEL REPORT writes in the entry of its call: the serving filter, the neighbours and the watch. -/
def Call.measures (e : Call) : Option Nat × List Neighbour × Watch × Nat :=
  (e.filter, e.neighbours, e.watch, e.watchCount)

/-- The mark of call `c` holds the bits `v`. -/
def State.callMarked (s : State) (c : CallNo) (v : Byte) : Prop :=
  ∃ w, s.acu.callMarks[c] = some w ∧ w &&& v = v

/-- A mark keeps the bits that it holds (R157). -/
theorem callMarked_markCall {v : Byte} (h : s.callMarked c v) (x : Byte) : (s.markCall c x).callMarked c v := by
  obtain ⟨w, hw, hv⟩ := h
  refine ⟨w ||| x, ?_, and_or_of_and hv⟩
  rw [markCall_of_dirty hw]
  exact (getElem_set_fin _ _ _ _).trans (if_pos rfl)

/-- The work on a handover attempt of call `c`: it changes no other call, of its own call neither the levels nor the
watch, takes no bit from its mark, and leaves the roster, the pages and the global counters alone. -/
structure AttemptWork (c : CallNo) (s t : State) : Prop where
  others   : ∀ d : CallNo, d ≠ c → t.calls[d] = s.calls[d]
  measures : t.calls[c].measures = s.calls[c].measures
  marks    : ∀ v, s.callMarked c v → t.callMarked c v
  roster   : t.roster = s.roster
  pages    : t.pages = s.pages
  counts   : t.counters.global = s.counters.global

namespace AttemptWork

theorem refl (c : CallNo) (s : State) : AttemptWork c s s := ⟨fun _ _ => rfl, rfl, fun _ => id, rfl, rfl, rfl⟩

theorem trans (h : AttemptWork c s t) (k : AttemptWork c t u) : AttemptWork c s u where
  others d hd := (k.others d hd).trans (h.others d hd)
  measures := k.measures.trans h.measures
  marks v := k.marks v ∘ h.marks v
  roster := k.roster.trans h.roster
  pages := k.pages.trans h.pages
  counts := k.counts.trans h.counts

/-- Work on other tables than these. -/
theorem same (h : AttemptWork c s t) (hc : u.calls = t.calls) (ha : u.acu = t.acu) (hr : u.roster = t.roster)
    (hp : u.pages = t.pages) (hg : u.counters.global = t.counters.global) : AttemptWork c s u :=
  h.trans ⟨fun _ _ => by rw [hc], by rw [hc], fun v => by unfold State.callMarked; rw [ha]; exact id, hr, hp, hg⟩

theorem updCall {f : Call → Call} (h : AttemptWork c s t)
    (hf : ∀ e, (f e).measures = e.measures := by intro _; rfl) : AttemptWork c s (t.updCall c f) :=
  h.trans {
    others := fun _ hd => updCall_other hd.symm t f
    measures := by rw [updCall_get, if_pos rfl, hf]
    marks := fun _ => id
    roster := rfl
    pages := rfl
    counts := rfl }

theorem markCall {v : Byte} (h : AttemptWork c s t) : AttemptWork c s (t.markCall c v) :=
  h.trans {
    others := fun _ _ => rfl
    measures := rfl
    marks := fun _ hw => callMarked_markCall hw v
    roster := rfl
    pages := rfl
    counts := rfl }

theorem setChan {b : BaseNo} {k : ChanNo} {v : Chan} (h : AttemptWork c s t) : AttemptWork c s (t.setChan b k v) :=
  h.same rfl rfl rfl rfl rfl
theorem setDrain {b : BaseNo} {d : Option DrainRecord} (h : AttemptWork c s t) : AttemptWork c s (t.setDrain b d) :=
  h.same rfl rfl rfl rfl rfl
theorem bumpBase {b : BaseNo} {k : BaseCounter} (h : AttemptWork c s t) : AttemptWork c s (t.bumpBase b k) :=
  h.same rfl rfl rfl rfl rfl
theorem dropBatch (h : AttemptWork c s t) : AttemptWork c s (t.dropBatch c) := h.same rfl rfl rfl rfl rfl

theorem updHandover {f : Handover → Handover} (h : AttemptWork c s t) : AttemptWork c s (t.updHandover c f) :=
  h.updCall

theorem send {b : BaseNo} {m : Downlink} (h : AttemptWork c s t) : AttemptWork c s (t.send b m) := by
  refine h.same (send_calls t b m) (send_acu t b m) (send_roster t b m) (send_pages t b m) ?_
  rcases send_counters t b m with e | e <;> rw [e]
  rfl

theorem append_eq {b : BaseNo} {m : Downlink} {v : Bool} (h : AttemptWork c s t) (e : t.append b m = (u, v)) :
    AttemptWork c s u := by
  have hu : t.send b m = u := congrArg Prod.fst e
  exact hu ▸ h.send

/-- The answer to a FORCE MOVE that did not complete (R128). -/
theorem answerAbort {i : Option SlotNo} {r : Handover} {a : AbortReason} (h : AttemptWork c s t) :
    AttemptWork c s (t.answerMove i (abortResult r a)) := by
  have hframe := answerMove_frame t i (abortResult r a)
  exact h.same (congrArg State.calls hframe :) (congrArg State.acu hframe :) (congrArg State.roster hframe :)
    (congrArg State.pages hframe :) (congrArg Counters.global (answerMove_abort_counters t i r a))

theorem unreserve {b : BaseNo} {j : ChanNo} {g : AttemptTag} (h : AttemptWork c s t) :
    AttemptWork c s (t.unreserve b j c g) := by
  unfold State.unreserve
  split
  · exact h.setChan
  · exact h

theorem switchBack {b : BaseNo} {j : ChanNo} {g : AttemptTag} (h : AttemptWork c s t) :
    AttemptWork c s (t.switchBack c b j g) := by
  unfold State.switchBack
  dsimp only
  split
  · exact h.setChan.setChan.markCall
  · exact h

theorem giveUp {r : Handover} (h : AttemptWork c s t) : AttemptWork c s (t.giveUp c r) := by
  unfold State.giveUp
  split
  · exact h
  · dsimp only
    split
    · exact h.switchBack.send.send.bumpBase
    · exact h.unreserve.send.bumpBase

theorem moveEnd (h : AttemptWork c s t) : AttemptWork c s (t.moveEnd c) := by
  unfold State.moveEnd
  split
  · exact h.updCall.markCall
  · exact h

theorem moveBegin (h : AttemptWork c s t) : AttemptWork c s (t.moveBegin c) := by
  unfold State.moveBegin
  split
  · exact h.updCall.markCall
  · exact h

theorem noteAbort {a : AbortReason} (h : AttemptWork c s t) : AttemptWork c s (t.noteAbort c a) := h.updCall.markCall

theorem startHold (h : AttemptWork c s t) : AttemptWork c s (t.startHold c) := by
  unfold State.startHold
  dsimp only
  split
  · exact h.updCall
  · exact h

/-- The end of an attempt (R124). -/
theorem attemptEnd {a : AbortReason} (h : AttemptWork c s t) : AttemptWork c s (t.attemptEnd c a) := by
  unfold State.attemptEnd
  split
  · exact h
  · next r _ =>
    have hend : AttemptWork c s ((((t.dropBatch c).giveUp c r).removeRecord c).noteAbort c a) :=
      h.dropBatch.giveUp.updCall.moveEnd.noteAbort
    dsimp only
    split
    · exact hend.startHold.answerAbort
    · exact hend.answerAbort

theorem noteFailure {a : AbortReason} (h : AttemptWork c s t) : AttemptWork c s (t.noteFailure c a) := h.updHandover

theorem takeTarget {b : BaseNo} {l : List BaseNo} (h : AttemptWork c s t) : AttemptWork c s (t.takeTarget c b l) :=
  h.updCall.markCall

/-- The candidates tried in turn, up to the one reserved or the end of the attempt (R112, R113). -/
theorem tryCandidates (h : AttemptWork c s t) (l : List BaseNo) : AttemptWork c s (t.tryCandidates c l) := by
  induction l generalizing t with
  | nil => exact h.attemptEnd
  | cons b r ih =>
    unfold State.tryCandidates
    dsimp only
    split
    · exact ih h.takeTarget.noteFailure
    · split
      · next hv => exact (h.takeTarget.setChan.append_eq hv).updHandover
      · next hv => exact ih (h.takeTarget.setChan.append_eq hv).unreserve.noteFailure

theorem startHandover {k : HandoverKind} {l : List BaseNo} {i : Option SlotNo} (h : AttemptWork c s t) :
    AttemptWork c s (t.startHandover c k l i) :=
  h.updCall.moveBegin.tryCandidates l

theorem decisionTrigger {z : ZoneParams} (h : AttemptWork c s t) : AttemptWork c s (t.decisionTrigger c z) := by
  unfold State.decisionTrigger
  dsimp only
  split
  · split
    · exact h
    · exact h.startHandover
  · exact h

theorem offerDrainMove (h : AttemptWork c s t) : AttemptWork c s (t.offerDrainMove c) := by
  unfold State.offerDrainMove
  split
  · split
    · exact h
    · split
      · exact h.setDrain.startHandover
      · exact h
  · exact h

/-- The third step of a hand-off is work on a handover attempt, or none (R96). -/
theorem triggerStep {z : ZoneParams} (h : AttemptWork c s t) : AttemptWork c s (t.triggerStep c z) := by
  unfold State.triggerStep
  split
  · exact h.decisionTrigger
  · exact h.offerDrainMove
  all_goals exact h

end AttemptWork

/-! ### Ignored pairs (R83) -/

/-- Counting the ignored pairs changes the counters alone. -/
theorem countIgnored_frame (s : State) (n : Nat) : { s.countIgnored n with counters := s.counters } = s := by
  induction n generalizing s with
  | zero => rfl
  | succ n ih => exact congrArg (fun v : State => { v with counters := s.counters }) (ih (s.bump .ignoredPairs))

theorem countIgnored_calls (s : State) (n : Nat) : (s.countIgnored n).calls = s.calls :=
  (congrArg State.calls (countIgnored_frame s n) :)

theorem countUp_satSucc (n x : Nat) : countUp n (satSucc x) = satSucc (countUp n x) := by
  induction n with
  | zero => rfl
  | succ n ih => rw [countUp, ih, countUp]

theorem countIgnored_globalCount (s : State) (n : Nat) :
    (s.countIgnored n).globalCount .ignoredPairs = countUp n (s.globalCount .ignoredPairs) := by
  induction n generalizing s with
  | zero => rfl
  | succ n ih => rw [State.countIgnored, ih, globalCount_bump, if_pos rfl, countUp_satSucc, countUp]

/-! ### The neighbour set of a report (R83 to R87) -/

theorem insertNeighbour_length_le {l : List Neighbour} (h : l.length ≤ 6) (b : BaseNo) (v : Nat) :
    (insertNeighbour l b v).length ≤ 6 := by
  rcases insertNeighbour_cases l b v with e | ⟨hl, e⟩ | ⟨x, hx, e⟩ <;> rw [e]
  · exact h
  · rw [List.length_append]
    exact hl
  · have hlt : (l.filter fun n => n.base != x.base).length < l.length :=
      List.length_filter_lt_length_iff_exists.mpr ⟨x, hx, by simp⟩
    rw [List.length_append]
    exact hlt.trans_le h

theorem takePairs_length_le (s : State) (b : BaseNo) (k : Nat) {set : List Neighbour} (h : set.length ≤ 6)
    (pairs : List (ReportedBase × LevelCode)) : (s.takePairs b k set pairs).set.length ≤ 6 := by
  unfold State.takePairs
  refine List.foldlRecOn (motive := fun p : PairScan => p.set.length ≤ 6) pairs _ h fun p hp e _ => ?_
  rcases takePair_set s b k p e with e | ⟨x, v, -, -, e⟩ <;> rw [e]
  · exact hp
  · split
    · exact (List.length_map _).trans_le hp
    · exact insertNeighbour_length_le hp x v

theorem ageNeighbours_length_le (limit : Nat) (named : List BaseNo) (set : List Neighbour) :
    (ageNeighbours limit named set).length ≤ set.length := by
  simpa only [List.length_map] using (ageNeighbours_bases limit named set).length_le

/-- Whether an entry qualifies depends on the links, the channel map, the roster and the handset of the call (R100,
R101). -/
theorem qualifies_congr (hl : ∀ x : BaseNo, t.service x = s.service x ∧ t.links[x].zone = s.links[x].zone ∧
      t.links[x].effCount = s.links[x].effCount) (hk : t.chans = s.chans) (hr : t.roster = s.roster)
    (hh : t.calls[c].handset = s.calls[c].handset) (z : ZoneParams) (f m : Nat) :
    t.qualifies c z f m = s.qualifies c z f m := by
  funext n
  obtain ⟨hs, hz, he⟩ := hl n.base
  have hocc : t.occupancy n.base = s.occupancy n.base := by rw [State.occupancy, State.occupancy, hk, he]
  have hscore : t.score z n = s.score z n := by rw [State.score, State.score, hocc]
  have hallowed : t.allowedTarget c n.base = s.allowedTarget c n.base := by
    simp only [State.allowedTarget, hs, hz, hr, hh]
  rw [State.qualifies, State.qualifies, hscore, hallowed]

/-- Neither the counters, the marks nor the rest of a call's entry bear on whether a neighbour qualifies. -/
theorem qualifies_of_frame (h : { t with calls := s.calls, acu := s.acu, counters := s.counters } = s)
    (hh : t.calls[c].handset = s.calls[c].handset) : t.qualifies c = s.qualifies c := by
  have hlinks : t.links = s.links := (congrArg State.links h :)
  funext z f m
  exact qualifies_congr (t := t) (fun x => ⟨by rw [State.service, hlinks]; rfl, by rw [hlinks], by rw [hlinks]⟩)
    (congrArg State.chans h :) (congrArg State.roster h :) hh z f m

/-! ### The entry of a call after a report (R82 to R88, R98, R102) -/

section
variable (s : State) (c : CallNo) (b : BaseNo) (level : LevelCode) (errors : Nat)
  (pairs : List (ReportedBase × LevelCode))

/-- The pairs of a report taken by the neighbour set of its call. -/
def State.reportPairs : PairScan := s.takePairs b (s.zoneAt b).shift s.calls[c].neighbours pairs

/-- The neighbour set after a report, its leads still to be written. -/
def State.reportSet : List Neighbour :=
  rankNeighbours (ageNeighbours (s.zoneAt b).staleLimit (s.reportPairs c b pairs).named (s.reportPairs c b pairs).set)

/-- The serving filter after a report. -/
def State.reportFilter : Nat :=
  servingSample (s.zoneAt b).shift s.calls[c].filter (sampleTarget level s.plan.offsets[b])

/-- The watch and its count after a report. -/
def State.reportWatch : Watch × Nat :=
  watchAfter (s.zoneAt b) (s.reportFilter c b level) errors s.calls[c].watch s.calls[c].watchCount

/-- A neighbour with the lead that a report leaves it. -/
def State.reportLead (n : Neighbour) : Neighbour :=
  { n with lead := leadAfter (s.qualifies c (s.zoneAt b) (s.reportFilter c b level)
      (effectiveMargin (s.zoneAt b) (s.reportWatch c b level errors).1) n) n.lead }

/-- The entry of a call after the first four steps of a report (R88). -/
def State.filteredCall (e : Call) : Call :=
  { e with filter := some (s.reportFilter c b level), neighbours := s.reportSet c b pairs }

/-- The entry of a call after a report, its leads still to be written. -/
def State.watchedCall (e : Call) : Call :=
  { s.filteredCall c b level pairs e with
    watch := (s.reportWatch c b level errors).1
    watchCount := (s.reportWatch c b level errors).2 }

/-- The entry of a call after a report. -/
def State.reportedCall (e : Call) : Call :=
  { s.watchedCall c b level errors pairs e with
    neighbours := (s.reportSet c b pairs).map (s.reportLead c b level errors) }

/-- The attention bits that a report raises for its call (R99). -/
def State.reportBits : Byte :=
  watchBits (s.zoneAt b).notice s.calls[c].watch (s.reportWatch c b level errors).1

/-- A report with its ignored pairs counted, its call's entry changed, and its bits raised. -/
def State.noteReport (f : Call → Call) : State :=
  (((s.countIgnored (s.reportPairs c b pairs).ignored).updCall c f).markCall c 0).markCall c
    (s.reportBits c b level errors)

end

section
variable {b : BaseNo} {level : LevelCode} {errors : Nat} {pairs : List (ReportedBase × LevelCode)}

/-- All that a report leaves alone before its trigger. -/
theorem noteReport_frame (f : Call → Call) :
    { s.noteReport c b level errors pairs f with calls := s.calls, acu := s.acu, counters := s.counters } = s :=
  congrArg (fun v : State => { v with calls := s.calls, acu := s.acu, counters := s.counters })
    (countIgnored_frame s (s.reportPairs c b pairs).ignored)

theorem noteReport_calls (f : Call → Call) :
    (s.noteReport c b level errors pairs f).calls = (s.updCall c f).calls := by
  rw [State.noteReport, State.markCall_calls, State.markCall_calls, State.updCall_calls, countIgnored_calls,
    State.updCall_calls]

theorem noteReport_self (f : Call → Call) : (s.noteReport c b level errors pairs f).calls[c] = f s.calls[c] := by
  rw [noteReport_calls, updCall_get, if_pos rfl]

theorem noteReport_other {d : CallNo} (hd : d ≠ c) (f : Call → Call) :
    (s.noteReport c b level errors pairs f).calls[d] = s.calls[d] := by
  rw [noteReport_calls, updCall_other hd.symm]

/-- A further change of the entry joins the first one. -/
theorem noteReport_updCall (f g : Call → Call) :
    (s.noteReport c b level errors pairs f).updCall c g = s.noteReport c b level errors pairs fun e => g (f e) := by
  rw [State.noteReport, updCall_markCall, updCall_markCall, updCall_updCall]
  rfl

/-- The first four steps of a report change one entry (R88). -/
theorem filterReport_eq :
    s.filterReport c b level pairs =
      ((s.countIgnored (s.reportPairs c b pairs).ignored).updCall c (s.filteredCall c b level pairs)).markCall c 0 := by
  rw [State.filterReport]
  refine congrArg (·.markCall c 0) (updCall_congr ?_)
  rw [← State.reportPairs, countIgnored_calls]
  rfl

theorem filterReport_self :
    (s.filterReport c b level pairs).calls[c] = s.filteredCall c b level pairs s.calls[c] := by
  rw [filterReport_eq, State.markCall_calls, updCall_get, if_pos rfl, countIgnored_calls]

theorem filterReport_zoneAt : (s.filterReport c b level pairs).zoneAt b = s.zoneAt b := by
  rw [filterReport_eq]
  exact (congrArg (·.zoneAt b) (countIgnored_frame s (s.reportPairs c b pairs).ignored) :)

/-- The watch of a call after the first step of the hand-off (R96, R98). -/
theorem watchStep_filterReport :
    (s.filterReport c b level pairs).watchStep c (s.zoneAt b) (s.reportFilter c b level) errors =
      s.noteReport c b level errors pairs (s.watchedCall c b level errors pairs) := by
  rw [State.watchStep, filterReport_self, filterReport_eq]
  rw [updCall_markCall, updCall_updCall]
  rfl

/-- The leads of the neighbours after the second step of the hand-off (R96, R102). -/
theorem leadStep_noteReport :
    (s.noteReport c b level errors pairs (s.watchedCall c b level errors pairs)).leadStep c (s.zoneAt b)
      (s.reportFilter c b level) = s.noteReport c b level errors pairs (s.reportedCall c b level errors pairs) := by
  have hq : (s.noteReport c b level errors pairs (s.watchedCall c b level errors pairs)).qualifies c =
      s.qualifies c := by
    refine qualifies_of_frame (noteReport_frame _) ?_
    rw [noteReport_self]
    rfl
  unfold State.leadStep
  dsimp only
  rw [noteReport_updCall, noteReport_self, hq]
  rfl

/-- A report of a call that its base serves: its entry is written, the trigger acts on it, and its handset is heard
(R88, R96). -/
theorem takeReport_eq (hb : s.calls[c].base = b) :
    s.takeReport c b level errors pairs =
      ((s.noteReport c b level errors pairs (s.reportedCall c b level errors pairs)).triggerStep c (s.zoneAt b)).heard
        s.calls[c].handset := by
  have hbase : (s.filteredCall c b level pairs s.calls[c]).base = b := hb
  have hfilter : (s.filteredCall c b level pairs s.calls[c]).filter = some (s.reportFilter c b level) := rfl
  rw [State.takeReport, State.handOff, filterReport_self, hfilter]
  dsimp only
  rw [hbase, filterReport_zoneAt, watchStep_filterReport, leadStep_noteReport]

end

/-! ### What a report does (R81 to R88, R98 to R102) -/

/-- The state `u` is `s` after a report of call `c` from base `b`, whatever its trigger did: its entry holds what the
report wrote, its mark the bits raised, its handset is heard, each ignored pair is counted, and no other call, roster
entry or page changes. -/
structure ReportDone (s : State) (c : CallNo) (b : BaseNo) (level : LevelCode) (errors : Nat)
    (pairs : List (ReportedBase × LevelCode)) (u : State) : Prop where
  measures : u.calls[c].measures = (s.reportedCall c b level errors pairs s.calls[c]).measures
  others   : ∀ d : CallNo, d ≠ c → u.calls[d] = s.calls[d]
  handset  : u.roster[s.calls[c].handset] = { s.roster[s.calls[c].handset] with heardFrame := s.now }
  roster   : ∀ h : HandsetNo, h ≠ s.calls[c].handset → u.roster[h] = s.roster[h]
  pages    : u.pages = s.pages
  marked   : u.callMarked c (s.reportBits c b level errors)
  ignored  : u.globalCount .ignoredPairs =
    countUp (s.reportPairs c b pairs).ignored (s.globalCount .ignoredPairs)

section
variable {b : BaseNo} {level : LevelCode} {errors : Nat} {pairs : List (ReportedBase × LevelCode)}

/-- A report of a call that its base serves, of a REGISTERED handset. -/
theorem takeReport_done (hb : s.calls[c].base = b) (hr : s.roster[s.calls[c].handset].registered = true) :
    ReportDone s c b level errors pairs (s.takeReport c b level errors pairs) := by
  rw [takeReport_eq hb]
  have hframe := noteReport_frame (s := s) (c := c) (b := b) (level := level) (errors := errors) (pairs := pairs)
    (s.reportedCall c b level errors pairs)
  have hwork : AttemptWork c (s.noteReport c b level errors pairs (s.reportedCall c b level errors pairs)) _ :=
    (AttemptWork.refl c _).triggerStep (z := s.zoneAt b)
  have hroster := hwork.roster.trans (congrArg State.roster hframe :)
  have hregs : (s.noteReport c b level errors pairs (s.reportedCall c b level errors pairs)).regs = s.regs :=
    (congrArg State.regs hframe :)
  have hnow := congrArg Regs.frame ((still_fields (State.triggerStep_still _ c (s.zoneAt b))).1.trans hregs)
  rw [heard_of_registered (by rw [hroster]; exact hr)]
  exact {
    measures := hwork.measures.trans (by rw [noteReport_self])
    others := fun d hd => (hwork.others d hd).trans (noteReport_other hd _)
    handset := by rw [changeEntry_self, hroster, State.now, hnow]; rfl
    roster := fun h hh => by rw [changeEntry_other hh, hroster]
    pages := hwork.pages.trans (congrArg State.pages hframe :)
    marked := hwork.marks _ (markCall_holds _ c _)
    ignored := (congrArg (fun g : Vector Nat 16 => g[globalIndex .ignoredPairs]) hwork.counts).trans
      (countIgnored_globalCount s _) }

end

/-! ### A restarted silence timer does not bear on a report (R7) -/

section
variable (s : State) (b : BaseNo)

theorem restartSilence_plan : (s.restartSilence b).plan = s.plan :=
  (congrArg State.plan (restartSilence_frame s b) :)

theorem restartSilence_zoneAt (x : BaseNo) : (s.restartSilence b).zoneAt x = s.zoneAt x := by
  simp only [State.zoneAt, restartSilence_plan, restartSilence_linkZone]

theorem restartSilence_effCount (x : BaseNo) : (s.restartSilence b).links[x].effCount = s.links[x].effCount := by
  unfold State.restartSilence
  split
  · rw [updLink_get]
    split
    · next e => subst e; rfl
    · rfl
  · rfl

theorem restartSilence_qualifies (c : CallNo) : (s.restartSilence b).qualifies c = s.qualifies c := by
  funext z f m
  exact qualifies_congr (t := s.restartSilence b)
    (fun x => ⟨restartSilence_service s b x, restartSilence_linkZone s b x, restartSilence_effCount s b x⟩)
    (restartSilence_chans s b) (restartSilence_roster s b) (by rw [restartSilence_calls]) z f m

variable (c : CallNo) (x : BaseNo) (level : LevelCode) (errors : Nat) (pairs : List (ReportedBase × LevelCode))

theorem restartSilence_reportPairs : (s.restartSilence b).reportPairs c x pairs = s.reportPairs c x pairs := by
  have hpair : (s.restartSilence b).takePair x (s.zoneAt x).shift = s.takePair x (s.zoneAt x).shift := by
    funext p e
    simp only [State.takePair, restartSilence_service, restartSilence_plan]
  simp only [State.reportPairs, State.takePairs, restartSilence_zoneAt, restartSilence_calls, hpair]

theorem restartSilence_reportFilter : (s.restartSilence b).reportFilter c x level = s.reportFilter c x level := by
  simp only [State.reportFilter, restartSilence_zoneAt, restartSilence_calls, restartSilence_plan]

theorem restartSilence_reportWatch :
    (s.restartSilence b).reportWatch c x level errors = s.reportWatch c x level errors := by
  simp only [State.reportWatch, restartSilence_zoneAt, restartSilence_calls, restartSilence_reportFilter]

theorem restartSilence_reportBits :
    (s.restartSilence b).reportBits c x level errors = s.reportBits c x level errors := by
  simp only [State.reportBits, restartSilence_zoneAt, restartSilence_calls, restartSilence_reportWatch]

theorem restartSilence_reportedCall :
    (s.restartSilence b).reportedCall c x level errors pairs = s.reportedCall c x level errors pairs := by
  have hset : (s.restartSilence b).reportSet c x pairs = s.reportSet c x pairs := by
    simp only [State.reportSet, restartSilence_zoneAt, restartSilence_reportPairs]
  have hlead : (s.restartSilence b).reportLead c x level errors = s.reportLead c x level errors := by
    funext n
    simp only [State.reportLead, restartSilence_zoneAt, restartSilence_qualifies, restartSilence_reportFilter,
      restartSilence_reportWatch]
  funext e
  simp only [State.reportedCall, State.watchedCall, State.filteredCall, hset, hlead, restartSilence_reportFilter,
    restartSilence_reportWatch]

end

section
variable {b : BaseNo} {k : ChanNo} {level : LevelCode} {errors : Nat} {pairs : List (ReportedBase × LevelCode)}

theorem ReportDone.of_restartSilence {x : BaseNo} (h : ReportDone (s.restartSilence b) c x level errors pairs u) :
    ReportDone s c x level errors pairs u := by
  obtain ⟨hmeasures, hothers, hhandset, hroster, hpages, hmarked, hignored⟩ := h
  simp only [restartSilence_calls, restartSilence_roster, restartSilence_now, restartSilence_pages,
    restartSilence_reportedCall, restartSilence_reportBits, restartSilence_reportPairs, State.globalCount,
    restartSilence_counters] at hmeasures hothers hhandset hroster hpages hmarked hignored
  exact ⟨hmeasures, hothers, hhandset, hroster, hpages, hmarked, hignored⟩

namespace ReportDone

theorem filter (h : ReportDone s c b level errors pairs u) : u.calls[c].filter = some (s.reportFilter c b level) :=
  congrArg Prod.fst h.measures

theorem neighbours (h : ReportDone s c b level errors pairs u) :
    u.calls[c].neighbours = (s.reportSet c b pairs).map (s.reportLead c b level errors) :=
  congrArg (·.2.1) h.measures

theorem watch (h : ReportDone s c b level errors pairs u) :
    (u.calls[c].watch, u.calls[c].watchCount) = s.reportWatch c b level errors :=
  congrArg (·.2.2) h.measures

/-- The neighbours stay 6 at most (R85). -/
theorem length_le (h : ReportDone s c b level errors pairs u) (hl : s.calls[c].neighbours.length ≤ 6) :
    u.calls[c].neighbours.length ≤ 6 := by
  rw [h.neighbours, List.length_map, State.reportSet, (rankNeighbours_perm _).length_eq]
  exact (ageNeighbours_length_le _ _ _).trans (takePairs_length_le s b _ hl pairs)

/-- The neighbours are in order (R87): a lead has no part in it. -/
theorem ordered (h : ReportDone s c b level errors pairs u) :
    u.calls[c].neighbours.Pairwise fun x y => y.level < x.level ∨ (x.level = y.level ∧ x.base ≤ y.base) := by
  rw [h.neighbours]
  exact List.pairwise_map.mpr (rankNeighbours_ordered _)

end ReportDone

/-! ### The channel of a report (R81) -/

theorem takeLevelReport_of_call (hk : k.val < s.links[b].effCount)
    (hc : s.chan b k = .held c ∨ s.chan b k = .leaving c) :
    s.takeLevelReport b k level errors pairs = s.takeReport c b level errors pairs := by
  rw [State.takeLevelReport, if_pos hk]
  rcases hc with e | e <;> rw [e]

theorem takeLevelReport_of_stale (h : s.chan b k = .free ∨ (∃ c g, s.chan b k = .reserved c g) ∨
    s.chan b k = .blocked ∨ s.links[b].effCount ≤ k.val) :
    s.takeLevelReport b k level errors pairs = s.bump .stale := by
  rw [State.takeLevelReport]
  split
  · next hk =>
    rcases h with e | ⟨d, g, e⟩ | e | e
    · rw [e]
    · rw [e]
    · rw [e]
    · exact absurd hk (Nat.not_lt.mpr e)
  · rfl

end

/-- Settles O30: the channel says whose report it is, and what the report wrote outlasts its trigger. -/
theorem levelReportUpdatesItsCall : Obligations.LevelReportUpdatesItsCall := by
  intro b k level errors pairs s hs ha hp
  rw [exec_levelReport_short hp, messageFrom_active hs ha]
  refine ⟨fun hstale => ?_, fun hlt c hc hb hr => ?_⟩
  · rw [takeLevelReport_of_stale (by simpa only [restartSilence_chan, restartSilence_effCount] using hstale)]
  · have hdone : ReportDone s c b level errors.val pairs
        ((s.restartSilence b).takeReport c b level errors.val pairs) :=
      (takeReport_done (by rw [restartSilence_calls]; exact hb)
        (by simpa only [restartSilence_roster, restartSilence_calls] using hr)).of_restartSilence
    rw [takeLevelReport_of_call (c := c) (by rw [restartSilence_effCount]; exact hlt)
      (by simpa only [restartSilence_chan] using hc)]
    generalize (s.restartSilence b).takeReport c b level errors.val pairs = u at hdone
    have hfilter := hdone.filter
    have hwatch : u.calls[c].watch = (s.reportWatch c b level errors.val).1 := congrArg Prod.fst hdone.watch
    refine ⟨u, rfl, ?_, fun f hf => ?_, hdone.length_le, hdone.ordered, hdone.handset, hdone.roster, hdone.others,
      hdone.pages, ?_, ?_⟩
    · rw [hfilter, State.reportFilter]
      rfl
    · cases hfilter.symm.trans hf
      exact hdone.watch
    · rw [hwatch]
      exact hdone.marked
    · rintro p rfl
      refine ⟨hdone.ignored, fun f hf => ?_⟩
      cases hfilter.symm.trans hf
      rw [hwatch]
      exact hdone.neighbours

end Sys2Proof.Machine
end

section
/-! SUPPORT. The watch, the scores and the leads of a hand-off (R97 to R102): O29. -/

namespace Sys2Proof.Machine

open Sys2Proof

/-! ### The watch (R97 to R99) -/

/-- A report is weak by its filtered level or by its frame errors (R97). -/
theorem reportWeak_iff {z : ZoneParams} {f errors : Nat} :
    reportWeak z f errors = true ↔
      (0 < z.weak ∧ f < z.weak * 16) ∨ (0 < z.errorLimit ∧ z.errorLimit ≤ errors) := by
  simp [reportWeak]

theorem reportRecovers_iff {z : ZoneParams} {f errors : Nat} :
    reportRecovers z f errors = true ↔ z.recovery * 16 ≤ f ∧ (z.errorLimit = 0 ∨ errors < z.errorLimit) := by
  simp [reportRecovers]

/-- The rows of Table 6-3 for a watch that is not WEAK. -/
theorem watchAfter_of_not_weak {z : ZoneParams} {f errors count : Nat} {w : Watch} (hw : w ≠ .weak) :
    watchAfter z f errors w count =
      if reportWeak z f errors then
        if count + 1 < z.watchLimit then (.suspect, count + 1) else (.weak, min (count + 1) 8)
      else (.normal, 0) := if_neg hw

/-- The row of Table 6-3 for a WEAK watch. -/
theorem watchAfter_of_weak {z : ZoneParams} {f errors count : Nat} :
    watchAfter z f errors .weak count = if reportRecovers z f errors then (.normal, 0) else (.weak, count) := if_pos rfl

/-- The bits of notice mode EDGE: WEAK where the watch becomes WEAK, RECOVERED where it leaves it (R99). -/
theorem watchBits_edge (before after : Watch) :
    watchBits .edge before after =
      if before ≠ .weak ∧ after = .weak then attnWeak
      else if before = .weak ∧ after ≠ .weak then attnRecovered
      else 0 := rfl

/-! ### The scores (R100, R101) -/

/-- A scan lists the numbers of a table that satisfy its test. -/
theorem indicesWhere_eq_filter {α : Type} {n : Nat} (v : Vector α n) (p : α → Bool) :
    indicesWhere v p = (List.finRange n).filter fun i => p v[i] :=
  (indicesWhere_ascending v p).eq_of_mem_iff ((List.pairwise_lt_finRange n).filter _) fun i => by simp

/-- The occupancy counts the channels of a base that are in use (R100). -/
theorem occupancy_eq (s : State) (b : BaseNo) :
    s.occupancy b =
      ((List.finRange 8).filter fun k => decide (k.val < s.links[b].effCount) && chanInUse (s.chan b k)).length := by
  rw [State.occupancy, indicesWhere_eq_filter, List.filter_filter]
  rfl

/-- A score by the bias of the zone's code (R100). -/
theorem score_of_bias {s : State} {z : ZoneParams} {k : Int} (h : loadBias z.biasCode = k) (n : Neighbour) :
    s.score z n = (n.level : Int) - k * s.occupancy n.base := by
  rw [State.score, h, mul_comm]

theorem allowedTarget_iff {s : State} {c : CallNo} {b : BaseNo} : s.allowedTarget c b = true ↔
    s.service b = .serving ∧ inMask s.roster[s.calls[c].handset].zoneMask s.links[b].zone = true := by
  rw [State.allowedTarget, Bool.and_eq_true, beq_iff_eq]

theorem qualifies_iff {s : State} {c : CallNo} {z : ZoneParams} {f m : Nat} {n : Neighbour} :
    s.qualifies c z f m n = true ↔ (f : Int) + 16 * m ≤ s.score z n ∧ s.allowedTarget c n.base = true := by
  rw [State.qualifies, Bool.and_eq_true, decide_eq_true_eq, Nat.cast_add, Nat.cast_mul, Nat.cast_ofNat, mul_comm]

/-- Settles O29: each rule of the watch, the score and the lead from its definition's cases. -/
theorem watchFollowsTheReports : Obligations.WatchFollowsTheReports := by
  refine ⟨fun before after => ⟨rfl, fun hb ha => if_pos ⟨hb, ha⟩, fun hb ha => ?_, fun h => ?_, fun ha => if_pos ha,
      fun ha => if_neg ha⟩,
    fun s z c n f m => ⟨rfl, fun h => ?_, fun h => score_of_bias (by rw [h]; rfl) n,
      fun h => score_of_bias (by rw [h]; rfl) n, fun h => score_of_bias (by rw [h]; rfl) n, occupancy_eq s n.base, ?_⟩,
    fun z w lead => ⟨fun hw => ⟨if_pos hw, if_pos hw⟩, fun hw => ⟨if_neg hw, if_neg hw⟩, rfl, rfl⟩,
    fun z f errors count => ⟨reportWeak_iff, reportRecovers_iff, fun w hw => ⟨fun h => ?_, fun h => ⟨fun hc => ?_,
      fun hc => ?_⟩⟩, fun h => ?_, fun h => ?_⟩⟩
  · rw [watchBits_edge, if_neg fun hn => hn.1 hb, if_pos ⟨hb, ha⟩]
  · rw [watchBits_edge, if_neg fun hn => hn.1 (h.mpr hn.2), if_neg fun hn => hn.2 (h.mp hn.1)]
  · rw [score_of_bias (k := 0) (by rw [h]; rfl), zero_mul, sub_zero]
  · rw [qualifies_iff, allowedTarget_iff]
  · rw [watchAfter_of_not_weak hw, if_neg (Bool.eq_false_iff.mp h)]
  · rw [watchAfter_of_not_weak hw, if_pos h, if_pos hc]
  · rw [watchAfter_of_not_weak hw, if_pos h, if_neg (Nat.not_lt.mpr hc)]
  · rw [watchAfter_of_weak, if_pos h]
  · rw [watchAfter_of_weak, if_neg (Bool.eq_false_iff.mp h)]

end Sys2Proof.Machine
end

section
/-! SUPPORT. The end of an attempt whose call goes on: what it does to the call's entry, and what the giving up of its
reservation leaves (R104, R124, R128): O37. -/

namespace Sys2Proof.Machine

open Sys2Proof

variable {s t : State} {c : CallNo} {r : Handover} {a : AbortReason} {j : ChanNo}

/-! ### The record goes (R104, R124 steps 3 and 4, R128) -/

/-- The entry of a call whose attempt with record `r` has ended with reason `a` (R104, R124). -/
def State.abortedCall (s : State) (r : Handover) (a : AbortReason) (e : Call) : Call :=
  { e with
    state := .connected, handover := none, lastAbort := some a
    hold := if r.kind = .decision ∧ 0 < (s.zoneAt e.base).retryHold then
        some (s.after (s.zoneAt e.base).retryHold)
      else e.hold }

/-- The end of an attempt once its reservation has been given up (R124 steps 3 to 5, R128). -/
def State.closeAttempt (s : State) (c : CallNo) (r : Handover) (a : AbortReason) : State :=
  (((s.updCall c (s.abortedCall r a)).markCall c 0).markCall c attnAbort).answerMove r.slot (abortResult r a)

/-- The hold timer is started for a DECISION only (R104). -/
theorem hold_of_noteAbort (hm : s.calls[c].state = .moving) :
    (if r.kind = .decision then ((s.removeRecord c).noteAbort c a).startHold c else (s.removeRecord c).noteAbort c a) =
      ((s.updCall c (s.abortedCall r a)).markCall c 0).markCall c attnAbort := by
  have hn : (s.removeRecord c).noteAbort c a =
      ((s.updCall c fun e => { e.reconnected with lastAbort := some a }).markCall c 0).markCall c attnAbort := by
    rw [removeRecord_of_moving hm, State.noteAbort, updCall_markCall, updCall_updCall]
  have hb : ((s.removeRecord c).noteAbort c a).calls[c].base = s.calls[c].base := by
    rw [hn, State.markCall_calls, State.markCall_calls, updCall_get, if_pos rfl]
    rfl
  have hz : ((s.removeRecord c).noteAbort c a).zoneAt s.calls[c].base = s.zoneAt s.calls[c].base := by
    rw [hn]
    rfl
  have he : ∀ f, f s.calls[c] = s.abortedCall r a s.calls[c] →
      ((s.updCall c f).markCall c 0).markCall c attnAbort =
        ((s.updCall c (s.abortedCall r a)).markCall c 0).markCall c attnAbort :=
    fun f hf => by rw [updCall_congr hf]
  split
  · next hd =>
    rw [State.startHold, hb, hz]
    split
    · next hl =>
      rw [hn, updCall_markCall, updCall_markCall, updCall_updCall]
      refine he _ ?_
      rw [State.abortedCall, if_pos ⟨hd, hl⟩]
      rfl
    · next hl =>
      rw [hn]
      refine he _ ?_
      rw [State.abortedCall, if_neg fun h => hl h.2]
      rfl
  · next hd =>
    rw [hn]
    refine he _ ?_
    rw [State.abortedCall, if_neg fun h => hd h.1]
    rfl

/-- An attempt that ends: its call leaves the batch, its reservation is given up, and its record goes (R124). -/
theorem attemptEnd_eq (hr : s.calls[c].handover = some r) (hm : s.calls[c].state = .moving) (a : AbortReason) :
    s.attemptEnd c a = ((s.dropBatch c).giveUp c r).closeAttempt c r a := by
  rw [State.attemptEnd, hr]
  dsimp only
  rw [hold_of_noteAbort (by rw [giveUp_calls]; exact hm)]
  rfl

/-- The answer of a FORCE MOVE does not depend on the other tables. -/
theorem answerMove_oru_congr (h : t.oru = s.oru) (i : Option SlotNo) (x : OrderResult) :
    (t.answerMove i x).oru = (s.answerMove i x).oru := by
  cases i with
  | none => exact h
  | some i => exact handBack_oru_congr h i x

section
variable (s c r a)

theorem closeAttempt_calls : (s.closeAttempt c r a).calls = (s.updCall c (s.abortedCall r a)).calls :=
  answerMove_calls _ _ _

theorem closeAttempt_self : (s.closeAttempt c r a).calls[c] = s.abortedCall r a s.calls[c] := by
  rw [closeAttempt_calls, updCall_get, if_pos rfl]

/-- What the end of a record leaves alone: the answer of a FORCE MOVE that did not complete counts nothing. -/
theorem closeAttempt_frame :
    { s.closeAttempt c r a with calls := s.calls, acu := s.acu, oru := s.oru } = s := by
  have hc : (s.closeAttempt c r a).counters = s.counters := answerMove_abort_counters _ _ _ _
  have hf := congrArg (fun v : State => { v with calls := s.calls, acu := s.acu, oru := s.oru })
    (answerMove_frame (((s.updCall c (s.abortedCall r a)).markCall c 0).markCall c attnAbort) r.slot (abortResult r a))
  have he : { s.closeAttempt c r a with calls := s.calls, acu := s.acu, oru := s.oru, counters := s.counters } = s := hf
  rw [← hc] at he
  exact he

/-- ABORT is raised (R124 step 4). -/
theorem closeAttempt_mark : (s.closeAttempt c r a).callMarked c attnAbort := by
  have hacu : (s.closeAttempt c r a).acu =
      (((s.updCall c (s.abortedCall r a)).markCall c 0).markCall c attnAbort).acu :=
    (congrArg State.acu (answerMove_frame _ r.slot (abortResult r a)) :)
  rw [State.callMarked, hacu]
  exact markCall_holds _ c attnAbort

theorem closeAttempt_oru : (s.closeAttempt c r a).oru = (s.answerMove r.slot (abortResult r a)).oru := by
  unfold State.closeAttempt
  refine answerMove_oru_congr ?_ _ _
  rfl

end

/-! ### The reservation is given up (R124 step 2) -/

/-- What the giving up of a reservation leaves alone. -/
theorem giveUp_frame (s : State) (c : CallNo) (r : Handover) :
    { s.giveUp c r with
      links := s.links, wire := s.wire, counters := s.counters, chans := s.chans, acu := s.acu } = s := by
  have hsend := fun (v : State) (b : BaseNo) (m : Downlink) => congrArg (fun u : State => { u with
    links := s.links, wire := s.wire, counters := s.counters, chans := s.chans, acu := s.acu }) (send_frame v b m)
  unfold State.giveUp
  split
  · rfl
  · next j _ =>
    dsimp only
    split
    · refine (hsend _ _ _).trans ((hsend _ _ _).trans ?_)
      unfold State.switchBack
      dsimp only
      split <;> rfl
    · refine (hsend _ _ _).trans ?_
      unfold State.unreserve
      split <;> rfl

theorem zoneAt_congr {b : BaseNo} (hl : t.links[b].zone = s.links[b].zone) (hp : t.plan = s.plan) :
    t.zoneAt b = s.zoneAt b := by
  simp only [State.zoneAt, hl, hp]

theorem send_zoneAt (s : State) (b x : BaseNo) (m : Downlink) : (s.send b m).zoneAt x = s.zoneAt x :=
  zoneAt_congr (send_zone s b m x) (congrArg State.plan (send_frame s b m) :)

theorem unreserve_of_reserved {b : BaseNo} {g : AttemptTag} (h : s.chan b j = .reserved c g) :
    s.unreserve b j c g = s.setChan b j .free := if_pos h

theorem switchBack_of_switching {b : BaseNo} {g : AttemptTag}
    (hk : s.chan s.calls[c].base s.calls[c].channel = .leaving c) (hj : s.chan b j = .reserved c g) :
    s.switchBack c b j g =
      ((s.setChan b j .free).setChan s.calls[c].base s.calls[c].channel (.held c)).markCall c 0 := if_pos ⟨hk, hj⟩

theorem giveUp_of_none (h : r.channel = none) : s.giveUp c r = s := by
  rw [State.giveUp, h]

/-- Before the switch the reservation is given up with a RELEASE (R124 step 2). -/
theorem giveUp_of_reserved (hj : r.channel = some j) (hc : s.chan r.target j = .reserved c r.tag)
    (hw : r.state ≠ .switching) :
    s.giveUp c r =
      ((s.setChan r.target j .free).send r.target (.release j r.tag)).bumpBase r.target .aborts := by
  rw [State.giveUp, hj]
  dsimp only
  rw [if_neg hw, unreserve_of_reserved hc]

/-- In SWITCHING the call is switched back, with a RELEASE and a STAY (R124 step 2). -/
theorem giveUp_of_switching (hj : r.channel = some j) (hc : s.chan r.target j = .reserved c r.tag)
    (hk : s.chan s.calls[c].base s.calls[c].channel = .leaving c) (hw : r.state = .switching) :
    s.giveUp c r =
      (((((s.setChan r.target j .free).setChan s.calls[c].base s.calls[c].channel (.held c)).markCall c 0).send
        r.target (.release j r.tag)).send s.calls[c].base (.stay s.calls[c].channel)).bumpBase r.target .aborts := by
  rw [State.giveUp, hj]
  dsimp only
  rw [if_pos hw, switchBack_of_switching hk hc]

/-- The reservation of record `r` of call `c` stands: channel `j` of its target is RESERVED with its tag and, in
SWITCHING, the serving channel is LEAVING. -/
structure State.reserves (s : State) (c : CallNo) (r : Handover) (j : ChanNo) : Prop where
  channel  : r.channel = some j
  reserved : s.chan r.target j = .reserved c r.tag
  leaving  : r.state = .switching → s.chan s.calls[c].base s.calls[c].channel = .leaving c

namespace State.reserves

theorem aborts (h : s.reserves c r j) :
    (s.giveUp c r).baseCount r.target .aborts = satSucc (s.baseCount r.target .aborts) := by
  by_cases hw : r.state = .switching
  · rw [giveUp_of_switching h.channel h.reserved (h.leaving hw) hw, baseCount_bumpBase, if_pos ⟨rfl, rfl⟩,
      send_baseCount _ (by decide), send_baseCount _ (by decide)]
    rfl
  · rw [giveUp_of_reserved h.channel h.reserved hw, baseCount_bumpBase, if_pos ⟨rfl, rfl⟩,
      send_baseCount _ (by decide)]
    rfl

theorem chan (h : s.reserves c r j) (x : BaseNo) (k : ChanNo) :
    (s.giveUp c r).chan x k =
      if x = r.target ∧ k = j then .free
      else if r.state = .switching ∧ x = s.calls[c].base ∧ k = s.calls[c].channel then .held c
      else s.chan x k := by
  have hset : ∀ (v : State) (b : BaseNo) (i : ChanNo) (w : Chan),
      (v.setChan b i w).chan x k = if x = b ∧ k = i then w else v.chan x k := fun v b i w => by
    rw [setChan_get]
    simp only [eq_comm]
  by_cases hw : r.state = .switching
  · have hne : ¬(r.target = s.calls[c].base ∧ j = s.calls[c].channel) := fun ⟨hb, hk⟩ => by
      have hc := h.reserved
      rw [hb, hk, h.leaving hw] at hc
      cases hc
    have hchans : (s.giveUp c r).chans =
        ((s.setChan r.target j .free).setChan s.calls[c].base s.calls[c].channel (.held c)).chans := by
      rw [giveUp_of_switching h.channel h.reserved (h.leaving hw) hw, State.bumpBase_chans, send_chans, send_chans]
      rfl
    have hchan : (s.giveUp c r).chan x k =
        ((s.setChan r.target j .free).setChan s.calls[c].base s.calls[c].channel (.held c)).chan x k := by
      rw [State.chan, hchans]
      rfl
    rw [hchan, hset, hset]
    by_cases ht : x = r.target ∧ k = j
    · rw [if_pos ht, if_pos ht, if_neg (by rw [ht.1, ht.2]; exact hne)]
    · rw [if_neg ht, if_neg ht]
      simp only [hw, true_and]
  · have hchan : (s.giveUp c r).chan x k = (s.setChan r.target j .free).chan x k := by
      rw [giveUp_of_reserved h.channel h.reserved hw, State.chan, State.bumpBase_chans, send_chans]
      rfl
    rw [hchan, hset]
    simp only [hw, false_and, if_false]

/-- The messages of a reservation given up (R124 step 2). -/
theorem downlinks (h : s.reserves c r j) :
    (s.giveUp c r).downlinks =
      (if r.state = .switching then
        (s.send r.target (.release j r.tag)).send s.calls[c].base (.stay s.calls[c].channel)
      else s.send r.target (.release j r.tag)).downlinks := by
  split
  · next hw =>
    rw [giveUp_of_switching h.channel h.reserved (h.leaving hw) hw]
    refine send_downlinks (send_downlinks ?_ _ _) _ _
    rfl
  · next hw =>
    rw [giveUp_of_reserved h.channel h.reserved hw]
    refine send_downlinks (t := s.setChan r.target j .free) ?_ _ _
    rfl

end State.reserves

/-! ### What the end of an attempt leaves -/

/-- What a state with no reservation to give up leaves of a call's entry does not depend on the messages of one. -/
theorem abortedCall_congr (hz : ∀ b : BaseNo, t.zoneAt b = s.zoneAt b) (hr : t.regs = s.regs) :
    t.abortedCall r a = s.abortedCall r a := by
  have ha : ∀ l, t.after l = s.after l := fun l => by rw [State.after, State.after, hr]
  funext e
  rw [State.abortedCall, State.abortedCall, hz, ha]

/-- A dropped batch entry and a given-up reservation do not bear on the hold timer. -/
theorem giveUp_abortedCall (s : State) (c : CallNo) (r : Handover) (a : AbortReason) :
    ((s.dropBatch c).giveUp c r).abortedCall r a = s.abortedCall r a := by
  obtain ⟨hregs, -, hplan, -, -⟩ := still_fields (State.giveUp_still (s.dropBatch c) c r)
  refine abortedCall_congr (fun b => zoneAt_congr ?_ hplan) hregs
  have hzone : ∀ v : State, (v.giveUp c r).links[b].zone = v.links[b].zone := fun v => by
    unfold State.giveUp
    split
    · rfl
    · next j _ =>
      dsimp only
      split
      · refine (send_zone _ _ _ b).trans ((send_zone _ _ _ b).trans ?_)
        unfold State.switchBack
        dsimp only
        split <;> rfl
      · refine (send_zone _ _ _ b).trans ?_
        unfold State.unreserve
        split <;> rfl
  exact hzone (s.dropBatch c)

section
variable (hr : s.calls[c].handover = some r) (hm : s.calls[c].state = .moving) (a : AbortReason)
include hr hm

theorem attemptEnd_self : (s.attemptEnd c a).calls[c] = s.abortedCall r a s.calls[c] := by
  rw [attemptEnd_eq hr hm, closeAttempt_self, giveUp_calls, giveUp_abortedCall]
  rfl

theorem attemptEnd_mark : (s.attemptEnd c a).callMarked c attnAbort := by
  rw [attemptEnd_eq hr hm]
  exact closeAttempt_mark _ c r a

theorem attemptEnd_oru : (s.attemptEnd c a).oru = (s.answerMove r.slot (abortResult r a)).oru := by
  have hg : ((s.dropBatch c).giveUp c r).oru = s.oru :=
    (congrArg State.oru (giveUp_frame (s.dropBatch c) c r) :)
  rw [attemptEnd_eq hr hm, closeAttempt_oru, answerMove_oru_congr hg]

/-- Of the tables that the end of an attempt changes, the channel map, the links, the transmissions and the counters
are as the giving up of its reservation leaves them. -/
theorem attemptEnd_frame :
    { s.attemptEnd c a with calls := s.calls, acu := s.acu, oru := s.oru } =
      { (s.dropBatch c).giveUp c r with calls := s.calls, acu := s.acu, oru := s.oru } := by
  rw [attemptEnd_eq hr hm]
  exact congrArg (fun v : State => { v with calls := s.calls, acu := s.acu, oru := s.oru })
    (closeAttempt_frame ((s.dropBatch c).giveUp c r) c r a)

theorem attemptEnd_batch_of_record : (s.attemptEnd c a).batch = s.batch.filter fun e => e.call != c :=
  (congrArg State.batch (attemptEnd_frame hr hm a) :).trans
    (congrArg State.batch (giveUp_frame (s.dropBatch c) c r) :)

theorem attemptEnd_roster : (s.attemptEnd c a).roster = s.roster :=
  (congrArg State.roster (attemptEnd_frame hr hm a) :).trans
    (congrArg State.roster (giveUp_frame (s.dropBatch c) c r) :)

theorem attemptEnd_pages : (s.attemptEnd c a).pages = s.pages :=
  (congrArg State.pages (attemptEnd_frame hr hm a) :).trans
    (congrArg State.pages (giveUp_frame (s.dropBatch c) c r) :)

/-- The messages of the end of an attempt (R124 step 2). -/
theorem attemptEnd_downlinks (h : s.reserves c r j) :
    (s.attemptEnd c a).downlinks =
      (if r.state = .switching then
        (s.send r.target (.release j r.tag)).send s.calls[c].base (.stay s.calls[c].channel)
      else s.send r.target (.release j r.tag)).downlinks := by
  have hdrop : (s.dropBatch c).downlinks = s.downlinks := rfl
  have hres : (s.dropBatch c).reserves c r j := ⟨h.channel, h.reserved, h.leaving⟩
  refine (congrArg State.downlinks (attemptEnd_frame hr hm a) :).trans (hres.downlinks.trans ?_)
  split
  · exact send_downlinks (send_downlinks hdrop _ _) _ _
  · exact send_downlinks hdrop _ _

/-- With no reservation to give up nothing but the batch, the entry, the marks and the answer changes (R124). -/
theorem attemptEnd_frame_of_none (hn : r.channel = none) :
    { s.attemptEnd c a with calls := s.calls, acu := s.acu, oru := s.oru } = s.dropBatch c := by
  rw [attemptEnd_frame hr hm, giveUp_of_none hn]
  rfl

end

/-- Settles O37: the end of an attempt, table by table, with and without a reservation. -/
theorem attemptEndsAndTheCallGoesOn : Obligations.AttemptEndsAndTheCallGoesOn := by
  refine ⟨rfl, fun c a r s hr hm => ⟨fun j hj hc hk => ?_, fun hn => ?_⟩⟩
  · have hres : (s.dropBatch c).reserves c r j := ⟨hj, hc, hk⟩
    have hframe := attemptEnd_frame hr hm a
    have hdown := attemptEnd_downlinks hr hm a (j := j) ⟨hj, hc, hk⟩
    refine ⟨_, rfl, attemptEnd_self hr hm a, fun d hd => attemptEnd_other hd.symm s a, fun x k => ?_,
      attemptEnd_batch_of_record hr hm a, ?_, attemptEnd_mark hr hm a, fun i hi => ?_, fun hi => ?_,
      attemptEnd_roster hr hm a, attemptEnd_pages hr hm a, fun hw => ?_, fun hw => ?_⟩
    · exact (congrArg (fun v : State => v.chan x k) hframe :).trans (hres.chan x k)
    · exact (congrArg (fun v : State => v.baseCount r.target .aborts) hframe :).trans hres.aborts
    · rw [attemptEnd_oru hr hm, hi]
      rfl
    · rw [attemptEnd_oru hr hm, hi]
      rfl
    · rw [if_neg hw] at hdown
      obtain ⟨hl, hwire, -⟩ := downlinks_fields hdown
      exact ⟨hl, hwire⟩
    · rw [if_pos hw] at hdown
      obtain ⟨hl, hwire, -⟩ := downlinks_fields hdown
      exact ⟨hl, hwire⟩
  · have hframe := attemptEnd_frame_of_none hr hm a hn
    refine ⟨_, rfl, attemptEnd_self hr hm a, fun d hd => attemptEnd_other hd.symm s a, fun i hi => ?_, fun hi => ?_,
      (congrArg State.chans hframe :), (congrArg State.links hframe :), (congrArg State.wire hframe :),
      (congrArg State.counters hframe :), attemptEnd_batch_of_record hr hm a, attemptEnd_roster hr hm a,
      attemptEnd_pages hr hm a⟩
    · rw [attemptEnd_oru hr hm, hi]
      rfl
    · rw [attemptEnd_oru hr hm, hi]
      rfl

end Sys2Proof.Machine
end

section
/-! SUPPORT. The candidates of a handover tried in turn: what each one refused, taken, or refused by its queue makes of
the state, and what remains once none is left (R112, R113). -/

namespace Sys2Proof.Machine

open Sys2Proof

variable {s t u : State} {c : CallNo} {e : Call} {b : BaseNo} {j : ChanNo} {g : AttemptTag} {l : List BaseNo}

/-! ### A state that differs in the entry of one call -/

/-- The state `t` is `s` with entry `e` for call `c`, and with marks of its own. -/
structure EntryOf (s : State) (c : CallNo) (e : Call) (t : State) : Prop where
  entry  : t.calls[c] = e
  others : ∀ d : CallNo, d ≠ c → t.calls[d] = s.calls[d]
  frame  : { t with calls := s.calls, acu := s.acu } = s

/-- The state with the calls, the marks, the channel map and the switch batch of another. -/
def State.withMapsOf (s t : State) : State :=
  { s with calls := t.calls, acu := t.acu, chans := t.chans, batch := t.batch }

/-- The state with the calls and the marks of another. -/
def State.withCallsOf (s t : State) : State := { s with calls := t.calls, acu := t.acu }

theorem enqueue_withMapsOf (s t : State) (b : BaseNo) (m : Downlink) :
    (s.withMapsOf t).enqueue b m = (s.enqueue b m).withMapsOf t := by
  by_cases h : s.links[b].queue = []
  · rw [enqueue_of_nil (s := s.withMapsOf t) h, enqueue_of_nil h]
    rfl
  · rw [enqueue_of_ne_nil (s := s.withMapsOf t) h, enqueue_of_ne_nil h]
    rfl

/-- A message is offered in the same way whatever these tables hold (R13). -/
theorem send_withMapsOf (s t : State) (b : BaseNo) (m : Downlink) :
    (s.withMapsOf t).send b m = (s.send b m).withMapsOf t := by
  cases h : s.appendTaken b with
  | true => rw [send_of_taken (s := s.withMapsOf t) h, send_of_taken h, enqueue_withMapsOf]
  | false =>
    rw [send_of_refused (s := s.withMapsOf t) h, send_of_refused h]
    rfl

/-- A message offered leaves these tables as they were. -/
theorem send_withMapsOf_self (s : State) (b : BaseNo) (m : Downlink) : (s.send b m).withMapsOf s = s.send b m :=
  (send_withMapsOf s s b m).symm

theorem send_withCallsOf (s t : State) (b : BaseNo) (m : Downlink) :
    (s.withCallsOf t).send b m = (s.send b m).withCallsOf t :=
  calc (s.withCallsOf t).send b m
    _ = ((s.send b m).withMapsOf s).withCallsOf t := send_withMapsOf s (s.withCallsOf t) b m
    _ = (s.send b m).withCallsOf t := by rw [send_withMapsOf_self]

theorem send_setChan (s : State) (x : BaseNo) (k : ChanNo) (v : Chan) (b : BaseNo) (m : Downlink) :
    (s.setChan x k v).send b m = (s.send b m).setChan x k v :=
  calc (s.setChan x k v).send b m
    _ = ((s.send b m).withMapsOf s).setChan x k v := send_withMapsOf s (s.setChan x k v) b m
    _ = (s.send b m).setChan x k v := by rw [send_withMapsOf_self]

theorem send_setBatch (s : State) (q : List BatchEntry) (b : BaseNo) (m : Downlink) :
    (s.setBatch q).send b m = (s.send b m).setBatch q :=
  calc (s.setBatch q).send b m
    _ = ((s.send b m).withMapsOf s).setBatch q := send_withMapsOf s (s.setBatch q) b m
    _ = (s.send b m).setBatch q := by rw [send_withMapsOf_self]

namespace EntryOf

theorem refl (s : State) (c : CallNo) : EntryOf s c s.calls[c] s := ⟨rfl, fun _ _ => rfl, rfl⟩

theorem updCall (h : EntryOf s c e t) (f : Call → Call) : EntryOf s c (f e) (t.updCall c f) where
  entry := by rw [updCall_get, if_pos rfl, h.entry]
  others d hd := by rw [updCall_other hd.symm, h.others d hd]
  frame := h.frame

theorem markCall (h : EntryOf s c e t) (v : Byte) : EntryOf s c e (t.markCall c v) := ⟨h.entry, h.others, h.frame⟩

/-- A change of the other tables that reads neither the calls nor the marks. -/
theorem change (h : EntryOf s c e t) (f : State → State)
    (hf : ∀ v w : State, f (v.withCallsOf w) = (f v).withCallsOf w) :
    EntryOf (f s) c e (f t) := by
  have hcalls : ∀ v : State, (f v).calls = v.calls := fun v => (congrArg State.calls (hf v v) :)
  have hacu : ∀ v : State, (f v).acu = v.acu := fun v => (congrArg State.acu (hf v v) :)
  refine ⟨by rw [hcalls]; exact h.entry, fun d hd => by rw [hcalls, hcalls]; exact h.others d hd, ?_⟩
  rw [hcalls, hacu]
  exact (hf t s).symm.trans (congrArg f h.frame)

theorem setChan (h : EntryOf s c e t) (b : BaseNo) (k : ChanNo) (v : Chan) :
    EntryOf (s.setChan b k v) c e (t.setChan b k v) := h.change (·.setChan b k v) fun _ _ => rfl

theorem send (h : EntryOf s c e t) (b : BaseNo) (m : Downlink) : EntryOf (s.send b m) c e (t.send b m) :=
  h.change (·.send b m) fun v w => send_withCallsOf v w b m

theorem links (h : EntryOf s c e t) : t.links = s.links := (congrArg State.links h.frame :)
theorem chans (h : EntryOf s c e t) : t.chans = s.chans := (congrArg State.chans h.frame :)
theorem roster (h : EntryOf s c e t) : t.roster = s.roster := (congrArg State.roster h.frame :)

theorem appendTaken (h : EntryOf s c e t) (b : BaseNo) : t.appendTaken b = s.appendTaken b :=
  appendTaken_congr (by rw [h.links])

theorem after (h : EntryOf s c e t) (n : Nat) : t.after n = s.after n :=
  (congrArg (fun v : State => v.after n) h.frame :)

theorem zoneAt (h : EntryOf s c e t) (b : BaseNo) : t.zoneAt b = s.zoneAt b :=
  (congrArg (fun v : State => v.zoneAt b) h.frame :)

end EntryOf

/-! ### One candidate (R112, R113) -/

/-- The channel that a reserve request at base `b` takes for a call with entry `e` (R69). -/
def State.offeredTo (s : State) (c : CallNo) (e : Call) (b : BaseNo) : Option ChanNo :=
  if s.service b == .serving && b != e.base && callLive e.state && !s.holdsReserved c then
    (s.freeChannels b).head?
  else none

theorem EntryOf.reservable (h : EntryOf s c e t) (b : BaseNo) : t.reservable b c = s.offeredTo c e b := by
  have hf : t.freeChannels b = s.freeChannels b := freeChannels_congr (by rw [h.links]) h.chans
  rw [State.reservable, State.offeredTo, h.entry, hf, State.service, h.links, State.holdsReserved, h.chans]
  rfl

/-- A request that R69 refuses. -/
theorem offeredTo_of_refused (h : s.refusesReserve c b) (hb : e.base = s.calls[c].base) : s.offeredTo c e b = none := by
  unfold State.offeredTo
  split
  · next hc =>
    simp only [Bool.and_eq_true, beq_iff_eq, bne_iff_ne, ne_eq] at hc
    obtain ⟨⟨⟨hs, hne⟩, -⟩, -⟩ := hc
    rcases h with h | h | h
    · exact absurd hs h
    · exact absurd (h.trans hb.symm) hne
    · rw [h, List.head?_nil]
  · rfl

/-- A request that R69 grants: the lowest FREE channel. -/
theorem offeredTo_of_free (hs : s.service b = .serving) (hb : b ≠ e.base) (hl : callLive e.state = true)
    (hr : s.holdsReserved c = false) : s.offeredTo c e b = (s.freeChannels b).head? := by
  rw [State.offeredTo, if_pos]
  simp [hs, hb, hl, hr]

theorem offeredTo_free (h : s.offeredTo c e b = some j) : s.chan b j = .free := by
  unfold State.offeredTo at h
  split at h
  · exact (mem_freeChannels.mp (List.mem_of_mem_head? h)).1
  · cases h

/-- The record once base `b` is its candidate, with tag `g` and the bases `l` left to try (R112). -/
def Handover.aimedAt (r : Handover) (b : BaseNo) (l : List BaseNo) (g : AttemptTag) : Handover :=
  { r with tryList := l, target := b, channel := none, tag := g, state := .reserving, reserveTimer := none }

/-- The record once base `b` has refused, or its queue the RESERVE (R112, R113). -/
def Handover.refusedAt (r : Handover) (b : BaseNo) (l : List BaseNo) (g : AttemptTag) : Handover :=
  { r.aimedAt b l g with lastFailure := some .noChannel }

/-- The entry of a call whose record aims at base `b` with the next attempt tag (R112). -/
def Call.aimedAt (b : BaseNo) (l : List BaseNo) (e : Call) : Call :=
  { e with
    tagCounter := nextTag e.tagCounter, handover := e.handover.map (·.aimedAt b l (nextTag e.tagCounter)) }

/-- The entry of a call once base `b` has refused it (R112, R113). -/
def Call.refusedAt (e : Call) (b : BaseNo) (l : List BaseNo) (g : AttemptTag) : Call :=
  { e with tagCounter := g, handover := e.handover.map (·.refusedAt b l g) }

/-- The entry of a call that has channel `j` of base `b` RESERVED and awaits the answer (R112). -/
def State.reservedCall (s : State) (e : Call) (b : BaseNo) (l : List BaseNo) (j : ChanNo) (g : AttemptTag) : Call :=
  { e with
    tagCounter := g
    handover := e.handover.map fun r => { r.aimedAt b l g with
      channel := some j, reserveTimer := some (s.after (s.zoneAt b).reserveLimit) } }

/-- The state once channel `j` of base `b` is RESERVED for call `c` and the RESERVE offered (R112). -/
def State.reserveSent (s : State) (c : CallNo) (h : HandsetNo) (b : BaseNo) (j : ChanNo) (g : AttemptTag) : State :=
  (s.setChan b j (.reserved c g)).send b (.reserve j c s.roster[h].identity g)

section
variable (s : State) (c : CallNo) (i : HandsetNo) (b : BaseNo) (j : ChanNo) (g : AttemptTag)

theorem reserveSent_calls : (s.reserveSent c i b j g).calls = s.calls := send_calls _ _ _
theorem reserveSent_acu : (s.reserveSent c i b j g).acu = s.acu := send_acu _ _ _
theorem reserveSent_chans : (s.reserveSent c i b j g).chans = (s.setChan b j (.reserved c g)).chans :=
  send_chans _ _ _

/-- But for the channel, a RESERVE is a message offered (R112). -/
theorem reserveSent_frame :
    { s.reserveSent c i b j g with calls := s.calls, chans := s.chans, acu := s.acu } =
      s.send b (.reserve j c s.roster[i].identity g) := by
  rw [State.reserveSent, send_setChan]
  generalize Downlink.reserve j c s.roster[i].identity g = m
  calc { (s.send b m).setChan b j (.reserved c g) with calls := s.calls, chans := s.chans, acu := s.acu }
    _ = { (s.send b m).withMapsOf s with batch := (s.send b m).batch } := rfl
    _ = s.send b m := by rw [send_withMapsOf_self]

/-- The offer of a RESERVE leaves the zones and the frame count alone. -/
theorem reserveSent_reserveLimit :
    (s.reserveSent c i b j g).after ((s.reserveSent c i b j g).zoneAt b).reserveLimit =
      s.after (s.zoneAt b).reserveLimit := by
  have hz : (s.reserveSent c i b j g).zoneAt b = s.zoneAt b := send_zoneAt (s.setChan b j (.reserved c g)) b b _
  have hr : (s.reserveSent c i b j g).regs = s.regs :=
    (congrArg State.regs (send_frame (s.setChan b j (.reserved c g)) b _) :)
  rw [hz, State.after, hr]
  rfl

end

section
variable (s c b l)

/-- A candidate that is refused the reserve request (R112, R113). -/
theorem tryCandidates_of_refused (h : (s.takeTarget c b l).reservable b c = none) :
    s.tryCandidates c (b :: l) = ((s.takeTarget c b l).noteFailure c .noChannel).tryCandidates c l := by
  rw [State.tryCandidates, h]

/-- A candidate whose queue takes the RESERVE (R112). -/
theorem tryCandidates_of_taken (h : (s.takeTarget c b l).reservable b c = some j)
    (ha : (s.takeTarget c b l).appendTaken b = true) :
    s.tryCandidates c (b :: l) =
      ((s.takeTarget c b l).reserveSent c (s.takeTarget c b l).calls[c].handset b j
        (s.takeTarget c b l).calls[c].tagCounter).updHandover c fun r => { r with
          channel := some j
          reserveTimer := some ((s.takeTarget c b l).after ((s.takeTarget c b l).zoneAt b).reserveLimit) } := by
  rw [State.tryCandidates, ← reserveSent_reserveLimit (s.takeTarget c b l) c
    (s.takeTarget c b l).calls[c].handset b j (s.takeTarget c b l).calls[c].tagCounter, h]
  dsimp only
  rw [append_of_taken (s := (s.takeTarget c b l).setChan b j _) ha, State.reserveSent,
    send_of_taken (s := (s.takeTarget c b l).setChan b j _) ha]
  rfl

/-- A candidate whose queue refuses the RESERVE: its channel is FREE again (R112, R113). -/
theorem tryCandidates_of_full (h : (s.takeTarget c b l).reservable b c = some j)
    (ha : (s.takeTarget c b l).appendTaken b = false) (hf : s.chan b j = .free) :
    s.tryCandidates c (b :: l) =
      (((s.takeTarget c b l).bumpBase b .discards).noteFailure c .noChannel).tryCandidates c l := by
  have hback : ∀ (v : State) (g : AttemptTag), v.chan b j = .free →
      ((v.setChan b j (.reserved c g)).bumpBase b .discards).unreserve b j c g = v.bumpBase b .discards :=
    fun v g hv => by
      rw [unreserve_of_reserved (s := (v.setChan b j (.reserved c g)).bumpBase b .discards)
        ((setChan_get v b b j j _).trans (if_pos ⟨rfl, rfl⟩))]
      have hset : ((v.setChan b j (.reserved c g)).setChan b j .free).chans = v.chans := by
        rw [State.setChan_chans, State.setChan_chans, ← hv]
        simp [State.chan]
      exact congrArg (fun w => { v.bumpBase b .discards with chans := w }) hset
  rw [State.tryCandidates, h]
  dsimp only
  rw [append_of_refused (s := (s.takeTarget c b l).setChan b j _) ha]
  dsimp only
  rw [hback (s.takeTarget c b l) _ hf]

end

theorem EntryOf.takeTarget (h : EntryOf s c e t) (b : BaseNo) (l : List BaseNo) :
    EntryOf s c (e.aimedAt b l) (t.takeTarget c b l) :=
  (h.updCall (Call.aimedAt b l)).markCall 0

/-- A candidate that has failed is noted (R113 step 1). -/
theorem EntryOf.noteRefused (h : EntryOf s c (e.aimedAt b l) t) :
    EntryOf s c (e.refusedAt b l (nextTag e.tagCounter)) (t.noteFailure c .noChannel) := by
  have hn := h.updCall fun e => { e with handover := e.handover.map fun r => { r with lastFailure := some .noChannel } }
  rw [Call.aimedAt, Option.map_map] at hn
  exact hn

/-- A base that refuses the request is passed over (R113). -/
theorem EntryOf.tryRefused (h : EntryOf s c e t) (hn : s.offeredTo c e b = none) (l : List BaseNo) :
    ∃ u, t.tryCandidates c (b :: l) = u.tryCandidates c l ∧
      EntryOf s c (e.refusedAt b l (nextTag e.tagCounter)) u := by
  have ht := h.takeTarget b l
  refine ⟨_, ?_, ht.noteRefused⟩
  exact tryCandidates_of_refused t c b l ((ht.reservable b).trans hn)

/-- The RESERVE of a state that differs in the entry of its call alone. -/
theorem EntryOf.reserveSent (h : EntryOf s c e t) (i : HandsetNo) (b : BaseNo) (j : ChanNo) (g : AttemptTag) :
    EntryOf (s.reserveSent c i b j g) c e (t.reserveSent c i b j g) := by
  rw [State.reserveSent, State.reserveSent, h.roster]
  exact (h.setChan b j _).send b _

/-- What a RESERVE offered leaves of such a state, but for its channel (R112). -/
theorem EntryOf.sent_frame {i : HandsetNo} (h : EntryOf (s.reserveSent c i b j g) c e u) :
    { u with calls := s.calls, chans := s.chans, acu := s.acu } =
      s.send b (.reserve j c s.roster[i].identity g) := by
  have hf := congrArg (fun w : State => { w with calls := s.calls, chans := s.chans, acu := s.acu }) h.frame
  exact hf.trans (reserveSent_frame s c i b j g)

/-- A base with a FREE channel whose queue takes the RESERVE is the candidate (R112). -/
theorem EntryOf.tryReserved (h : EntryOf s c e t) (hj : s.offeredTo c e b = some j) (ha : s.appendTaken b = true)
    (l : List BaseNo) :
    EntryOf (s.reserveSent c e.handset b j (nextTag e.tagCounter)) c (s.reservedCall e b l j (nextTag e.tagCounter))
      (t.tryCandidates c (b :: l)) := by
  have ht := h.takeTarget b l
  have hv := (ht.reserveSent e.handset b j (nextTag e.tagCounter)).updCall fun e => { e with
    handover := e.handover.map fun r => { r with
      channel := some j, reserveTimer := some (s.after (s.zoneAt b).reserveLimit) } }
  rw [Call.aimedAt, Option.map_map] at hv
  rw [tryCandidates_of_taken t c b l ((ht.reservable b).trans hj) ((ht.appendTaken b).trans ha), ht.entry, ht.after,
    ht.zoneAt]
  exact hv

/-- A base whose queue refuses the RESERVE is passed over (R112, R113). -/
theorem EntryOf.tryFull (h : EntryOf s c e t) (hj : s.offeredTo c e b = some j) (ha : s.appendTaken b = false)
    (l : List BaseNo) :
    ∃ u, t.tryCandidates c (b :: l) = u.tryCandidates c l ∧
      EntryOf (s.bumpBase b .discards) c (e.refusedAt b l (nextTag e.tagCounter)) u := by
  have ht := h.takeTarget b l
  refine ⟨_, tryCandidates_of_full t c b l ((ht.reservable b).trans hj) ((ht.appendTaken b).trans ha) ?_,
    (ht.change (·.bumpBase b .discards) fun _ _ => rfl).noteRefused⟩
  rw [State.chan, h.chans]
  exact offeredTo_free hj

/-! ### Candidates passed over, and none left (R113) -/

theorem tagAfter_nextTag (n : Nat) (g : AttemptTag) : tagAfter n (nextTag g) = nextTag (tagAfter n g) := by
  induction n with
  | zero => rfl
  | succ n ih => rw [tagAfter, ih, tagAfter]

/-- The entry of a call shows the last base that refused it. -/
theorem refusedAt_refusedAt (e : Call) (x y : BaseNo) (l m : List BaseNo) (g k : AttemptTag) :
    (e.refusedAt x l g).refusedAt y m k = e.refusedAt y m k := by
  rw [Call.refusedAt, Call.refusedAt, Call.refusedAt, Option.map_map]
  rfl

/-- Candidates that all refuse the reserve request are passed over, each with a tag of its own (R112, R113). -/
theorem EntryOf.passOver (h : EntryOf s c e t) {x : BaseNo} (hn : ∀ b ∈ x :: l, s.offeredTo c e b = none)
    (rest : List BaseNo) :
    ∃ u, t.tryCandidates c (x :: l ++ rest) = u.tryCandidates c rest ∧
      EntryOf s c (e.refusedAt (l.getLastD x) rest (tagAfter (l.length + 1) e.tagCounter)) u := by
  induction l generalizing x e t with
  | nil => exact h.tryRefused (hn x List.mem_cons_self) rest
  | cons y l ih =>
    obtain ⟨u, hu, he⟩ := h.tryRefused (hn x List.mem_cons_self) (y :: l ++ rest)
    obtain ⟨v, hv, he⟩ := ih he fun b hb => hn b (List.mem_cons_of_mem x hb)
    rw [refusedAt_refusedAt] at he
    refine ⟨v, hu.trans hv, ?_⟩
    have htag : tagAfter (l.length + 1) (nextTag e.tagCounter) = tagAfter (l.length + 2) e.tagCounter :=
      tagAfter_nextTag _ _
    rw [List.getLastD_cons, List.length_cons, ← htag]
    exact he

/-- The state `u` is `s` once the attempt of call `c`, its entry `e` and its record `r` with nothing reserved, has
ended with reason `a` (R124, R128). -/
structure AttemptGone (s : State) (c : CallNo) (e : Call) (r : Handover) (a : AbortReason) (u : State) : Prop where
  entry  : u.calls[c] = s.abortedCall r a e
  others : ∀ d : CallNo, d ≠ c → u.calls[d] = s.calls[d]
  oru    : u.oru = (s.answerMove r.slot (abortResult r a)).oru
  frame  : { u with calls := s.calls, acu := s.acu, oru := s.oru } = s.dropBatch c

theorem EntryOf.attemptEnd {r : Handover} (h : EntryOf s c e t) (hr : e.handover = some r) (hm : e.state = .moving)
    (hn : r.channel = none) (a : AbortReason) : AttemptGone s c e r a (t.attemptEnd c a) := by
  have hr' : t.calls[c].handover = some r := by rw [h.entry, hr]
  have hm' : t.calls[c].state = .moving := by rw [h.entry, hm]
  have horu : t.oru = s.oru := (congrArg State.oru h.frame :)
  refine ⟨?_, fun d hd => (attemptEnd_other hd.symm t a).trans (h.others d hd), ?_, ?_⟩
  · rw [attemptEnd_self hr' hm', h.entry, abortedCall_congr h.zoneAt (congrArg State.regs h.frame :)]
  · rw [attemptEnd_oru hr' hm', answerMove_oru_congr horu]
  · have hend := congrArg (fun v : State => { v with calls := s.calls, acu := s.acu, oru := s.oru })
      (attemptEnd_frame_of_none hr' hm' a hn)
    have hdrop := congrArg (fun v : State => { v.dropBatch c with oru := s.oru }) h.frame
    exact hend.trans hdrop

/-- With none left the attempt ends with the last failure (R113 step 5). -/
theorem EntryOf.tryNone {r : Handover} (h : EntryOf s c e t) (hr : e.handover = some r) (hm : e.state = .moving)
    (hn : r.channel = none) :
    AttemptGone s c e r (r.lastFailure.getD .noChannel) (t.tryCandidates c []) := by
  have hl : t.lastFailureOf c = r.lastFailure.getD .noChannel := by rw [State.lastFailureOf, h.entry, hr]; rfl
  rw [State.tryCandidates, hl]
  exact h.attemptEnd hr hm hn _

/-- Whatever the candidates answer, the call goes on at its base (R112, R124). -/
theorem EntryOf.try_keepsCall {r : Handover} (h : EntryOf s c e t) (hr : e.handover = some r) (hm : e.state = .moving)
    (hn : r.channel = none) (l : List BaseNo) :
    callLive (t.tryCandidates c l).calls[c].state = true ∧ (t.tryCandidates c l).calls[c].base = e.base := by
  induction l generalizing s e r t with
  | nil =>
    rw [(h.tryNone hr hm hn).entry]
    exact ⟨rfl, rfl⟩
  | cons b l ih =>
    have hr' : (e.refusedAt b l (nextTag e.tagCounter)).handover = some (r.refusedAt b l (nextTag e.tagCounter)) := by
      rw [Call.refusedAt, hr]
      rfl
    cases hj : s.offeredTo c e b with
    | none =>
      obtain ⟨u, hu, he⟩ := h.tryRefused hj l
      rw [hu]
      exact ih (e := e.refusedAt b l (nextTag e.tagCounter)) he hr' hm rfl
    | some j =>
      cases ha : s.appendTaken b with
      | true =>
        rw [(h.tryReserved hj ha l).entry]
        exact ⟨congrArg callLive hm, rfl⟩
      | false =>
        obtain ⟨u, hu, he⟩ := h.tryFull hj ha l
        rw [hu]
        exact ih (e := e.refusedAt b l (nextTag e.tagCounter)) he hr' hm rfl

/-! ### The start of a handover (R112) -/

/-- The record of a handover that starts (R112). -/
def Call.newRecord (e : Call) (k : HandoverKind) (l : List BaseNo) (i : Option SlotNo) : Handover where
  kind := k
  tryList := l
  target := l.headD 0
  channel := none
  tag := e.tagCounter
  state := .reserving
  reserveTimer := none
  arrivalTimer := none
  oldDropped := false
  lastFailure := none
  slot := i

/-- The entry of a call whose handover starts (R71, R112). -/
def Call.starting (k : HandoverKind) (l : List BaseNo) (i : Option SlotNo) (e : Call) : Call :=
  { e with state := .moving, handover := some (e.newRecord k l i) }

/-- A handover of a call in progress starts with the candidates of its try list (R112). -/
theorem startHandover_tries (h : callLive s.calls[c].state = true) (k : HandoverKind) (l : List BaseNo)
    (i : Option SlotNo) :
    ∃ t, s.startHandover c k l i = t.tryCandidates c l ∧ EntryOf s c (s.calls[c].starting k l i) t := by
  have hrec := (EntryOf.refl s c).updCall fun e => { e with handover := some (e.newRecord k l i) }
  refine ⟨_, rfl, ?_⟩
  unfold State.moveBegin
  split
  · exact (hrec.updCall fun e => { e with state := .moving }).markCall 0
  · next hn =>
    have hm : s.calls[c].state = .moving := by
      rw [updCall_get, if_pos rfl] at hn
      cases e : s.calls[c].state with
      | moving => rfl
      | connected => exact absurd e hn
      | free | ended => rw [e] at h; cases h
    have he : s.calls[c].starting k l i = { s.calls[c] with handover := some (s.calls[c].newRecord k l i) } := by
      rw [Call.starting, ← hm]
    rw [he]
    exact hrec

end Sys2Proof.Machine
end

section
/-! SUPPORT. FORCE MOVE (R108, R112): O33. -/

namespace Sys2Proof.Machine

open Sys2Proof

variable {s : State} {c : CallNo} {t : BaseNo} {slot : SlotNo} {j : ChanNo}

/-! ### Reserved channels and tags -/

/-- A call holds a reservation where some channel is RESERVED for it. -/
theorem holdsReserved_iff : s.holdsReserved c = true ↔ ∃ b k g, s.chan b k = .reserved c g := by
  have hchan : ∀ v : Chan, chanReservedFor c v = true ↔ ∃ g, v = .reserved c g := fun v => by
    cases v <;> simp [chanReservedFor]
  simp only [State.holdsReserved, List.any_eq_true, hchan]
  constructor
  · rintro ⟨row, hrow, v, hv, g, rfl⟩
    obtain ⟨b, hb, rfl⟩ := List.getElem_of_mem hrow
    obtain ⟨k, hk, hg⟩ := List.getElem_of_mem hv
    exact ⟨⟨b, by simpa using hb⟩, ⟨k, by simpa using hk⟩, g, by simpa [State.chan] using hg⟩
  · rintro ⟨b, k, g, hg⟩
    exact ⟨s.chans[b], by simp, s.chan b k, by simp [State.chan], g, hg⟩

/-- Attempt tags pass from 255 to 1, and are never 0 (R112). -/
theorem nextTag_rules (g : AttemptTag) : nextTag g ≠ 0 ∧ (g ≠ 255 → nextTag g = g + 1) ∧ nextTag 255 = 1 := by
  refine ⟨?_, fun h => if_neg h, rfl⟩
  unfold nextTag
  split
  · decide
  · next h => bv_omega

/-! ### The checks (R108) -/

theorem moveRefusal_of_noCall (hl : callLive s.calls[c].state = false) : s.moveRefusal c t = some .noCall := by
  rw [State.moveRefusal, hl]
  rfl

section
variable (hl : callLive s.calls[c].state = true)
include hl

theorem moveRefusal_of_busy (hr : s.calls[c].handover.isSome = true) : s.moveRefusal c t = some .busy := by
  rw [State.moveRefusal, hl, hr]
  rfl

variable (hr : s.calls[c].handover = none)
include hr

theorem moveRefusal_of_noService (hs : s.service t ≠ .serving) : s.moveRefusal c t = some .noService := by
  rw [State.moveRefusal, hl, hr, if_pos hs]
  rfl

variable (hs : s.service t = .serving)
include hs

theorem moveRefusal_of_same (hb : t = s.calls[c].base) : s.moveRefusal c t = some .same := by
  rw [State.moveRefusal, hl, hr, if_neg (not_not.mpr hs), if_pos hb]
  rfl

variable (hb : t ≠ s.calls[c].base)
include hb

/-- Past the other checks the zone mask decides (R108). -/
theorem moveRefusal_by_zone : s.moveRefusal c t =
    if inMask s.roster[s.calls[c].handset].zoneMask s.links[t].zone = true then none else some .zone := by
  rw [State.moveRefusal, hl, hr, if_neg (not_not.mpr hs), if_neg hb]
  cases inMask s.roster[s.calls[c].handset].zoneMask s.links[t].zone <;> rfl

end

theorem exec_forceMove_refused {k : StateCode} (ho : s.offers slot (.forceMove c t)) (h : s.moveRefusal c t = some k) :
    exec (.forceMove slot c t) s = .next ((s.undispatched.handBack slot ⟨.state k, 0, []⟩).scanOn).settle := by
  have h' : s.undispatched.moveRefusal c t = some k := h
  rw [exec_forceMove, takeOrder_of_offers ho, State.takeForceMove, h']
  rfl

/-- A FORCE MOVE that no check refuses tries its one candidate (R108, R112). -/
theorem exec_forceMove_started (ho : s.offers slot (.forceMove c t)) (hl : callLive s.calls[c].state = true)
    (h : s.moveRefusal c t = none) :
    ∃ v, exec (.forceMove slot c t) s = .next (v.tryCandidates c [t]).scanOn.settle ∧
      EntryOf s.undispatched c (s.calls[c].starting .forced [t] (some slot)) v := by
  have h' : s.undispatched.moveRefusal c t = none := h
  obtain ⟨v, hv, he⟩ := startHandover_tries (s := s.undispatched) hl .forced [t] (some slot)
  refine ⟨v, ?_, he⟩
  rw [exec_forceMove, takeOrder_of_offers ho, State.takeForceMove, h', ← hv]

/-- The one candidate of a FORCE MOVE is passed over and the attempt ends NO_CHANNEL (R112, R128). -/
theorem forcedMove_over {g u v : State}
    (he : EntryOf g c ((s.calls[c].starting .forced [t] (some slot)).refusedAt t [] (nextTag s.calls[c].tagCounter)) u)
    (hr : s.calls[c].handover = none) (hv : v = u.tryCandidates c []) :
    v.calls[c] = { s.calls[c] with
      state := .connected, tagCounter := nextTag s.calls[c].tagCounter, lastAbort := some .noChannel } ∧
    (∀ d : CallNo, d ≠ c → v.calls[d] = g.calls[d]) ∧
    v.oru = (g.handBack slot ⟨.failed .noChannel, t.val, [0, nextTag s.calls[c].tagCounter]⟩).oru ∧
    { v with calls := g.calls, acu := g.acu, oru := g.oru } = g.dropBatch c := by
  obtain ⟨hentry, hothers, horu, hframe⟩ := he.tryNone rfl rfl rfl
  subst hv
  refine ⟨?_, hothers, horu, hframe⟩
  have hcall : { s.calls[c] with handover := none } = s.calls[c] := by rw [← hr]
  rw [hentry, ← hcall]
  rfl

/-- Settles O33: the checks one after another, then the one candidate tried. -/
theorem forceMoveOrder : Obligations.ForceMoveOrder := by
  refine ⟨fun s c => holdsReserved_iff, fun slot c t s ho => ⟨fun hl => ?_, fun hl => ⟨fun hr => ?_, fun hr =>
    ⟨fun hs => ?_, fun hs => ⟨fun hb => ?_, fun hb => ⟨fun hz => ?_, fun hz hh j hj ha => ?_, fun hz hf => ?_,
      fun hz hh j hj ha => ?_⟩⟩⟩⟩⟩, nextTag_rules⟩
  · exact exec_forceMove_refused ho (moveRefusal_of_noCall hl)
  · exact exec_forceMove_refused ho (moveRefusal_of_busy hl hr)
  · exact exec_forceMove_refused ho (moveRefusal_of_noService hl hr hs)
  · exact exec_forceMove_refused ho (moveRefusal_of_same hl hr hs hb)
  · exact exec_forceMove_refused ho ((moveRefusal_by_zone hl hr hs hb).trans (if_neg (Bool.eq_false_iff.mp hz)))
  all_goals obtain ⟨v, hv, he⟩ :=
    exec_forceMove_started ho hl ((moveRefusal_by_zone hl hr hs hb).trans (if_pos hz))
  · have hoff : s.undispatched.offeredTo c (s.calls[c].starting .forced [t] (some slot)) t = some j :=
      (offeredTo_of_free (s := s.undispatched) (e := s.calls[c].starting .forced [t] (some slot)) hs hb rfl hh).trans hj
    have hu := he.tryReserved hoff ha []
    refine ⟨_, hv, ?_, ?_, ?_, ?_⟩
    · rw [hu.entry]
      rfl
    · exact fun d hd => (hu.others d hd).trans (by rw [reserveSent_calls]; rfl)
    · exact hu.chans.trans (reserveSent_chans _ _ _ _ _ _)
    · exact hu.sent_frame
  · have hoff : s.undispatched.offeredTo c (s.calls[c].starting .forced [t] (some slot)) t = none :=
      offeredTo_of_refused (.inr (.inr hf)) rfl
    obtain ⟨u, hu, he'⟩ := he.tryRefused hoff []
    obtain ⟨hentry, hothers, horu, hframe⟩ := forcedMove_over he' hr hu
    exact ⟨_, hv, hentry, hothers, (congrArg State.chans hframe :), (congrArg State.wire hframe :), horu⟩
  · have hoff : s.undispatched.offeredTo c (s.calls[c].starting .forced [t] (some slot)) t = some j :=
      (offeredTo_of_free (s := s.undispatched) (e := s.calls[c].starting .forced [t] (some slot)) hs hb rfl hh).trans hj
    obtain ⟨u, hu, he'⟩ := he.tryFull hoff ha []
    obtain ⟨hentry, hothers, horu, hframe⟩ := forcedMove_over he' hr hu
    refine ⟨_, hv, hentry, hothers, ?_, ?_⟩
    · rw [horu]
      exact handBack_oru_congr rfl _ _
    · exact (congrArg (fun w : State => { w with oru := s.oru }) hframe :)

end Sys2Proof.Machine
end

section
/-! SUPPORT. The timers of a call, and a candidate that fails (R103, R104, R113, R117, R122): O32. -/

namespace Sys2Proof.Machine

open Sys2Proof

variable {s t u : State} {c : CallNo} {r : Handover} {a : AbortReason} {j : ChanNo}

/-! ### A candidate that fails (R113) -/

/-- The record of a failed candidate: nothing is reserved, and no timer runs (R113 steps 1 to 3). -/
def Handover.failed (r : Handover) (a : AbortReason) : Handover :=
  { r with lastFailure := some a, channel := none, reserveTimer := none }

/-- What a failed candidate leaves of its reservation (R113 steps 2 and 3). -/
theorem giveUpCandidate_eq (hj : r.channel = some j) (hc : s.chan r.target j = .reserved c r.tag) (a : AbortReason) :
    (s.dropBatch c).giveUpCandidate c r a = s.reservationLost c r j a := by
  rw [State.giveUpCandidate, hj]
  dsimp only
  rw [unreserve_of_reserved (s := s.dropBatch c) hc, State.reservationLost]
  split
  · rfl
  · rw [send_setChan, State.dropBatch, send_setBatch]
    rfl

theorem reservationLost_withCallsOf (s t : State) (c : CallNo) (r : Handover) (j : ChanNo) (a : AbortReason) :
    (s.withCallsOf t).reservationLost c r j a = (s.reservationLost c r j a).withCallsOf t := by
  rw [State.reservationLost, State.reservationLost]
  split
  · rfl
  · rw [send_withCallsOf]
    rfl

theorem reservationLost_calls (s : State) (c : CallNo) (r : Handover) (j : ChanNo) (a : AbortReason) :
    (s.reservationLost c r j a).calls = s.calls :=
  (congrArg State.calls (reservationLost_withCallsOf s s c r j a) :)

theorem reservationLost_dropBatch (s : State) (c : CallNo) (r : Handover) (j : ChanNo) (a : AbortReason) :
    (s.reservationLost c r j a).dropBatch c = s.reservationLost c r j a := by
  have hb : (s.reservationLost c r j a).batch = s.batch.filter fun e => e.call != c := rfl
  rw [State.dropBatch, hb, List.filter_filter]
  simp only [Bool.and_self]
  rfl

/-- A failed candidate gives up its reservation, and the candidates left are tried (R113). -/
theorem candidateFail_tries (hr : s.calls[c].handover = some r) (hj : r.channel = some j)
    (hc : s.chan r.target j = .reserved c r.tag) (a : AbortReason) :
    ∃ t, s.candidateFail c a = t.tryCandidates c r.tryList ∧
      EntryOf (s.reservationLost c r j a) c { s.calls[c] with handover := some (r.failed a) } t := by
  have hn := ((EntryOf.refl s c).updCall fun e => { e with
    handover := e.handover.map fun r => { r with lastFailure := some a } }).change (·.reservationLost c r j a)
      fun v w => reservationLost_withCallsOf v w c r j a
  have hf := hn.updCall fun e => { e with
    handover := e.handover.map fun q => { q with channel := none, reserveTimer := none } }
  rw [hr] at hf
  refine ⟨_, ?_, hf⟩
  rw [State.candidateFail, hr]
  dsimp only
  rw [giveUpCandidate_eq (s := s.noteFailure c a) hj hc]
  rfl

/-- An attempt with no candidate left is over, its record showing the last one tried (R113 step 5). -/
theorem AttemptGone.over {g : State} {q : Handover} {n : Nat} {x : BaseNo} {k : AttemptTag}
    (h : AttemptGone g c { g.calls[c] with tagCounter := tagAfter n g.calls[c].tagCounter, handover := some q } q a u)
    (hb : g.dropBatch c = g) (hq : q.kind = r.kind ∧ q.slot = r.slot ∧ q.target = x ∧ q.tag = k) :
    g.attemptOver u c r a n x k := by
  obtain ⟨hkind, hslot, htarget, htag⟩ := hq
  refine ⟨?_, h.others, ?_, h.frame.trans hb⟩
  · rw [h.entry, State.abortedCall, hkind]
  · rw [h.oru, hslot, abortResult, htarget, htag]
    cases r.slot <;> rfl

/-- The record of a failed candidate once the further candidates of a list have refused it, the first of them with the
tag after `g` (R112, R113). -/
def Handover.failedPast (r : Handover) (a : AbortReason) (g : AttemptTag) (rest : List BaseNo) :
    List BaseNo → Handover
  | [] => r.failed a
  | x :: l => (r.failed a).refusedAt (l.getLastD x) rest (tagAfter (l.length + 1) g)

section
variable (r a) (g : AttemptTag) (rest pre : List BaseNo)

theorem failedPast_lastFailure :
    (r.failedPast a g rest pre).lastFailure = some (if pre = [] then a else .noChannel) := by
  cases pre <;> rfl

theorem failedPast_channel : (r.failedPast a g rest pre).channel = none := by cases pre <;> rfl

theorem failedPast_target : (r.failedPast a g rest pre).target = pre.getLastD r.target := by
  cases pre with
  | nil => rfl
  | cons x l => rw [List.getLastD_cons]; rfl

theorem failedPast_tag :
    (r.failedPast a g rest pre).tag = if pre = [] then r.tag else tagAfter pre.length g := by
  cases pre <;> rfl

theorem failedPast_order : (r.failedPast a g rest pre).kind = r.kind ∧ (r.failedPast a g rest pre).slot = r.slot := by
  cases pre <;> exact ⟨rfl, rfl⟩

/-- The record of the next candidate shows the last failure, and else what the attempt began with. -/
theorem failedPast_aimedAt (x : BaseNo) (k : AttemptTag) :
    (r.failedPast a g (x :: rest) pre).aimedAt x rest k =
      { r.aimedAt x rest k with lastFailure := some (if pre = [] then a else .noChannel) } := by
  cases pre <;> rfl

end

/-- The entry of a call whose candidate has failed, the further candidates of a list having refused it. -/
def State.failedCall (s : State) (c : CallNo) (r : Handover) (a : AbortReason) (rest pre : List BaseNo) : Call :=
  { s.calls[c] with
    tagCounter := tagAfter pre.length s.calls[c].tagCounter
    handover := some (r.failedPast a s.calls[c].tagCounter rest pre) }

section
variable (hr : s.calls[c].handover = some r) (hj : r.channel = some j)
  (hc : s.chan r.target j = .reserved c r.tag) (a : AbortReason)
include hr hj hc

/-- The candidates left are tried after those that refuse (R113 step 4). -/
theorem candidateFail_passes {pre rest : List BaseNo} (hl : r.tryList = pre ++ rest)
    (hp : ∀ x ∈ pre, (s.reservationLost c r j a).refusesReserve c x) :
    ∃ t, s.candidateFail c a = t.tryCandidates c rest ∧
      EntryOf (s.reservationLost c r j a) c ((s.reservationLost c r j a).failedCall c r a rest pre) t := by
  obtain ⟨t, ht, he⟩ := candidateFail_tries hr hj hc a
  rw [hl] at ht
  rw [State.failedCall, reservationLost_calls]
  cases pre with
  | nil => exact ⟨t, ht, he⟩
  | cons x l =>
    obtain ⟨u, hu, he'⟩ := he.passOver (fun b hb => offeredTo_of_refused (hp b hb) (by rw [reservationLost_calls])) rest
    exact ⟨u, ht.trans hu, he'⟩

/-- Every candidate left refuses: the attempt is over (R113 step 5). -/
theorem candidateFail_over (hm : s.calls[c].state = .moving)
    (hp : ∀ x ∈ r.tryList, (s.reservationLost c r j a).refusesReserve c x) :
    (s.reservationLost c r j a).attemptOver (s.candidateFail c a) c r (if r.tryList = [] then a else .noChannel)
      r.tryList.length (r.tryList.getLastD r.target)
      (if r.tryList = [] then r.tag else tagAfter r.tryList.length s.calls[c].tagCounter) := by
  obtain ⟨t, ht, he⟩ := candidateFail_passes hr hj hc a (List.append_nil _).symm hp
  have hmoving : ((s.reservationLost c r j a).failedCall c r a [] r.tryList).state = .moving := by
    rw [State.failedCall, reservationLost_calls]
    exact hm
  have hgone := he.tryNone rfl hmoving (failedPast_channel _ _ _ _ _)
  rw [failedPast_lastFailure] at hgone
  obtain ⟨hkind, hslot⟩ := failedPast_order r a (s.reservationLost c r j a).calls[c].tagCounter [] r.tryList
  rw [ht]
  refine hgone.over (reservationLost_dropBatch s c r j a) ⟨hkind, hslot, failedPast_target _ _ _ _ _, ?_⟩
  rw [failedPast_tag, reservationLost_calls]

end

theorem reservationLost_reserveLimit (s : State) (c : CallNo) (r : Handover) (j : ChanNo) (a : AbortReason)
    (x : BaseNo) :
    (s.reservationLost c r j a).after ((s.reservationLost c r j a).zoneAt x).reserveLimit =
      s.after (s.zoneAt x).reserveLimit := by
  rw [State.reservationLost]
  split
  · rfl
  · have hz := send_zoneAt s r.target x (.release j r.tag)
    have hr : (s.send r.target (.release j r.tag)).regs = s.regs := (congrArg State.regs (send_frame _ _ _) :)
    rw [← hz, State.after, State.after, ← hr]
    rfl

theorem reservationLost_roster (s : State) (c : CallNo) (r : Handover) (j : ChanNo) (a : AbortReason) :
    (s.reservationLost c r j a).roster = s.roster := by
  rw [State.reservationLost]
  split
  · rfl
  · exact send_roster s _ _

theorem reservationLost_acu (s : State) (c : CallNo) (r : Handover) (j : ChanNo) (a : AbortReason) :
    (s.reservationLost c r j a).acu = s.acu :=
  (congrArg State.acu (reservationLost_withCallsOf s s c r j a) :)

/-- The entry of a call whose next candidate is reserved (R112). -/
theorem reservedCall_failedCall (s : State) (c : CallNo) (r : Handover) (j : ChanNo) (a : AbortReason)
    (pre rest : List BaseNo) (x : BaseNo) (k : ChanNo) (tag : AttemptTag) :
    (s.reservationLost c r j a).reservedCall ((s.reservationLost c r j a).failedCall c r a (x :: rest) pre) x rest k
        tag =
      { s.calls[c] with
        tagCounter := tag
        handover := some { r with
          tryList := rest, target := x, channel := some k, tag := tag, state := .reserving
          reserveTimer := some (s.after (s.zoneAt x).reserveLimit)
          lastFailure := some (if pre = [] then a else .noChannel) } } := by
  rw [State.reservedCall, reservationLost_reserveLimit, State.failedCall, reservationLost_calls]
  simp only [Option.map_some, failedPast_aimedAt]
  rfl

/-- What follows a failed candidate (R112, R113). -/
theorem candidateFail_failsOver (hr : s.calls[c].handover = some r) (hj : r.channel = some j)
    (hm : s.calls[c].state = .moving) (hc : s.chan r.target j = .reserved c r.tag) (a : AbortReason) :
    s.failsOver (s.candidateFail c a) c r j a := by
  rintro g rfl
  refine ⟨candidateFail_over hr hj hc a hm, fun pre t rest k tag hl hp hs hb hh hk htag => ?_⟩
  have hcalls := reservationLost_calls s c r j a
  obtain ⟨v, hv, he⟩ := candidateFail_passes hr hj hc a hl hp
  have htag' : nextTag ((s.reservationLost c r j a).failedCall c r a (t :: rest) pre).tagCounter = tag := by
    rw [htag, State.failedCall, hcalls]
    rfl
  have hmoving : ((s.reservationLost c r j a).failedCall c r a (t :: rest) pre).state = .moving := by
    rw [State.failedCall, hcalls]
    exact hm
  have hoff : (s.reservationLost c r j a).offeredTo c
      ((s.reservationLost c r j a).failedCall c r a (t :: rest) pre) t = some k := by
    refine (offeredTo_of_free hs ?_ (congrArg callLive hmoving) hh).trans hk
    rw [State.failedCall, hcalls]
    exact hb
  rw [hv]
  refine ⟨fun ha => ?_, fun ha hrest => ?_⟩
  · have hu := he.tryReserved hoff ha rest
    rw [htag'] at hu
    refine ⟨hu.entry.trans (reservedCall_failedCall s c r j a pre rest t k tag), fun d hd => ?_, ?_⟩
    · rw [hu.others d hd, reserveSent_calls, hcalls]
    · have hframe := hu.frame
      rw [reserveSent_calls, hcalls, reserveSent_acu, reservationLost_acu] at hframe
      refine hframe.trans ?_
      rw [State.reserveSent, reservationLost_roster, State.failedCall, hcalls]
  · subst hrest
    obtain ⟨u, hu, he'⟩ := he.tryFull hoff ha []
    rw [htag'] at he'
    have hgone := he'.tryNone
      (r := (r.failedPast a (s.reservationLost c r j a).calls[c].tagCounter [t] pre).refusedAt t [] tag) rfl hmoving rfl
    have hentry : ((s.reservationLost c r j a).failedCall c r a [t] pre).refusedAt t [] tag =
        { ((s.reservationLost c r j a).bumpBase t .discards).calls[c] with
          tagCounter := tagAfter (pre.length + 1) ((s.reservationLost c r j a).bumpBase t .discards).calls[c].tagCounter
          handover := some
            ((r.failedPast a (s.reservationLost c r j a).calls[c].tagCounter [t] pre).refusedAt t [] tag) } := by
      rw [htag, State.failedCall, State.bumpBase_calls, hcalls]
      rfl
    obtain ⟨hkind, hslot⟩ := failedPast_order r a (s.reservationLost c r j a).calls[c].tagCounter [t] pre
    rw [hentry] at hgone
    rw [hu]
    exact hgone.over (congrArg (·.bumpBase t .discards) (reservationLost_dropBatch s c r j a)) ⟨hkind, hslot, rfl, rfl⟩

/-! ### The timers of a call (R103, R104, R117, R122) -/

theorem isDue_now (s : State) : s.isDue (some s.now) = true := beq_self_eq_true (some s.regs.frame)

/-- A candidate that fails with none left to try: its channel is FREE, an abort of it is counted, and the attempt has
ended with its reason (R113). -/
theorem candidateFail_last (hr : s.calls[c].handover = some r) (hj : r.channel = some j)
    (hm : s.calls[c].state = .moving) (hc : s.chan r.target j = .reserved c r.tag) (hl : r.tryList = [])
    (a : AbortReason) :
    (s.candidateFail c a).calls[c].handover = none ∧ (s.candidateFail c a).calls[c].state = .connected ∧
      (s.candidateFail c a).calls[c].lastAbort = some a ∧ (s.candidateFail c a).chan r.target j = .free ∧
      (s.candidateFail c a).baseCount r.target .aborts = satSucc (s.baseCount r.target .aborts) := by
  obtain ⟨hover, -⟩ := candidateFail_failsOver hr hj hm hc a _ rfl
  obtain ⟨hentry, -, -, hframe⟩ := hover (by rw [hl]; nofun)
  rw [if_pos hl] at hentry
  refine ⟨by rw [hentry], by rw [hentry], by rw [hentry], ?_, ?_⟩
  · refine (congrArg (fun v : State => v.chan r.target j) hframe :).trans ?_
    rw [State.reservationLost]
    exact (setChan_get _ _ _ _ _ _).trans (if_pos ⟨rfl, rfl⟩)
  · refine (congrArg (fun v : State => v.baseCount r.target .aborts) hframe :).trans ?_
    rw [State.reservationLost]
    refine (baseCount_bumpBase _ _ _ _ _).trans ((if_pos ⟨rfl, rfl⟩).trans (congrArg satSucc ?_))
    split
    · rfl
    · exact send_baseCount s (by decide) _ _ _

/-- Settles O32: each timer by its due check, and a failed candidate by what follows it. -/
theorem callTimersExpire : Obligations.CallTimersExpire := by
  refine ⟨fun c s hs => ⟨fun h => ?_, fun h => ?_⟩,
    fun c r s hs hr => ⟨fun hw h => ⟨?_, fun j hj hm hc => candidateFail_failsOver hr hj hm hc _,
      fun j hl hj hm hc => candidateFail_last hr hj hm hc hl _⟩, fun hw h => ?_⟩⟩
  · rw [exec_settleTimerExpiry, whileServing_of hs, State.takeSettleTimer, h, isDue_now]
    rfl
  · rw [exec_holdTimerExpiry, whileServing_of hs, State.takeHoldTimer, h, isDue_now]
    rfl
  · rw [exec_reserveTimerExpiry, whileServing_of hs, State.takeReserveTimer, hr]
    dsimp only
    rw [if_pos ⟨hw, by rw [h]; exact isDue_now s⟩]
  · rw [exec_arrivalTimerExpiry, whileServing_of hs, State.takeArrivalTimer, hr]
    dsimp only
    rw [if_pos ⟨hw, by rw [h]; exact isDue_now s⟩]
    rfl

end Sys2Proof.Machine
end

section
/-! SUPPORT. The trigger of a hand-off and the drain move: when a handover starts, with which try list, and what its
start reads (R105 to R107, R112, R133, R134): O31. -/

namespace Sys2Proof.Machine

open Sys2Proof

variable {s n u : State} {c : CallNo} {b : BaseNo} {z : ZoneParams} {k : HandoverKind} {l : List BaseNo}

/-! ### The order of a DECISION try list (R106) -/

/-- Scores and base numbers in the order of a try list (R106). -/
def scoredBefore (x y : Int × BaseNo) : Prop := y.1 < x.1 ∨ (x.1 = y.1 ∧ x.2 ≤ y.2)

theorem insertScored_perm (x : Int × BaseNo) (l : List (Int × BaseNo)) : (insertScored x l).Perm (x :: l) := by
  induction l with
  | nil => exact .refl _
  | cons y r ih =>
    unfold insertScored
    split
    · exact .refl _
    · exact (ih.cons y).trans (.swap x y r)

theorem rankScored_perm (l : List (Int × BaseNo)) : (rankScored l).Perm l := by
  induction l with
  | nil => exact .refl _
  | cons x r ih => exact (insertScored_perm x _).trans (ih.cons x)

theorem scoredBefore_trans {x y w : Int × BaseNo} (h : scoredBefore x y) (h' : scoredBefore y w) :
    scoredBefore x w := by
  rcases h with h | ⟨h, hb⟩ <;> rcases h' with h' | ⟨h', hb'⟩
  · exact .inl (h'.trans h)
  · exact .inl (h' ▸ h)
  · exact .inl (h ▸ h')
  · exact .inr ⟨h.trans h', hb.trans hb'⟩

theorem insertScored_sorted {x : Int × BaseNo} {l : List (Int × BaseNo)} (h : l.Pairwise scoredBefore) :
    (insertScored x l).Pairwise scoredBefore := by
  induction l with
  | nil => exact List.pairwise_singleton _ x
  | cons y r ih =>
    obtain ⟨hy, hr⟩ := List.pairwise_cons.mp h
    unfold insertScored
    split
    · next hx =>
      have hxy : scoredBefore x y := hx.imp_right fun ⟨he, hb⟩ => ⟨he, le_of_lt hb⟩
      refine List.pairwise_cons.mpr ⟨fun w hw => ?_, h⟩
      rcases List.mem_cons.mp hw with rfl | hw
      · exact hxy
      · exact scoredBefore_trans hxy (hy w hw)
    · next hx =>
      obtain ⟨hlt, htie⟩ := not_or.mp hx
      have hyx : scoredBefore y x := by
        rcases lt_or_eq_of_le (not_lt.mp hlt) with h | h
        · exact .inl h
        · exact .inr ⟨h.symm, not_lt.mp fun hb => htie ⟨h, hb⟩⟩
      refine List.pairwise_cons.mpr ⟨fun w hw => ?_, ih hr⟩
      rcases List.mem_cons.mp ((insertScored_perm x r).mem_iff.mp hw) with rfl | hw
      · exact hyx
      · exact hy w hw

theorem rankScored_sorted (l : List (Int × BaseNo)) : (rankScored l).Pairwise scoredBefore := by
  induction l with
  | nil => exact .nil
  | cons x r ih => exact insertScored_sorted ih

/-- The entries of a list in the order of their scores, which their scored bases have been put in (R106). -/
theorem exists_ranked (f : Neighbour → Int) (l : List Neighbour) :
    ∃ ranked : List Neighbour, ranked.Perm l ∧
      (ranked.Pairwise fun x y => f y < f x ∨ (f x = f y ∧ x.base ≤ y.base)) ∧
      (rankScored (l.map fun x => (f x, x.base))).map Prod.snd = ranked.map (·.base) := by
  obtain ⟨ranked, heq, hranked⟩ := (congrFun₂ (List.eq_map_comp_perm _) _ _).mpr
    (rankScored_perm (l.map fun x => (f x, x.base)))
  refine ⟨ranked, hranked, ?_, ?_⟩
  · have hsorted := rankScored_sorted (l.map fun x => (f x, x.base))
    rw [heq] at hsorted
    exact List.pairwise_map.mp hsorted
  · rw [heq, List.map_map]
    rfl

/-! ### The trigger (R96, R105, R107, R134) -/

theorem triggerStep_of_serving (h : s.service s.calls[c].base = .serving) :
    s.triggerStep c z = s.decisionTrigger c z := by
  rw [State.triggerStep, h]

theorem triggerStep_of_draining (h : s.service s.calls[c].base = .draining) :
    s.triggerStep c z = s.offerDrainMove c := by
  rw [State.triggerStep, h]

/-- A call that moves, or whose settle or hold timer runs, starts no DECISION (R105). -/
theorem decisionTrigger_of_busy
    (h : s.calls[c].state = .moving ∨ s.calls[c].settle ≠ none ∨ s.calls[c].hold ≠ none) :
    s.decisionTrigger c z = s := by
  rw [State.decisionTrigger]
  refine if_neg fun ⟨hc, hs, hh⟩ => ?_
  rcases h with h | h | h
  · rw [hc] at h
    cases h
  · exact h hs
  · exact h hh

/-- A CONNECTED call with both timers stopped starts a DECISION where its try list is not empty (R105). -/
theorem decisionTrigger_of_ready (hc : s.calls[c].state = .connected) (hs : s.calls[c].settle = none)
    (hh : s.calls[c].hold = none) :
    s.decisionTrigger c z =
      if s.decisionTries c z = [] then s else s.startHandover c .decision (s.decisionTries c z) none := by
  rw [State.decisionTrigger, if_pos ⟨hc, hs, hh⟩]
  cases s.decisionTries c z <;> rfl

theorem offerDrainMove_of_moving (h : s.calls[c].state = .moving) : s.offerDrainMove c = s := by
  rw [State.offerDrainMove, h]
  rfl

/-- A CONNECTED call starts a drain move where its try list is not empty, and the drain counts it (R134). -/
theorem offerDrainMove_of_connected {d : DrainRecord} (hc : s.calls[c].state = .connected)
    (hb : s.calls[c].base = b) (hd : s.drains[b] = some d) :
    s.offerDrainMove c =
      if s.drainTries c = [] then s
      else (s.setDrain b (some { d with attempts := satSucc d.attempts })).startHandover c .drain
        (s.drainTries c) none := by
  subst hb
  rw [State.offerDrainMove, if_pos hc, hd]
  cases s.drainTries c <;> rfl

/-! ### What the start of a handover reads (R112) -/

/-- The state `n` shows the start of a handover of call `c` what `s` shows it: but for the marks, the counters, the
drains and the Order Unit the two differ in the rest of the call's entry and in the serving base's link alone. -/
structure MoveReads (s n : State) (c : CallNo) : Prop where
  regs   : n.regs = s.regs
  plan   : n.plan = s.plan
  chans  : n.chans = s.chans
  roster : n.roster = s.roster
  wire   : n.wire = s.wire
  link   : ∀ x : BaseNo, n.links[x].zone = s.links[x].zone ∧ n.links[x].effCount = s.links[x].effCount
  other  : ∀ x : BaseNo, x ≠ s.calls[c].base →
    n.service x = s.service x ∧ n.links[x].queue = s.links[x].queue
  call   : n.calls[c].base = s.calls[c].base ∧ n.calls[c].handset = s.calls[c].handset ∧
    n.calls[c].tagCounter = s.calls[c].tagCounter

namespace MoveReads

theorem freeChannels (h : MoveReads s n c) (x : BaseNo) : n.freeChannels x = s.freeChannels x :=
  freeChannels_congr (h.link x).2 h.chans

theorem holdsReserved (h : MoveReads s n c) : n.holdsReserved c = s.holdsReserved c := by
  rw [State.holdsReserved, State.holdsReserved, h.chans]

theorem appendTaken (h : MoveReads s n c) {x : BaseNo} (hx : x ≠ s.calls[c].base) :
    n.appendTaken x = s.appendTaken x := by
  obtain ⟨hs, hq⟩ := h.other x hx
  rw [State.service, State.service] at hs
  rw [State.appendTaken, State.appendTaken, hs, hq]

theorem reserveLimit (h : MoveReads s n c) (x : BaseNo) :
    n.after (n.zoneAt x).reserveLimit = s.after (s.zoneAt x).reserveLimit := by
  rw [zoneAt_congr (h.link x).1 h.plan, State.after, State.after, h.regs]

/-- Another link's drain record does not bear on it. -/
theorem setDrain (h : MoveReads s n c) (x : BaseNo) (d : Option DrainRecord) : MoveReads s (n.setDrain x d) c :=
  ⟨h.regs, h.plan, h.chans, h.roster, h.wire, h.link, h.other, h.call⟩

/-- The first candidate of a handover that starts is reserved (R112). -/
theorem reserves (h : MoveReads s n c) (hc : n.calls[c].state = .connected) {t : BaseNo} {rest : List BaseNo}
    {j : ChanNo} (hb : t ≠ s.calls[c].base) (hs : s.service t = .serving) (hh : s.holdsReserved c = false)
    (hj : (s.freeChannels t).head? = some j) (ha : s.appendTaken t = true) :
    EntryOf (n.reserveSent c s.calls[c].handset t j (nextTag s.calls[c].tagCounter)) c
      (n.reservedCall (n.calls[c].starting k (t :: rest) none) t rest j (nextTag s.calls[c].tagCounter))
      (n.startHandover c k (t :: rest) none) := by
  obtain ⟨hbase, hhandset, htag⟩ := h.call
  obtain ⟨v, hv, he⟩ := startHandover_tries (s := n) (c := c) (by rw [hc]; rfl) k (t :: rest) none
  have hoff : n.offeredTo c (n.calls[c].starting k (t :: rest) none) t = some j :=
    (offeredTo_of_free (e := n.calls[c].starting k (t :: rest) none) ((h.other t hb).1.trans hs)
      (hbase.symm ▸ hb) rfl (h.holdsReserved.trans hh)).trans ((congrArg _ (h.freeChannels t)).trans hj)
  have hu := he.tryReserved hoff ((h.appendTaken hb).trans ha) rest
  have he1 : (n.calls[c].starting k (t :: rest) none).handset = s.calls[c].handset := hhandset
  have he2 : (n.calls[c].starting k (t :: rest) none).tagCounter = s.calls[c].tagCounter := htag
  rw [he1, he2] at hu
  rw [hv]
  exact hu

end MoveReads

/-- A RESERVE is transmitted at once from an empty queue (R14). -/
theorem reserveSent_wire {t : BaseNo} {j : ChanNo} {g : AttemptTag} (h : HandsetNo) (ha : s.appendTaken t = true) :
    (s.reserveSent c h t j g).wire =
      s.wire ++ if s.links[t].queue.isEmpty then [⟨t, .reserve j c s.roster[h].identity g⟩] else [] := by
  have hw : (s.reserveSent c h t j g).wire = (s.send t (.reserve j c s.roster[h].identity g)).wire :=
    (congrArg State.wire (reserveSent_frame s c h t j g) :)
  rw [hw, send_of_taken ha, enqueue_wire fun _ => rfl]

/-- What the start of a handover does, said of the state that it reads (R106, R112). -/
theorem startHandover_startsMove (h : MoveReads s n c) (hc : n.calls[c].state = .connected) (k : HandoverKind)
    (l : List BaseNo) : s.startsMove (n.startHandover c k l none) c k l := by
  obtain ⟨hbase, hhandset, htag⟩ := h.call
  refine ⟨fun t rest j hl hb hs hh hj ha => ?_, fun hne hf => ?_⟩
  · subst hl
    have hu := h.reserves (k := k) (rest := rest) hc hb hs hh hj ha
    have hwire := reserveSent_wire (s := s) (c := c) (j := j) (g := nextTag s.calls[c].tagCounter) s.calls[c].handset ha
    have hsent : (s.reserveSent c s.calls[c].handset t j (nextTag s.calls[c].tagCounter)).wire =
        (s.send t (.reserve j c s.roster[s.calls[c].handset].identity (nextTag s.calls[c].tagCounter))).wire :=
      (congrArg State.wire (reserveSent_frame s c s.calls[c].handset t j (nextTag s.calls[c].tagCounter)) :)
    refine ⟨?_, ?_, ?_, ?_, ?_⟩
    · rw [hu.entry]
      rfl
    · rw [hu.entry]
      rfl
    · rw [hu.entry, State.reservedCall, h.reserveLimit]
      rfl
    · rw [hu.chans, reserveSent_chans, State.setChan_chans, h.chans]
      rfl
    · rw [← hsent, hwire, (congrArg State.wire hu.frame :), reserveSent_wire _ ((h.appendTaken hb).trans ha), h.wire,
        h.roster, (h.other t hb).2]
  · cases l with
    | nil => exact absurd rfl hne
    | cons x l =>
      obtain ⟨v, hv, he⟩ := startHandover_tries (s := n) (c := c) (by rw [hc]; rfl) k (x :: l) none
      obtain ⟨w, hw, he'⟩ := he.passOver (x := x) (l := l) (fun t ht => offeredTo_of_refused
        (.inr (.inr ((h.freeChannels t).trans (hf t ht)))) rfl) []
      obtain ⟨hentry, -, -, hframe⟩ := he'.tryNone rfl rfl rfl
      rw [List.append_nil] at hw
      rw [hv, hw, hentry]
      exact ⟨rfl, rfl, rfl, (congrArg State.chans hframe :).trans h.chans, (congrArg State.wire hframe :).trans h.wire⟩

/-- No candidate, no start. -/
theorem startsMove_nil (s u : State) (c : CallNo) (k : HandoverKind) : s.startsMove u c k [] :=
  ⟨fun _ _ _ h => (nomatch h), fun h => absurd rfl h⟩

/-- A start is seen in the calls, the channel map and the transmissions. -/
theorem startsMove_of_same {v : State} (h : s.startsMove u c k l) (hc : v.calls = u.calls) (hk : v.chans = u.chans)
    (hw : v.wire = u.wire) : s.startsMove v c k l := by
  unfold State.startsMove
  rw [hc, hk, hw]
  exact h

end Sys2Proof.Machine
end

section
/-! SUPPORT. The trigger of a LEVEL REPORT and the drain move of a DRAIN BASE (R105 to R107, R133, R134): O31. -/

namespace Sys2Proof.Machine

open Sys2Proof

variable {s n u : State} {c : CallNo} {b : BaseNo} {z : ZoneParams} {k : HandoverKind} {l : List BaseNo}

/-! ### What a try list reads (R100, R106, R107) -/

theorem MoveReads.score (h : MoveReads s n c) : n.score z = s.score z := by
  funext x
  rw [State.score, State.score, State.occupancy, State.occupancy, h.chans, (h.link x.base).2]

theorem MoveReads.allowedTarget (h : MoveReads s n c) {x : BaseNo} (hs : n.service x = s.service x) :
    n.allowedTarget c x = s.allowedTarget c x := by
  simp only [State.allowedTarget, hs, h.roster, h.link x, h.call]

/-- The DECISION try list of a call holds the bases of its entries that have the required lead, by their scores
(R106). -/
theorem MoveReads.exists_decisionTries (h : MoveReads s n c) (z : ZoneParams) :
    ∃ ranked : List Neighbour,
      ranked.Perm (n.calls[c].neighbours.filter fun x => decide (requiredLead z n.calls[c].watch ≤ x.lead)) ∧
      (ranked.Pairwise fun x y => s.score z y < s.score z x ∨ (s.score z x = s.score z y ∧ x.base ≤ y.base)) ∧
      n.decisionTries c z = (ranked.map (·.base)).take 3 := by
  obtain ⟨ranked, hperm, hsorted, hmap⟩ := exists_ranked (s.score z)
    (n.calls[c].neighbours.filter fun x => decide (requiredLead z n.calls[c].watch ≤ x.lead))
  refine ⟨ranked, hperm, hsorted, ?_⟩
  rw [← hmap, State.decisionTries, h.score]
  rfl

/-- The DRAIN try list holds the bases of the set that may be targets, in its order (R107). -/
theorem drainTries_eq (s : State) (c : CallNo) :
    s.drainTries c = ((s.calls[c].neighbours.map (·.base)).filter (s.allowedTarget c)).take 3 := rfl

/-- Whether the start is made depends on the try list alone. -/
theorem startsMove_of_tries {v : State} (h : MoveReads s v c) (hc : v.calls[c].state = .connected)
    (k : HandoverKind) (l : List BaseNo) :
    s.startsMove (if l = [] then n else v.startHandover c k l none) c k l := by
  split
  · next hl =>
    rw [hl]
    exact startsMove_nil s n c k
  · exact startHandover_startsMove h hc k l

/-! ### The report (R88) -/

theorem heard_frame (s : State) (h : HandsetNo) : { s.heard h with roster := s.roster, acu := s.acu } = s := by
  unfold State.heard
  split <;> rfl

section
variable (s : State) (h : HandsetNo)

theorem heard_calls : (s.heard h).calls = s.calls := (congrArg State.calls (heard_frame s h) :)
theorem heard_chans : (s.heard h).chans = s.chans := (congrArg State.chans (heard_frame s h) :)
theorem heard_wire : (s.heard h).wire = s.wire := (congrArg State.wire (heard_frame s h) :)
theorem heard_drains : (s.heard h).drains = s.drains := (congrArg State.drains (heard_frame s h) :)

end

/-- A restarted silence timer leaves the queues alone (R7). -/
theorem restartSilence_queue (s : State) (b x : BaseNo) : (s.restartSilence b).links[x].queue = s.links[x].queue := by
  unfold State.restartSilence
  split
  · rw [updLink_get]
    split
    · next e => subst e; rfl
    · rfl
  · rfl

section
variable (s : State) (c : CallNo) (b : BaseNo) (level : LevelCode) (errors : Nat)
  (pairs : List (ReportedBase × LevelCode))

/-- The state that the trigger of a report finds: the silence timer restarted and the report written (R7, R88). -/
def State.reported : State :=
  (s.restartSilence b).noteReport c b level errors pairs ((s.restartSilence b).reportedCall c b level errors pairs)

theorem reported_frame :
    { s.reported c b level errors pairs with
      links := s.links, calls := s.calls, acu := s.acu, counters := s.counters } = s :=
  (congrArg (fun v : State => { v with
    links := s.links, calls := s.calls, acu := s.acu, counters := s.counters })
    (noteReport_frame (s := s.restartSilence b) (c := c) (b := b) (level := level) (errors := errors) (pairs := pairs)
      ((s.restartSilence b).reportedCall c b level errors pairs))).trans
    (congrArg (fun v : State => { v with
      links := s.links, calls := s.calls, acu := s.acu, counters := s.counters }) (restartSilence_frame s b))

theorem reported_links : (s.reported c b level errors pairs).links = (s.restartSilence b).links :=
  (congrArg State.links (noteReport_frame (s := s.restartSilence b) (c := c) (b := b) (level := level)
    (errors := errors) (pairs := pairs) ((s.restartSilence b).reportedCall c b level errors pairs)) :)

theorem reported_service (x : BaseNo) : (s.reported c b level errors pairs).service x = s.service x := by
  rw [State.service, reported_links]
  exact restartSilence_service s b x

theorem reported_chans : (s.reported c b level errors pairs).chans = s.chans :=
  (congrArg State.chans (reported_frame s c b level errors pairs) :)
theorem reported_wire : (s.reported c b level errors pairs).wire = s.wire :=
  (congrArg State.wire (reported_frame s c b level errors pairs) :)
theorem reported_drains : (s.reported c b level errors pairs).drains = s.drains :=
  (congrArg State.drains (reported_frame s c b level errors pairs) :)
theorem reported_roster : (s.reported c b level errors pairs).roster = s.roster :=
  (congrArg State.roster (reported_frame s c b level errors pairs) :)

/-- A report writes the entry of its call. -/
theorem reported_self : (s.reported c b level errors pairs).calls[c] =
    s.reportedCall c b level errors pairs s.calls[c] := by
  rw [State.reported, noteReport_self, restartSilence_reportedCall, restartSilence_calls]

/-- The trigger of a report reads the state before it, but for what the report has written. -/
theorem reported_reads : MoveReads s (s.reported c b level errors pairs) c := by
  have hlinks := reported_links s c b level errors pairs
  refine ⟨(congrArg State.regs (reported_frame s c b level errors pairs) :),
    (congrArg State.plan (reported_frame s c b level errors pairs) :), reported_chans s c b level errors pairs,
    reported_roster s c b level errors pairs, reported_wire s c b level errors pairs, fun x => ?_, fun x _ => ?_, ?_⟩
  · rw [hlinks]
    exact ⟨restartSilence_linkZone s b x, restartSilence_effCount s b x⟩
  · rw [hlinks]
    exact ⟨reported_service s c b level errors pairs x, restartSilence_queue s b x⟩
  · rw [reported_self]
    exact ⟨rfl, rfl, rfl⟩

/-- The bases that may be targets do not depend on the report. -/
theorem reported_allowedTarget : (s.reported c b level errors pairs).allowedTarget c = s.allowedTarget c :=
  funext fun x => (reported_reads s c b level errors pairs).allowedTarget (reported_service s c b level errors pairs x)

/-- The state after a report (R88): the trigger acts on what has been written, and the handset is heard. -/
def State.afterReport : State :=
  ((s.reported c b level errors pairs).triggerStep c (s.zoneAt b)).heard s.calls[c].handset

/-- A trigger changes neither the neighbours nor the watch. -/
theorem afterReport_measures :
    (s.afterReport c b level errors pairs).calls[c].neighbours =
        (s.reported c b level errors pairs).calls[c].neighbours ∧
      (s.afterReport c b level errors pairs).calls[c].watch =
        (s.reported c b level errors pairs).calls[c].watch := by
  have hm := ((AttemptWork.refl c (s.reported c b level errors pairs)).triggerStep (z := s.zoneAt b)).measures
  rw [State.afterReport, heard_calls]
  exact ⟨congrArg (·.2.1) hm, congrArg (·.2.2.1) hm⟩

end

section
variable {i : ChanNo} {level : LevelCode} {errors : Fin 16} {pairs : List (ReportedBase × LevelCode)}

/-- A LEVEL REPORT on a channel of a call that its base serves (R81, R88). -/
theorem exec_levelReport_of_call (hs : s.serves = true) (ha : linkActive (s.service b) = true)
    (hp : pairs.length ≤ 4) (hi : i.val < s.links[b].effCount) (hc : s.chan b i = .held c ∨ s.chan b i = .leaving c)
    (hb : s.calls[c].base = b) :
    exec (.levelReport b i level errors pairs) s = .next (s.afterReport c b level errors.val pairs).settle := by
  rw [exec_levelReport_short hp, messageFrom_active hs ha, takeLevelReport_of_call (c := c)
    (by rw [restartSilence_effCount]; exact hi) (by simpa only [restartSilence_chan] using hc),
    takeReport_eq (by rw [restartSilence_calls]; exact hb), restartSilence_zoneAt, restartSilence_calls]
  rfl

/-- Any other LEVEL REPORT of a base is counted, stale or malformed, and its silence timer may be restarted (R6, R7,
R81). -/
theorem exec_levelReport_uncalled (hs : s.serves = true) (ha : linkActive (s.service b) = true)
    (h : 4 < pairs.length ∨ s.links[b].effCount ≤ i.val) :
    ∃ u : State, exec (.levelReport b i level errors pairs) s = .next u.settle ∧
      { u with links := s.links, counters := s.counters } = s := by
  by_cases hp : 4 < pairs.length
  · refine ⟨s.bump .malformed, ?_, rfl⟩
    rw [exec_levelReport_long hp, whileServing_of hs]
  · refine ⟨(s.restartSilence b).bump .stale, ?_, ?_⟩
    · rw [exec_levelReport_short (Nat.not_lt.mp hp), messageFrom_active hs ha, takeLevelReport_of_stale]
      rw [restartSilence_effCount]
      exact .inr (.inr (.inr (h.resolve_left hp)))
    · exact congrArg (fun v : State => { v with counters := s.counters }) (restartSilence_frame s b)

/-- What the end of an event leaves of these tables while the part serves (R147). -/
theorem settle_tables (hs : s.serves = true) (hu : u.still = s.still) :
    u.settle.calls = u.calls ∧ u.settle.chans = u.chans ∧ u.settle.wire = u.wire := by
  have hh : u.regs.halting = false := by
    rw [(still_fields hu).1]
    exact halting_of_serves hs
  obtain ⟨-, -, -, -, -, -, -, hk, hc, -, -, -, hw, -⟩ := body_fields (settle_body hh)
  exact ⟨hc, hk, hw⟩

end

/-! ### A report and the trigger (R105, R107, R134) -/

section
variable {i : ChanNo} {level : LevelCode} {errors : Fin 16} {pairs : List (ReportedBase × LevelCode)}

/-- A report whose trigger does nothing leaves the handover of its call, the channel map, the transmissions and the
drains as they were. -/
theorem afterReport_of_idle
    (h : (s.reported c b level errors.val pairs).triggerStep c (s.zoneAt b) = s.reported c b level errors.val pairs) :
    (s.afterReport c b level errors.val pairs).calls[c].handover = s.calls[c].handover ∧
      (s.afterReport c b level errors.val pairs).calls[c].state = s.calls[c].state ∧
      (s.afterReport c b level errors.val pairs).chans = s.chans ∧
      (s.afterReport c b level errors.val pairs).wire = s.wire ∧
      (s.afterReport c b level errors.val pairs).drains = s.drains := by
  rw [State.afterReport, h, heard_calls, heard_chans, heard_wire, heard_drains, reported_self, reported_chans,
    reported_wire, reported_drains]
  exact ⟨rfl, rfl, rfl, rfl, rfl⟩

theorem reported_serves (hb : s.calls[c].base = b) {v : Service} (hv : s.service b = v) :
    (s.reported c b level errors.val pairs).service (s.reported c b level errors.val pairs).calls[c].base = v := by
  have hbase : (s.reported c b level errors.val pairs).calls[c].base = b :=
    (reported_reads s c b level errors.val pairs).call.1.trans hb
  rw [hbase, reported_service, hv]

/-- No DECISION starts while the call moves or a timer of it runs (R105). -/
theorem report_of_busy {t : State} (hs : s.serves = true) (hv : s.service b = .serving)
    (hc : s.chan b i = .held c ∨ s.chan b i = .leaving c) (hb : s.calls[c].base = b)
    (hbusy : s.calls[c].state = .moving ∨ s.calls[c].settle ≠ none ∨ s.calls[c].hold ≠ none)
    (e : exec (.levelReport b i level errors pairs) s = .next t) :
    t.calls[c].handover = s.calls[c].handover ∧ t.calls[c].state = s.calls[c].state ∧ t.chans = s.chans ∧
      t.wire = s.wire := by
  have ha : linkActive (s.service b) = true := by rw [hv]; rfl
  by_cases h : 4 < pairs.length ∨ s.links[b].effCount ≤ i.val
  · obtain ⟨u, hu, hf⟩ := exec_levelReport_uncalled (errors := errors) (level := level) hs ha h
    obtain ⟨hcalls, hchans, hwire⟩ := settle_tables (u := u) hs (congrArg State.still hf :)
    cases hu.symm.trans e
    have hsame : u.calls = s.calls := (congrArg State.calls hf :)
    rw [hcalls, hchans, hwire, hsame]
    exact ⟨rfl, rfl, (congrArg State.chans hf :), (congrArg State.wire hf :)⟩
  · obtain ⟨hp, hi⟩ := not_or.mp h
    have hidle : (s.reported c b level errors.val pairs).triggerStep c (s.zoneAt b) =
        s.reported c b level errors.val pairs := by
      rw [triggerStep_of_serving (reported_serves hb hv), decisionTrigger_of_busy]
      rw [reported_self]
      exact hbusy
    obtain ⟨hhand, hstate, hchan, hwir, -⟩ := afterReport_of_idle hidle
    have hstill : (s.afterReport c b level errors.val pairs).still = s.still := by
      rw [State.afterReport, hidle, State.heard_still]
      exact (congrArg State.still (reported_frame s c b level errors.val pairs) :)
    obtain ⟨hcalls, hchans, hwire⟩ := settle_tables hs hstill
    cases (exec_levelReport_of_call hs ha (Nat.not_lt.mp hp) (Nat.not_le.mp hi) hc hb).symm.trans e
    rw [hcalls, hchans, hwire]
    exact ⟨hhand, hstate, hchan, hwir⟩

/-- The trigger of a CONNECTED call with both timers stopped (R105, R106). -/
theorem afterReport_of_ready (hb : s.calls[c].base = b) (hv : s.service b = .serving)
    (hc : s.calls[c].state = .connected) (hset : s.calls[c].settle = none) (hhold : s.calls[c].hold = none) :
    ∃ ranked : List Neighbour,
      ranked.Perm ((s.afterReport c b level errors.val pairs).calls[c].neighbours.filter fun x =>
        decide (requiredLead (s.zoneAt b) (s.afterReport c b level errors.val pairs).calls[c].watch ≤ x.lead)) ∧
      (ranked.Pairwise fun x y => s.score (s.zoneAt b) y < s.score (s.zoneAt b) x ∨
        (s.score (s.zoneAt b) x = s.score (s.zoneAt b) y ∧ x.base ≤ y.base)) ∧
      (ranked = [] → (s.reported c b level errors.val pairs).triggerStep c (s.zoneAt b) =
        s.reported c b level errors.val pairs) ∧
      s.startsMove (s.afterReport c b level errors.val pairs) c .decision ((ranked.map (·.base)).take 3) := by
  have hreads := reported_reads s c b level errors.val pairs
  obtain ⟨hneighbours, hwatch⟩ := afterReport_measures s c b level errors.val pairs
  obtain ⟨ranked, hperm, hsorted, htries⟩ := hreads.exists_decisionTries (s.zoneAt b)
  have hself := reported_self s c b level errors.val pairs
  have hstep : (s.reported c b level errors.val pairs).triggerStep c (s.zoneAt b) =
      if (ranked.map (·.base)).take 3 = [] then s.reported c b level errors.val pairs
      else (s.reported c b level errors.val pairs).startHandover c .decision ((ranked.map (·.base)).take 3) none := by
    rw [triggerStep_of_serving (reported_serves hb hv), decisionTrigger_of_ready (by rw [hself]; exact hc)
      (by rw [hself]; exact hset) (by rw [hself]; exact hhold), htries]
  refine ⟨ranked, by rw [hneighbours, hwatch]; exact hperm, hsorted, fun hnil => ?_, ?_⟩
  · rw [hstep, hnil]
    rfl
  · refine startsMove_of_same (u := (s.reported c b level errors.val pairs).triggerStep c (s.zoneAt b)) ?_
      (heard_calls _ _) (heard_chans _ _) (heard_wire _ _)
    rw [hstep]
    exact startsMove_of_tries hreads (by rw [hself]; exact hc) _ _

/-- The drain move that a report offers to a CONNECTED call (R107, R134). -/
theorem afterReport_of_draining {d : DrainRecord} (hb : s.calls[c].base = b) (hv : s.service b = .draining)
    (hc : s.calls[c].state = .connected) (hd : s.drains[b] = some d) :
    ∃ tries : List BaseNo,
      tries = (((s.afterReport c b level errors.val pairs).calls[c].neighbours.map (·.base)).filter
        (s.allowedTarget c)).take 3 ∧
      (tries = [] → (s.reported c b level errors.val pairs).triggerStep c (s.zoneAt b) =
        s.reported c b level errors.val pairs) ∧
      (tries ≠ [] → (s.afterReport c b level errors.val pairs).drains =
        s.drains.set b (some { d with attempts := satSucc d.attempts })) ∧
      s.startsMove (s.afterReport c b level errors.val pairs) c .drain tries := by
  have hreads := reported_reads s c b level errors.val pairs
  obtain ⟨hneighbours, -⟩ := afterReport_measures s c b level errors.val pairs
  have hself := reported_self s c b level errors.val pairs
  have hdrains := reported_drains s c b level errors.val pairs
  have hstep := (triggerStep_of_draining (z := s.zoneAt b) (reported_serves (level := level) (errors := errors)
    (pairs := pairs) hb hv)).trans (offerDrainMove_of_connected (d := d) (by rw [hself]; exact hc)
      (hreads.call.1.trans hb) (by rw [hdrains]; exact hd))
  refine ⟨(s.reported c b level errors.val pairs).drainTries c, ?_, fun hnil => ?_, fun hne => ?_, ?_⟩
  · rw [drainTries_eq, reported_allowedTarget, hneighbours]
  · rw [hstep, if_pos hnil]
  · rw [State.afterReport, heard_drains, hstep, if_neg hne, (KeepsService.refl _).startHandover.drains,
      State.setDrain_drains, hdrains]
  · refine startsMove_of_same (u := (s.reported c b level errors.val pairs).triggerStep c (s.zoneAt b)) ?_
      (heard_calls _ _) (heard_chans _ _) (heard_wire _ _)
    rw [hstep]
    exact startsMove_of_tries (hreads.setDrain b _) (by rw [State.setDrain_calls, hself]; exact hc) _ _

end

/-! ### A DRAIN BASE (R133) -/

theorem handoversWhere_eq_nil {p : Handover → Bool} (h : ∀ (d : CallNo) (r : Handover),
    s.calls[d].handover = some r → p r = false) : s.handoversWhere p = [] := by
  refine List.eq_nil_iff_forall_not_mem.mpr fun d hd => ?_
  rw [State.handoversWhere, mem_indicesWhere] at hd
  cases hr : s.calls[d].handover with
  | none =>
    rw [hr] at hd
    cases hd
  | some r =>
    rw [hr] at hd
    have hp : p r = true := hd
    rw [h d r hr] at hp
    cases hp

theorem mem_servedBy : c ∈ s.servedBy b ↔ callLive s.calls[c].state = true ∧ s.calls[c].base = b := by
  rw [State.servedBy, mem_indicesWhere, Bool.and_eq_true, beq_iff_eq]

/-- A drain goes on while its base serves a call (R135). -/
theorem drainCheck_of_serving (h : callLive s.calls[c].state = true) (hb : s.calls[c].base = b) :
    s.drainCheck b = s := by
  unfold State.drainCheck
  split
  · refine if_neg fun he => ?_
    have hm := mem_servedBy.mpr ⟨h, hb⟩
    rw [List.isEmpty_iff.mp he] at hm
    cases hm
  · rfl

/-- The state in which a drain that starts offers its moves: the record is there, and the link DRAINING (R133). -/
def State.drainBegun (s : State) (slot : SlotNo) (b : BaseNo) (limit : Nat) : State :=
  (s.setDrain b (some (s.newDrain slot limit))).changeService b .draining

theorem drainBegun_link (s : State) (slot : SlotNo) (b : BaseNo) (limit : Nat) (x : BaseNo) :
    (s.drainBegun slot b limit).links[x] = if b = x then { s.links[b] with service := .draining } else s.links[x] :=
  updLink_get (s.setDrain b (some (s.newDrain slot limit))) b x fun l => { l with service := .draining }

theorem drainBegun_drain (s : State) (slot : SlotNo) (b : BaseNo) (limit : Nat) :
    (s.drainBegun slot b limit).drains[b] = some (s.newDrain slot limit) :=
  (setDrain_get s b b _).trans (if_pos rfl)

theorem drainBegun_service (s : State) (slot : SlotNo) (b : BaseNo) (limit : Nat) :
    (s.drainBegun slot b limit).service b = .draining := by
  rw [State.service, drainBegun_link, if_pos rfl]

/-- The same state, the drain move of its one call counted (R134). -/
def State.drainCounted (s : State) (slot : SlotNo) (b : BaseNo) (limit : Nat) : State :=
  (s.drainBegun slot b limit).setDrain b (some { s.newDrain slot limit with attempts := 1 })

/-- A drain move reads of the base that drains no more than its call's place there. -/
theorem drainBegun_reads (s : State) (slot : SlotNo) (limit : Nat) (hb : s.calls[c].base = b) :
    MoveReads s (s.drainBegun slot b limit) c := by
  refine ⟨rfl, rfl, rfl, rfl, rfl, fun x => ?_, fun x hx => ?_, rfl, rfl, rfl⟩
  · rw [drainBegun_link]
    split
    · next e => subst e; exact ⟨rfl, rfl⟩
    · exact ⟨rfl, rfl⟩
  · have hne : ¬b = x := fun e => hx (e.symm.trans hb.symm)
    rw [State.service, drainBegun_link, if_neg hne]
    exact ⟨rfl, rfl⟩

/-- The start of a handover does not read the Order Unit. -/
theorem MoveReads.of_undispatched (h : MoveReads s.undispatched n c) : MoveReads s n c :=
  ⟨h.regs, h.plan, h.chans, h.roster, h.wire, h.link, h.other, h.call⟩

/-- The DRAIN try list of a call when its base begins to drain: the base itself is no target of it (R107, R133). -/
theorem drainBegun_tries (s : State) (slot : SlotNo) (limit : Nat) (hb : s.calls[c].base = b) :
    (s.drainBegun slot b limit).drainTries c =
      ((s.calls[c].neighbours.map (·.base)).filter fun x => decide (x ≠ b ∧ s.service x = .serving) &&
        inMask s.roster[s.calls[c].handset].zoneMask s.links[x].zone).take 3 := by
  have hreads := drainBegun_reads s slot limit hb
  rw [drainTries_eq]
  refine congrArg (List.take 3) (List.filter_congr fun x _ => ?_)
  by_cases hx : x = b
  · subst hx
    simp [State.allowedTarget, drainBegun_service]
  · rw [hreads.allowedTarget (hreads.other x fun e => hx (e.trans hb)).1]
    simp only [State.allowedTarget, hx, ne_eq, not_false_eq_true, true_and]
    rfl

/-- A call that starts a handover goes on at its base. -/
theorem startHandover_keepsCall (h : callLive s.calls[c].state = true) (k : HandoverKind) (l : List BaseNo)
    (i : Option SlotNo) :
    callLive (s.startHandover c k l i).calls[c].state = true ∧
      (s.startHandover c k l i).calls[c].base = s.calls[c].base := by
  obtain ⟨v, hv, he⟩ := startHandover_tries h k l i
  rw [hv]
  exact he.try_keepsCall rfl rfl rfl l

/-- A drain whose base serves one call, which is CONNECTED, and that is the target of no handover: the call is offered
a drain move, and the drain goes on (R133). -/
theorem startDrain_of_single (slot : SlotNo) (limit : Nat) (hserved : s.servedBy b = [c])
    (hc : s.calls[c].state = .connected)
    (hno : ∀ (d : CallNo) (r : Handover), s.calls[d].handover = some r → r.target ≠ b) :
    s.startDrain slot b limit =
      if (s.drainBegun slot b limit).drainTries c = [] then s.drainBegun slot b limit
      else (s.drainCounted slot b limit).startHandover c .drain ((s.drainBegun slot b limit).drainTries c) none := by
  obtain ⟨-, hb⟩ := mem_servedBy.mp (hserved ▸ List.mem_singleton_self c : c ∈ s.servedBy b)
  have hnotice : (s.drainBegun slot b limit).drainStartNotice b = s.drainBegun slot b limit := by
    rw [State.drainStartNotice, handoversWhere_eq_nil, List.foldl_nil]
    intro d r hr
    rw [beq_eq_false_iff_ne.mpr (hno d r hr), Bool.false_and]
  have hoffer : (s.drainBegun slot b limit).offerDrainMoves b = (s.drainBegun slot b limit).offerDrainMove c := by
    have hsame : (s.drainBegun slot b limit).servedBy b = s.servedBy b := rfl
    rw [State.offerDrainMoves, hsame, hserved]
    rfl
  have hstart : s.startDrain slot b limit = ((s.drainBegun slot b limit).offerDrainMove c).drainCheck b := by
    rw [← hoffer, ← hnotice]
    rfl
  rw [hstart, offerDrainMove_of_connected (s := s.drainBegun slot b limit) (d := s.newDrain slot limit) hc hb
    (drainBegun_drain s slot b limit)]
  have hlive : callLive s.calls[c].state = true := by rw [hc]; rfl
  split
  · exact drainCheck_of_serving (c := c) hlive hb
  · obtain ⟨hl, hbase⟩ := startHandover_keepsCall (c := c) (s := s.drainCounted slot b limit) hlive .drain
      ((s.drainBegun slot b limit).drainTries c) none
    exact drainCheck_of_serving hl (hbase.trans hb)

/-- Settles O31: what a trigger does by the call's timers and its base's service state, and what its start reads. -/
theorem noDecisionWhileATimerRuns : Obligations.NoDecisionWhileATimerRuns := by
  refine ⟨fun b k level errors pairs c s t hs hv hk hb hbusy e => report_of_busy hs hv hk hb hbusy e,
    fun b k level errors pairs c s hs hp hi hk hb hc => ⟨fun hv hset hhold => ?_, fun hv d hd => ?_⟩,
    fun b k level errors pairs c s hs hp hv hi hk hb hm => ?_,
    fun slot b limit c s ho hv hserved hc hno => ?_⟩
  · obtain ⟨ranked, hperm, hsorted, hnil, hmove⟩ :=
      afterReport_of_ready (level := level) (errors := errors) (pairs := pairs) hb hv hc hset hhold
    refine ⟨_, ranked, exec_levelReport_of_call hs (by rw [hv]; rfl) hp hi hk hb, hperm, hsorted, fun h => ?_, hmove⟩
    obtain ⟨hhand, hstate, hchans, hwire, -⟩ := afterReport_of_idle (hnil h)
    exact ⟨hhand, hstate.trans hc, hchans, hwire⟩
  · obtain ⟨tries, htries, hnil, hdrains, hmove⟩ :=
      afterReport_of_draining (level := level) (errors := errors) (pairs := pairs) hb hv hc hd
    refine ⟨_, tries, exec_levelReport_of_call hs (by rw [hv]; rfl) hp hi hk hb, htries, fun h => ?_, hdrains, hmove⟩
    obtain ⟨hhand, hstate, hchans, hwire, hdr⟩ := afterReport_of_idle (hnil h)
    exact ⟨hdr, hhand, hstate.trans hc, hchans, hwire⟩
  · have hidle : (s.reported c b level errors.val pairs).triggerStep c (s.zoneAt b) =
        s.reported c b level errors.val pairs := by
      rw [triggerStep_of_draining (reported_serves hb hv), offerDrainMove_of_moving]
      rw [reported_self]
      exact hm
    obtain ⟨hhand, hstate, hchans, hwire, hdr⟩ := afterReport_of_idle hidle
    exact ⟨_, exec_levelReport_of_call hs (by rw [hv]; rfl) hp hi hk hb, hdr, hhand, hstate.trans hm, hchans, hwire⟩
  · obtain ⟨-, hb⟩ := mem_servedBy.mp (hserved ▸ List.mem_singleton_self c : c ∈ s.servedBy b)
    have hv' : s.undispatched.service b = .serving := hv
    have hstart := startDrain_of_single (s := s.undispatched) slot limit.toNat hserved hc hno
    have hreads := (drainBegun_reads s.undispatched slot limit.toNat hb).of_undispatched
    have hkept := (KeepsService.refl (s.undispatched.drainCounted slot b limit.toNat)).startHandover (c := c)
      (k := .drain) (l := (s.undispatched.drainBegun slot b limit.toNat).drainTries c) (i := none)
    refine ⟨s.undispatched.startDrain slot b limit.toNat, (s.undispatched.drainBegun slot b limit.toNat).drainTries c,
      ?_, drainBegun_tries s.undispatched slot limit.toNat hb, ?_, ?_, fun hnil => ?_, ?_⟩
    · rw [exec_drainBase, takeOrder_of_offers ho, State.takeDrainBase, hv']
    · rw [hstart]
      split
      · exact drainBegun_service _ _ _ _
      · exact (hkept.service b).trans (drainBegun_service _ _ _ _)
    · rw [hstart]
      split
      · exact ⟨_, drainBegun_drain _ _ _ _, rfl, rfl⟩
      · have hrecord := congrArg (fun v : Vector (Option DrainRecord) 48 => v[b]) hkept.drains
        exact ⟨_, hrecord.trans ((setDrain_get _ _ _ _).trans (if_pos rfl)), rfl, rfl⟩
    · rw [hstart, if_pos hnil]
      exact ⟨rfl, rfl, rfl⟩
    · rw [hstart]
      exact startsMove_of_tries (hreads.setDrain b _) hc _ _

end Sys2Proof.Machine
end

section
/-! SUPPORT. Answers from the target of a handover: a stale one, and a RESERVE ANSWER that matches, by its verdict and
the state of its record (R114 to R116): O34, O35. -/

namespace Sys2Proof.Machine

open Sys2Proof

variable {s : State} {b : BaseNo} {j : ChanNo} {c : CallNo} {g : AttemptTag} {r : Handover}

/-! ### Answers that match no record (R114) -/

theorem matching_eq_none
    (h : ¬∃ r, s.calls[c].handover = some r ∧ r.target = b ∧ r.channel = some j ∧ r.tag = g) :
    s.matching b j c g = none := by
  cases hm : s.matching b j c g with
  | none => rfl
  | some r => exact absurd ⟨r, matching_some hm⟩ h

/-- Some other call has the channel RESERVED with the tag. -/
theorem reservedByOther_iff : s.reservedByOther b j c g = true ↔ ∃ d, d ≠ c ∧ s.chan b j = .reserved d g := by
  rw [State.reservedByOther]
  cases s.chan b j with
  | reserved d t => simp
  | free | held d | leaving d | blocked => simp

/-- A stale READY or ARRIVED with a tag earns a RELEASE (R114). -/
theorem staleRelease_of_owed (hg : g ≠ 0) (h : ∀ d, d ≠ c → s.chan b j ≠ .reserved d g) :
    s.staleRelease b j c g = (s.bump .stale).send b (.release j g) := by
  refine if_pos ⟨hg, Bool.eq_false_iff.mpr fun ho => ?_⟩
  obtain ⟨d, hd, hc⟩ := reservedByOther_iff.mp ho
  exact h d hd hc

/-- It earns none with tag 0, or where another call has the channel RESERVED with that tag (R114). -/
theorem staleRelease_of_none_owed (h : g = 0 ∨ ∃ d, d ≠ c ∧ s.chan b j = .reserved d g) :
    s.staleRelease b j c g = s.bump .stale := by
  refine if_neg fun ⟨hg, ho⟩ => ?_
  have hother : s.reservedByOther b j c g = true := reservedByOther_iff.mpr (h.resolve_left hg)
  rw [ho] at hother
  cases hother

section
variable (h : s.matching b j c g = none)
include h

theorem takeReserveAnswer_ready_of_unmatched : s.takeReserveAnswer b j c g .ready = s.staleRelease b j c g := by
  unfold State.takeReserveAnswer
  rw [h]

theorem takeReserveAnswer_refused_of_unmatched : s.takeReserveAnswer b j c g .refused = s.bump .stale := by
  unfold State.takeReserveAnswer
  rw [h]
  rfl

theorem takeArrived_of_unmatched : s.takeArrived b j c g = s.staleRelease b j c g := by
  unfold State.takeArrived
  rw [h]

end

/-- Settles O34: an answer that matches no record, by its verdict, its tag and the channel that it names. -/
theorem staleAnswersEarnARelease : Obligations.StaleAnswersEarnARelease := by
  intro b j c g reason s hs ha hno
  have hm : (s.restartSilence b).matching b j c g = none :=
    matching_eq_none (by simpa only [restartSilence_calls] using hno)
  have hchan := restartSilence_chan s b b j
  rw [exec_reserveAnswer, exec_reserveAnswer, exec_arrived, messageFrom_active hs ha, messageFrom_active hs ha,
    messageFrom_active hs ha, takeReserveAnswer_refused_of_unmatched hm, takeReserveAnswer_ready_of_unmatched hm,
    takeArrived_of_unmatched hm]
  refine ⟨rfl, fun hg h => ?_, fun h => ?_⟩
  · rw [staleRelease_of_owed hg (by rw [hchan]; exact h)]
    exact ⟨rfl, rfl⟩
  · rw [staleRelease_of_none_owed (by rw [hchan]; exact h)]
    exact ⟨rfl, rfl⟩

/-! ### A matching RESERVE ANSWER (R115, R116) -/

section
variable (hr : s.calls[c].handover = some r)
include hr

theorem updHandover_of_record (f : Handover → Handover) :
    s.updHandover c f = s.updCall c fun e => { e with handover := some (f r) } :=
  updCall_congr (by rw [hr]; rfl)

/-- A READY in an IMMEDIATE zone sends the switch at once (R116). -/
theorem takeReady_of_immediate (hz : (s.zoneAt r.target).switchMode = .immediate) :
    s.takeReady c r = (s.updCall c fun e => { e with
      handover := some { r with reserveTimer := none } }).sendSwitchList s.calls[c].base [c] := by
  rw [State.takeReady, hz, updHandover_of_record hr]

/-- A READY in a MARKED zone joins the batch while there is room (R116, R119). -/
theorem takeReady_of_room (hz : (s.zoneAt r.target).switchMode = .marked) (hl : s.batch.length < 32) :
    s.takeReady c r = ((s.setBatch (s.batch ++
      [⟨c, dueFrame s.now (markSpacing (s.zoneAt r.target).spacingCode)⟩])).updCall c fun e => { e with
        handover := some { r with reserveTimer := none, state := .awaitMark } }).markCall c 0 := by
  have hroom : s.batch.length < Config.batchMax := hl
  have hjoin : (s.updHandover c fun q => { q with reserveTimer := none }).joinBatch c r.target =
      (((s.setBatch (s.batch ++ [⟨c, dueFrame s.now (markSpacing (s.zoneAt r.target).spacingCode)⟩])).updHandover c
        fun q => { q with reserveTimer := none }).updHandover c fun q => { q with
          state := .awaitMark, reserveTimer := none }).markCall c 0 := rfl
  rw [State.takeReady, hz]
  dsimp only
  rw [if_pos hroom, hjoin, State.updHandover, State.updHandover, updCall_updCall]
  refine congrArg (State.markCall · c 0) (updCall_congr ?_)
  rw [State.setBatch_calls, hr]
  rfl

/-- A READY that finds the batch full is counted, and the switch sent at once (R116). -/
theorem takeReady_of_full (hz : (s.zoneAt r.target).switchMode = .marked) (hl : 32 ≤ s.batch.length) :
    s.takeReady c r = ((s.updCall c fun e => { e with
      handover := some { r with reserveTimer := none } }).bump .batchFull).sendSwitchList s.calls[c].base [c] := by
  have hfull : ¬s.batch.length < Config.batchMax := Nat.not_lt.mpr hl
  rw [State.takeReady, hz]
  dsimp only
  rw [if_neg hfull, updHandover_of_record hr]

variable (hj : r.channel = some j)
include hj

theorem matching_of_record : s.matching r.target j c r.tag = some r := by
  rw [State.matching, hr, Option.filter_some, if_pos]
  simp [hj]

theorem takeReserveAnswer_ready_of_record :
    s.takeReserveAnswer r.target j c r.tag .ready =
      if r.state = .reserving then s.takeReady c r else s.bump .stale := by
  unfold State.takeReserveAnswer
  rw [matching_of_record hr hj]
  rfl

theorem takeReserveAnswer_refused_of_record :
    s.takeReserveAnswer r.target j c r.tag .refused = s.takeRefused c r := by
  unfold State.takeReserveAnswer
  rw [matching_of_record hr hj]

end

theorem takeRefused_of_reserving (h : r.state = .reserving) : s.takeRefused c r = s.candidateFail c .refused := by
  rw [State.takeRefused, h]

theorem takeRefused_of_awaitMark (h : r.state = .awaitMark) : s.takeRefused c r = s.candidateFail c .targetDrop := by
  rw [State.takeRefused, h]

/-- A REFUSED in SWITCHING is a drop of the target (R115). -/
theorem takeRefused_of_switching (h : r.state = .switching) :
    s.takeRefused c r = if r.oldDropped then s.endCall c .radioLost else s.attemptEnd c .targetDrop := by
  rw [State.takeRefused, h]
  rfl

/-- Settles O35: a RESERVE ANSWER that matches, by its verdict and the state of its record. -/
theorem reserveAnswerByState : Obligations.ReserveAnswerByState := by
  rintro b j c g reason r s hs ha hr rfl hj rfl
  have hcalls := restartSilence_calls s r.target
  have hr' : (s.restartSilence r.target).calls[c].handover = some r := by rw [hcalls]; exact hr
  have hz := restartSilence_zoneAt s r.target r.target
  have hbatch : (s.restartSilence r.target).batch = s.batch :=
    (congrArg State.batch (restartSilence_frame s r.target) :)
  have hfails : ∀ a, s.calls[c].state = .moving → s.chan r.target j = .reserved c r.tag →
      (s.restartSilence r.target).failsOver ((s.restartSilence r.target).candidateFail c a) c r j a := fun a hm hc =>
    candidateFail_failsOver hr' hj (by rw [hcalls]; exact hm) (by rw [restartSilence_chan]; exact hc) a
  rw [exec_reserveAnswer, exec_reserveAnswer, messageFrom_active hs ha, messageFrom_active hs ha,
    takeReserveAnswer_ready_of_record hr' hj, takeReserveAnswer_refused_of_record hr' hj]
  refine ⟨fun hw => ?_, fun hw => ?_, fun hw => ?_⟩
  · rw [if_pos hw, takeRefused_of_reserving hw]
    refine ⟨rfl, hfails _, fun hm => ?_, fun hm => ⟨fun hl => ?_, fun hl => ?_⟩⟩
    · rw [takeReady_of_immediate hr' (by rw [hz]; exact hm), hcalls]
    · rw [takeReady_of_room hr' (by rw [hz]; exact hm) (by rw [hbatch]; exact hl), hz, hbatch, restartSilence_now]
    · rw [takeReady_of_full hr' (by rw [hz]; exact hm) (by rw [hbatch]; exact hl), hcalls]
  · rw [if_neg (by rw [hw]; decide), takeRefused_of_awaitMark hw]
    exact ⟨rfl, rfl, hfails _⟩
  · rw [if_neg (by rw [hw]; decide), takeRefused_of_switching hw]
    exact ⟨rfl, rfl⟩

end Sys2Proof.Machine
end

section
/-! SUPPORT. The due frame of a batch entry, the SWITCH LIST, and the delivery of the switch batch (R111, R118 to R120):
O36. -/

namespace Sys2Proof.Machine

open Sys2Proof

variable {s : State} {b : BaseNo} {j : ChanNo} {c : CallNo} {r : Handover} {cs : List CallNo}

/-! ### The due frame (R119) -/

/-- A step short of the next multiple leads to no multiple. -/
theorem add_mod_ne_zero {m x n : Nat} (hn : 0 < n) (hx : n < m - x % m) : (x + n) % m ≠ 0 := by
  have hmod : (x + n) % m = x % m + n := by
    conv_lhs => rw [← Nat.div_add_mod x m, Nat.add_assoc, Nat.mul_add_mod]
    exact Nat.mod_eq_of_lt (by omega)
  omega

section
variable {m : Nat} (hm : 0 < m)
include hm

/-- The due frame is a multiple of the spacing, also where the count wraps: the spacing divides 2^32 (R119). -/
theorem dueFrame_mod (hd : m ∣ 2 ^ 32) (now : FrameCount) : (dueFrame now m).toNat % m = 0 := by
  have hmod := Nat.mod_lt now.toNat hm
  have hsum : now.toNat + (m - now.toNat % m) = m * (now.toNat / m + 1) := by
    have hdiv := Nat.div_add_mod now.toNat m
    rw [Nat.mul_add, Nat.mul_one]
    omega
  rw [dueFrame, BitVec.toNat_add, BitVec.toNat_ofNat, Nat.add_mod_mod, hsum, Nat.mod_mod_of_dvd _ hd]
  exact Nat.mul_mod_right _ _

/-- How far the due frame lies ahead (R119). -/
theorem dueFrame_sub (hlt : m < 2 ^ 32) (now : FrameCount) : (dueFrame now m - now).toNat = m - now.toNat % m := by
  rw [dueFrame, BitVec.add_comm, BitVec.add_sub_cancel, BitVec.toNat_ofNat]
  exact Nat.mod_eq_of_lt (by omega)

end

/-- A mark spacing divides the range of the frame count (R111). -/
theorem markSpacing_rules (code : Nat) :
    0 < markSpacing code ∧ markSpacing code ∣ 2 ^ 32 ∧ markSpacing code < 2 ^ 32 := by
  unfold markSpacing
  split <;> decide

/-! ### One SWITCH LIST (R118) -/

theorem sendSwitchList_of_taken (h : s.appendTaken b = true) (cs : List CallNo) :
    s.sendSwitchList b cs =
      cs.foldl (fun u c => u.beginSwitch c) (s.send b (.switchList (cs.filterMap s.switchEntry))) := by
  rw [State.sendSwitchList, send_of_taken h, append_of_taken h]

theorem sendSwitchList_of_refused (h : s.appendTaken b = false) (cs : List CallNo) :
    s.sendSwitchList b cs = cs.foldl (fun u c => u.attemptEnd c .noLinkRoom) (s.bumpBase b .discards) := by
  rw [State.sendSwitchList, append_of_refused h]

/-- The state once the switch of call `c` with record `r` has begun: its channel is LEAVING, its record SWITCHING and
the arrival timer runs (R118 step 3). -/
def State.switchBegun (s : State) (c : CallNo) (r : Handover) : State :=
  (((s.setChan s.calls[c].base s.calls[c].channel (.leaving c)).markCall c 0).updCall c fun e => { e with
    handover := some { r with
      state := .switching, reserveTimer := none
      arrivalTimer := some (s.after (s.zoneAt r.target).arrivalLimit) } }).markCall c 0

theorem beginSwitch_of_reserved (hr : s.calls[c].handover = some r) (hj : r.channel = some j)
    (hk : s.chan s.calls[c].base s.calls[c].channel = .held c) (hc : s.chan r.target j = .reserved c r.tag) :
    s.beginSwitch c = s.switchBegun c r := by
  have hout : s.switchOut c r.target j r.tag =
      (s.setChan s.calls[c].base s.calls[c].channel (.leaving c)).markCall c 0 := if_pos ⟨hk, hc⟩
  rw [State.beginSwitch, hr]
  dsimp only
  rw [hj]
  dsimp only
  rw [hout]
  refine congrArg (State.markCall · c 0) (updCall_congr ?_)
  rw [State.markCall_calls, State.setChan_calls, hr]
  rfl

theorem switchBegun_self : (s.switchBegun c r).calls[c] = { s.calls[c] with handover := some { r with
    state := .switching, reserveTimer := none
    arrivalTimer := some (s.after (s.zoneAt r.target).arrivalLimit) } } := by
  rw [State.switchBegun, State.markCall_calls, updCall_get, if_pos rfl]
  rfl

theorem switchBegun_other {d : CallNo} (hd : d ≠ c) : (s.switchBegun c r).calls[d] = s.calls[d] := by
  rw [State.switchBegun, State.markCall_calls, updCall_other hd.symm]
  rfl

theorem switchBegun_chan (x : BaseNo) (k : ChanNo) : (s.switchBegun c r).chan x k =
    if s.calls[c].base = x ∧ s.calls[c].channel = k then .leaving c else s.chan x k :=
  setChan_get _ _ _ _ _ _

/-- A message offered does not bear on the beginning of a switch. -/
theorem send_switchBegun (s : State) (c : CallNo) (r : Handover) (b : BaseNo) (m : Downlink) :
    (s.send b m).switchBegun c r = (s.send b m).withMapsOf (s.switchBegun c r) := by
  have hmaps := send_withMapsOf_self s b m
  have hafter : ∀ n, (s.send b m).after n = s.after n :=
    fun n => (congrArg (fun v : State => v.after n) (send_frame s b m) :)
  rw [State.switchBegun, State.switchBegun, hafter, send_zoneAt]
  generalize s.send b m = w at hmaps
  rw [← hmaps]
  rfl

theorem switchEntry_of_record (hr : s.calls[c].handover = some r) (hj : r.channel = some j) :
    [c].filterMap s.switchEntry = [⟨s.calls[c].channel, r.target, j, r.tag⟩] := by
  have he : s.switchEntry c = some ⟨s.calls[c].channel, r.target, j, r.tag⟩ := by
    rw [State.switchEntry, hr, Option.bind_some, hj, Option.map_some]
  rw [List.filterMap_cons_some he, List.filterMap_nil]

/-- The switch of one call whose SWITCH LIST is taken (R118). -/
theorem sendSwitchList_of_reserved (hr : s.calls[c].handover = some r) (hj : r.channel = some j)
    (ha : s.appendTaken s.calls[c].base = true) (hk : s.chan s.calls[c].base s.calls[c].channel = .held c)
    (hc : s.chan r.target j = .reserved c r.tag) :
    s.sendSwitchList s.calls[c].base [c] =
      (s.send s.calls[c].base (.switchList [⟨s.calls[c].channel, r.target, j, r.tag⟩])).withMapsOf
        (s.switchBegun c r) := by
  rw [sendSwitchList_of_taken ha, switchEntry_of_record hr hj, List.foldl_cons, List.foldl_nil]
  generalize Downlink.switchList [⟨s.calls[c].channel, r.target, j, r.tag⟩] = m
  have hchan : ∀ x k, (s.send s.calls[c].base m).chan x k = s.chan x k := fun x k => by
    rw [State.chan, send_chans]
    rfl
  rw [beginSwitch_of_reserved (by rw [send_calls]; exact hr) hj (by rw [send_calls, hchan]; exact hk)
    (by rw [hchan]; exact hc), send_switchBegun]

/-! ### The pieces of a delivery (R120 steps 2 and 3) -/

section
variable {α : Type}

/-- A piece holds 1 to 8 of the list. -/
theorem switchPieces_length {n : Nat} {l p : List α} (h : p ∈ switchPieces n l) : 1 ≤ p.length ∧ p.length ≤ 8 := by
  induction n generalizing l with
  | zero => cases l <;> cases h
  | succ n ih =>
    cases l with
    | nil => cases h
    | cons x r =>
      rcases List.mem_cons.mp h with rfl | h
      · rw [List.length_take, List.length_cons]
        exact ⟨Nat.le_min.mpr ⟨by decide, Nat.succ_pos _⟩, Nat.min_le_left _ _⟩
      · exact ih h

/-- The pieces hold the whole list, in order. -/
theorem switchPieces_flatten {n : Nat} {l : List α} (h : l.length ≤ n) : (switchPieces n l).flatten = l := by
  induction n generalizing l with
  | zero => rw [List.length_eq_zero_iff.mp (Nat.le_zero.mp h)]; rfl
  | succ n ih =>
    cases l with
    | nil => rfl
    | cons x r =>
      have hdrop : ((x :: r).drop Config.switchListMax).length ≤ n := by
        have hmax : Config.switchListMax = 8 := rfl
        rw [List.length_cons] at h
        rw [List.length_drop, List.length_cons]
        omega
      rw [switchPieces, List.flatten_cons, ih hdrop, List.take_append_drop]

/-- A list that another follows is full. -/
theorem switchPieces_full {n : Nat} {l p : List α} (h : p ∈ (switchPieces n l).dropLast) : p.length = 8 := by
  induction n generalizing l with
  | zero => cases l <;> cases h
  | succ n ih =>
    cases l with
    | nil => cases h
    | cons x r =>
      rw [switchPieces] at h
      cases hrest : switchPieces n ((x :: r).drop Config.switchListMax) with
      | nil => rw [hrest] at h; cases h
      | cons q l' =>
        rw [hrest, List.dropLast_cons_cons] at h
        rcases List.mem_cons.mp h with rfl | h
        · have hmore : (x :: r).drop Config.switchListMax ≠ [] := fun e => by
            rw [e] at hrest
            cases n <;> cases hrest
          have hlen := List.length_pos_of_ne_nil hmore
          rw [List.length_drop] at hlen
          exact List.length_take_of_le (Nat.le_of_lt (Nat.lt_of_sub_pos hlen))
        · exact ih (hrest ▸ h)

/-- Of the parts of a list, where only one is not empty, that part is the whole. -/
theorem flatMap_eq_single {β : Type} {l : List α} {f : α → List β} {x : α} (hn : l.Nodup) (hx : x ∈ l)
    (hf : ∀ y, y ≠ x → f y = []) : l.flatMap f = f x := by
  obtain ⟨pre, post, rfl⟩ := List.append_of_mem hx
  have hother : ∀ y ∈ pre ++ post, f y = [] := fun y hy =>
    hf y fun e => (List.nodup_cons.mp (List.nodup_middle.mp hn)).1 (e ▸ hy)
  have hpre : pre.flatMap f = [] := List.flatMap_eq_nil_iff.mpr fun y hy => hother y (List.mem_append_left _ hy)
  have hpost : post.flatMap f = [] := List.flatMap_eq_nil_iff.mpr fun y hy => hother y (List.mem_append_right _ hy)
  rw [List.flatMap_append, List.flatMap_cons, hpre, hpost, List.nil_append, List.append_nil]

/-- A list taken apart by a number of its members is the list in another order. -/
theorem flatMap_filter_perm {n : Nat} [DecidableEq α] (l : List α) (f : α → Fin n) :
    ((List.finRange n).flatMap fun i => l.filter fun x => f x == i).Perm l := by
  have hcount : ∀ (x : α) (i : Fin n),
      (l.filter fun x => f x == i).count x = if f x = i then l.count x else 0 := fun x i => by
    split
    · next h => exact List.count_filter (beq_iff_eq.mpr h)
    · next h => exact List.count_eq_zero.mpr fun hm => h (beq_iff_eq.mp (List.mem_filter.mp hm).2)
  refine List.perm_iff_count.mpr fun x => ?_
  rw [List.count_flatMap, ← Fin.sum_univ_def]
  simp only [Function.comp_apply, hcount, Finset.sum_ite_eq, Finset.mem_univ, if_true]

end

/-! ### The lists of a delivery (R120) -/

section
variable (s) (due : List CallNo)

/-- The lists of one base (R120). -/
theorem switchLists_of_base (b : BaseNo) :
    (s.switchLists due).filter (fun p => p.1 == b) =
      (switchPieces due.length (due.filter fun c => s.calls[c].base == b)).map fun p => (b, p) := by
  rw [State.switchLists, List.filter_flatMap, flatMap_eq_single (List.nodup_finRange 48) (List.mem_finRange b)]
  · exact List.filter_eq_self.mpr fun p hp => by
      obtain ⟨q, -, rfl⟩ := List.mem_map.mp hp
      exact beq_self_eq_true b
  · intro x hx
    refine List.filter_eq_nil_iff.mpr fun p hp => ?_
    obtain ⟨q, -, rfl⟩ := List.mem_map.mp hp
    simpa using hx

theorem pieces_of_base (b : BaseNo) :
    (switchPieces due.length (due.filter fun c => s.calls[c].base == b)).flatten =
      due.filter fun c => s.calls[c].base == b :=
  switchPieces_flatten (List.length_filter_le _ _)

theorem flatMap_pieces (b : BaseNo) (l : List (List CallNo)) : (l.map fun p => (b, p)).flatMap (·.2) = l.flatten := by
  rw [List.flatMap_map]
  exact List.flatMap_id

/-- The lists of a base hold its calls in batch order (R120). -/
theorem switchLists_calls_of_base (b : BaseNo) :
    ((s.switchLists due).filter fun p => p.1 == b).flatMap (·.2) = due.filter fun c => s.calls[c].base == b := by
  rw [switchLists_of_base, flatMap_pieces, pieces_of_base]

/-- The lists of a delivery hold every due call once (R120). -/
theorem switchLists_perm : ((s.switchLists due).flatMap (·.2)).Perm due := by
  rw [State.switchLists, List.flatMap_assoc]
  simp only [flatMap_pieces, pieces_of_base]
  exact flatMap_filter_perm due _

/-- Every list of a base but its last is full (R120). -/
theorem switchLists_full (b : BaseNo) :
    ∀ p ∈ ((s.switchLists due).filter fun p => p.1 == b).dropLast, p.2.length = 8 := by
  intro p hp
  rw [switchLists_of_base, ← List.map_dropLast] at hp
  obtain ⟨q, hq, rfl⟩ := List.mem_map.mp hp
  exact switchPieces_full hq

variable {due} in
/-- A list holds 1 to 8 calls of one serving base (R120). -/
theorem switchLists_each {p : BaseNo × List CallNo} (hp : p ∈ s.switchLists due) :
    1 ≤ p.2.length ∧ p.2.length ≤ 8 ∧ ∀ c ∈ p.2, s.calls[c].base = p.1 := by
  obtain ⟨b, -, hb⟩ := List.mem_flatMap.mp hp
  obtain ⟨q, hq, rfl⟩ := List.mem_map.mp hb
  obtain ⟨hpos, hle⟩ := switchPieces_length hq
  refine ⟨hpos, hle, fun c hc => ?_⟩
  have hm := mem_switchPieces hq hc
  exact beq_iff_eq.mp (List.mem_filter.mp hm).2

end

/-! ### The delivery leaves the rest of the batch (R120) -/

/-- The end of an attempt whose call has no batch entry leaves the batch (R119, R124). -/
theorem attemptEnd_batch_of_notBatched (h : s.notBatched c) (a : AbortReason) : (s.attemptEnd c a).batch = s.batch := by
  have hdrop : (s.dropBatch c).batch = s.batch :=
    List.filter_eq_self.mpr fun e he => bne_iff_ne.mpr (h e he)
  unfold State.attemptEnd
  split
  · rfl
  · next r _ =>
    have hb : ((((s.dropBatch c).giveUp c r).removeRecord c).noteAbort c a).batch = (s.dropBatch c).batch :=
      (moveEnd_batch _ c).trans (callTables_fields (giveUp_callTables (s.dropBatch c) c r)).2.1
    dsimp only
    rw [answerMove_batch]
    split
    · rw [startHold_batch, hb, hdrop]
    · rw [hb, hdrop]

/-- A SWITCH LIST, taken or refused, of calls with no batch entry leaves the batch. -/
theorem sendSwitchList_batch_of_notBatched (h : ∀ c ∈ cs, s.notBatched c) :
    (s.sendSwitchList b cs).batch = s.batch := by
  cases ha : s.appendTaken b with
  | true =>
    rw [sendSwitchList_of_taken ha]
    refine List.foldlRecOn (motive := fun v : State => v.batch = s.batch) cs _ (send_batch s b _) fun v hv c _ => ?_
    rw [beginSwitch_batch, hv]
  | false =>
    rw [sendSwitchList_of_refused ha]
    refine List.foldlRecOn (motive := fun v : State => v.batch = s.batch) cs _ rfl fun v hv c hc => ?_
    rw [attemptEnd_batch_of_notBatched (by rw [State.notBatched, hv]; exact h c hc), hv]

/-- Exactly the entries that are due leave the batch (R120). -/
theorem deliverBatch_batch (hn : (s.batch.map (·.call)).Nodup) :
    s.deliverBatch.batch = s.batch.filter fun e => e.due != s.now := by
  refine List.foldlRecOn (motive := fun v : State => v.batch = s.batch.filter fun e => e.due != s.now) _ _ rfl
    fun v hv p hp => ?_
  rw [sendSwitchList_batch_of_notBatched fun c hc => ?_, hv]
  rw [State.notBatched, hv]
  exact notBatched_of_due hn (mem_switchLists hp hc)

/-- Settles O36: the due frame by its remainder, the switch of one call by its tables, and the lists of a delivery by
the pieces of each base. -/
theorem switchListsAndTheBatch : Obligations.SwitchListsAndTheBatch := by
  refine ⟨⟨rfl, rfl, rfl, rfl⟩, fun _ _ => rfl, fun now code _ => ?_,
    fun c r j s hr hj => ⟨fun ha hk hc => ?_, fun ha => sendSwitchList_of_refused ha [c]⟩,
    fun s b cs => ⟨fun ha => sendSwitchList_of_taken ha cs, fun ha => sendSwitchList_of_refused ha cs⟩, fun s hs => ?_⟩
  · obtain ⟨hpos, hd, hlt⟩ := markSpacing_rules code
    have hmod := Nat.mod_lt now.toNat hpos
    rw [dueFrame_sub hpos hlt]
    exact ⟨dueFrame_mod hpos hd now, by omega, by omega, fun n => add_mod_ne_zero⟩
  · have hsent := send_withMapsOf_self s s.calls[c].base (.switchList [⟨s.calls[c].channel, r.target, j, r.tag⟩])
    rw [sendSwitchList_of_reserved hr hj ha hk hc]
    generalize s.send _ _ = w at hsent ⊢
    refine ⟨_, rfl, ?_, fun x k hx => ?_, switchBegun_self, fun d hd => switchBegun_other hd, hsent⟩
    · exact (switchBegun_chan (r := r) _ _).trans (if_pos ⟨rfl, rfl⟩)
    · exact (switchBegun_chan (r := r) x k).trans (if_neg fun h => hx.elim (fun e => e h.1.symm) fun e => e h.2.symm)
  · refine ⟨s.deliverBatch, s.switchLists ((s.batch.filter fun e => e.due == s.now).map (·.call)), ?_, rfl,
      switchLists_perm s _, fun p hp => switchLists_each s hp, fun b => ⟨switchLists_calls_of_base s _ b, switchLists_full s _ b⟩,
      fun hn => deliverBatch_batch hn⟩
    rw [exec_switchBatchDelivery, whileServing_of hs]

end Sys2Proof.Machine
end

section
/-! SUPPORT. Attempts that end together, and the withdrawal of a base: what they leave of each call's entry, of the
channels of the base and of what has been sent (R124, R126, R127, R139). -/

namespace Sys2Proof.Machine

open Sys2Proof

variable {s t u : State} {b : BaseNo} {c : CallNo} {r : Handover} {a : AbortReason} {l : List CallNo}

/-! ### Attempts that end together (R126, R127) -/

/-- The entry of a call, in whatever state it is, once its attempt has ended with reason `a`, but for its hold timer
(R124 steps 3 and 4). -/
def Call.released (a : AbortReason) (e : Call) : Call :=
  { e with
    state := if e.state = .moving then .connected else e.state, handover := none, lastAbort := some a }

theorem released_live (a : AbortReason) (e : Call) : callLive (e.released a).state = callLive e.state := by
  unfold Call.released
  cases e.state <;> rfl

theorem moveEnd_self (s : State) (c : CallNo) :
    (s.moveEnd c).calls[c] =
      { s.calls[c] with state := if s.calls[c].state = .moving then .connected else s.calls[c].state } := by
  by_cases hm : s.calls[c].state = .moving
  · rw [State.moveEnd, if_pos hm, State.markCall_calls, updCall_get, if_pos rfl, if_pos hm]
  · rw [State.moveEnd, if_neg hm, if_neg hm]

/-- The end of an attempt in whatever state its call is (R124). -/
theorem attemptEnd_released (hr : s.calls[c].handover = some r) (a : AbortReason) :
    ∃ hold, (s.attemptEnd c a).calls[c] = { s.calls[c].released a with hold := hold } := by
  have hnoted : ((((s.dropBatch c).giveUp c r).removeRecord c).noteAbort c a).calls[c] = s.calls[c].released a := by
    rw [State.noteAbort, State.markCall_calls, updCall_get, if_pos rfl, State.removeRecord, moveEnd_self,
      updCall_get, if_pos rfl, giveUp_calls]
    rfl
  unfold State.attemptEnd
  rw [hr]
  dsimp only
  rw [answerMove_calls]
  split
  · unfold State.startHold
    dsimp only
    split
    · rw [updCall_get, if_pos rfl, hnoted]
      exact ⟨_, rfl⟩
    · exact ⟨_, hnoted⟩
  · exact ⟨_, hnoted⟩

/-- The attempts of some calls end one after another. -/
def State.attemptsEnd (s : State) (l : List CallNo) (a : AbortReason) : State :=
  l.foldl (fun u c => u.attemptEnd c a) s

/-- A call that is not among them, or that has no record, is left alone. -/
theorem attemptsEnd_keeps (h : c ∉ l ∨ s.calls[c].handover = none) : (s.attemptsEnd l a).calls[c] = s.calls[c] := by
  induction l generalizing s with
  | nil => rfl
  | cons d l ih =>
    have hone : (s.attemptEnd d a).calls[c] = s.calls[c] := by
      by_cases hd : d = c
      · subst hd
        rw [attemptEnd_of_no_record (h.resolve_left fun hn => hn List.mem_cons_self)]
      · exact attemptEnd_other hd s a
    exact (ih (h.imp (fun hn hm => hn (List.mem_cons_of_mem d hm)) fun hn => by rw [hone]; exact hn)).trans hone

theorem attemptsEnd_released (hc : c ∈ l) (hr : s.calls[c].handover = some r) :
    ∃ hold, (s.attemptsEnd l a).calls[c] = { s.calls[c].released a with hold := hold } := by
  induction l generalizing s with
  | nil => cases hc
  | cons d l ih =>
    by_cases hd : d = c
    · subst hd
      obtain ⟨hold, he⟩ := attemptEnd_released hr a
      exact ⟨hold, (attemptsEnd_keeps (s := s.attemptEnd d a) (.inr (by rw [he]; rfl))).trans he⟩
    · have hone := attemptEnd_other hd s a
      rw [← hone] at hr ⊢
      exact ih ((List.mem_cons.mp hc).resolve_left (Ne.symm hd)) hr

theorem mem_handoversWhere {p : Handover → Bool} :
    c ∈ s.handoversWhere p ↔ ∃ r, s.calls[c].handover = some r ∧ p r = true := by
  rw [State.handoversWhere, mem_indicesWhere]
  cases s.calls[c].handover <;> simp

/-- A call in progress stays in progress, and every call stays at its base. -/
theorem attemptsEnd_call (s : State) (l : List CallNo) (a : AbortReason) (c : CallNo) :
    callLive (s.attemptsEnd l a).calls[c].state = callLive s.calls[c].state ∧
      (s.attemptsEnd l a).calls[c].base = s.calls[c].base := by
  cases hr : s.calls[c].handover with
  | none => rw [attemptsEnd_keeps (.inr hr)]; exact ⟨rfl, rfl⟩
  | some r =>
    by_cases hc : c ∈ l
    · obtain ⟨hold, he⟩ := attemptsEnd_released (a := a) hc hr
      rw [he]
      exact ⟨released_live a _, rfl⟩
    · rw [attemptsEnd_keeps (.inl hc)]; exact ⟨rfl, rfl⟩

/-! ### What has been sent, and the pending bits of the bases -/

/-- Work that adds to what has been sent, and leaves the pending bits of the bases alone. -/
structure SendsOn (s t : State) : Prop where
  wire    : s.wire <+: t.wire
  pending : t.acu.basePending = s.acu.basePending

namespace SendsOn

theorem refl (s : State) : SendsOn s s := ⟨⟨[], List.append_nil _⟩, rfl⟩

theorem trans (h : SendsOn s t) (k : SendsOn t u) : SendsOn s u := ⟨h.wire.trans k.wire, k.pending.trans h.pending⟩

theorem same (h : SendsOn s t) (hw : u.wire = t.wire) (hp : u.acu.basePending = t.acu.basePending) : SendsOn s u :=
  h.trans ⟨by rw [hw], hp⟩

theorem foldl {α : Type} {f : State → α → State} (hf : ∀ {v x}, SendsOn s v → SendsOn s (f v x)) (h : SendsOn s t)
    (l : List α) : SendsOn s (l.foldl f t) :=
  List.foldlRecOn (motive := SendsOn s) l f h fun _ hv _ _ => hf hv

theorem send {m : Downlink} (h : SendsOn s t) : SendsOn s (t.send b m) := by
  refine h.trans ⟨?_, congrArg Acu.basePending (send_acu t b m)⟩
  cases ha : t.appendTaken b with
  | false => rw [send_of_refused ha]; exact (refl t).wire
  | true =>
    rw [send_of_taken ha]
    by_cases hq : t.links[b].queue = []
    · rw [enqueue_of_nil hq]; exact ⟨_, rfl⟩
    · rw [enqueue_of_ne_nil hq]; exact (refl t).wire

theorem handBack {i : SlotNo} {x : OrderResult} (h : SendsOn s t) : SendsOn s (t.handBack i x) :=
  h.same (handBack_wire t i x) (congrArg Acu.basePending (handBack_acu t i x))

theorem answerMove {i : Option SlotNo} {x : OrderResult} (h : SendsOn s t) : SendsOn s (t.answerMove i x) := by
  unfold State.answerMove
  split
  · exact h.handBack
  · exact h

theorem updCall {f : Call → Call} (h : SendsOn s t) : SendsOn s (t.updCall c f) := h.same rfl rfl
theorem markCall {v : Byte} (h : SendsOn s t) : SendsOn s (t.markCall c v) := h.same rfl rfl
theorem setChan {k : ChanNo} {v : Chan} (h : SendsOn s t) : SendsOn s (t.setChan b k v) := h.same rfl rfl
theorem bumpBase {k : BaseCounter} (h : SendsOn s t) : SendsOn s (t.bumpBase b k) := h.same rfl rfl
theorem dropBatch (h : SendsOn s t) : SendsOn s (t.dropBatch c) := h.same rfl rfl
theorem freeBase (h : SendsOn s t) : SendsOn s (t.freeBase b) := h.same rfl rfl
theorem setDrain {d : Option DrainRecord} (h : SendsOn s t) : SendsOn s (t.setDrain b d) := h.same rfl rfl

theorem giveUp (h : SendsOn s t) : SendsOn s (t.giveUp c r) := by
  unfold State.giveUp
  split
  · exact h
  · dsimp only
    split
    · refine SendsOn.bumpBase (SendsOn.send (SendsOn.send ?_))
      unfold State.switchBack
      dsimp only
      split
      · exact h.setChan.setChan.markCall
      · exact h
    · refine SendsOn.bumpBase (SendsOn.send ?_)
      unfold State.unreserve
      split
      · exact h.setChan
      · exact h

theorem moveEnd (h : SendsOn s t) : SendsOn s (t.moveEnd c) := by
  unfold State.moveEnd
  split
  · exact h.updCall.markCall
  · exact h

theorem startHold (h : SendsOn s t) : SendsOn s (t.startHold c) := by
  unfold State.startHold
  dsimp only
  split
  · exact h.updCall
  · exact h

/-- The end of an attempt (R124). -/
theorem attemptEnd (h : SendsOn s t) : SendsOn s (t.attemptEnd c a) := by
  unfold State.attemptEnd
  split
  · exact h
  · next r _ =>
    have hnoted : SendsOn s ((((t.dropBatch c).giveUp c r).removeRecord c).noteAbort c a) :=
      h.dropBatch.giveUp.updCall.moveEnd.updCall.markCall
    dsimp only
    split
    · exact hnoted.startHold.answerMove
    · exact hnoted.answerMove

/-- The last steps of a withdrawal (R139). -/
theorem withdrawTail (h : SendsOn s t) : SendsOn s (t.withdrawTail b) := by
  have hlost : SendsOn s (t.targetLostNotice b) := h.foldl attemptEnd _
  have hsets : SendsOn s ((t.targetLostNotice b).removeFromSets b) :=
    hlost.foldl (f := fun v c => v.removeFromSet b c) (fun hv => hv.updCall.markCall) _
  exact hsets.freeBase

end SendsOn

/-! ### The withdrawal's last steps (R139 steps 3 to 5) -/

theorem not_hasNeighbour_without (b : BaseNo) (set : List Neighbour) :
    hasNeighbour (withoutNeighbour b set) b = false := by
  rw [hasNeighbour, withoutNeighbour, List.any_eq_false]
  intro n hn
  simpa using (List.mem_filter.mp hn).2

theorem withoutNeighbour_of_absent {set : List Neighbour} (h : hasNeighbour set b = false) :
    withoutNeighbour b set = set := by
  refine List.filter_eq_self.mpr fun n hn => ?_
  rw [hasNeighbour, List.any_eq_false] at h
  simpa using h n hn

theorem removeFromSet_self (s : State) (b : BaseNo) (c : CallNo) :
    (s.removeFromSet b c).calls[c] = { s.calls[c] with neighbours := withoutNeighbour b s.calls[c].neighbours } := by
  rw [State.removeFromSet, State.markCall_calls, updCall_get, if_pos rfl]

theorem removeFromSet_other {d : CallNo} (hd : d ≠ c) (s : State) (b : BaseNo) :
    (s.removeFromSet b d).calls[c] = s.calls[c] := by
  rw [State.removeFromSet, State.markCall_calls, updCall_other hd]

/-- A base leaves the sets of some calls, and no other call has it in its set. -/
theorem foldl_removeFromSet_call (h : c ∉ l → hasNeighbour s.calls[c].neighbours b = false) :
    (l.foldl (fun t d => t.removeFromSet b d) s).calls[c] =
      { s.calls[c] with neighbours := withoutNeighbour b s.calls[c].neighbours } := by
  induction l generalizing s with
  | nil => rw [withoutNeighbour_of_absent (h List.not_mem_nil)]; rfl
  | cons d l ih =>
    by_cases hd : d = c
    · subst hd
      have hgone := not_hasNeighbour_without b s.calls[d].neighbours
      have hself := removeFromSet_self s b d
      rw [List.foldl_cons, ih fun _ => by rw [hself]; exact hgone, hself, withoutNeighbour_of_absent hgone]
    · have hother := removeFromSet_other hd s b
      rw [List.foldl_cons, ih fun hn => by rw [hother]; exact h fun hm => hn (List.mem_of_ne_of_mem (Ne.symm hd) hm),
        hother]

/-- A base leaves the neighbour set of every call (R90). -/
theorem removeFromSets_call (s : State) (b : BaseNo) (c : CallNo) :
    (s.removeFromSets b).calls[c] = { s.calls[c] with neighbours := withoutNeighbour b s.calls[c].neighbours } :=
  foldl_removeFromSet_call fun hc => Bool.eq_false_iff.mpr fun hn => hc ((mem_indicesWhere _ _ _).mpr hn)

/-- Every position of the base that is not BLOCKED becomes FREE (R72). -/
theorem freeBase_chan (s : State) (b : BaseNo) (k : ChanNo) :
    (s.freeBase b).chan b k = .free ∨ (s.freeBase b).chan b k = .blocked := by
  have hk : (s.freeBase b).chan b k = if s.chan b k = .blocked then s.chan b k else .free := by
    rw [State.chan, State.freeBase]
    dsimp only
    rw [getElem_set_fin, if_pos rfl, getElem_mapTable]
    rfl
  rw [hk]
  split
  · next h => exact .inr h
  · exact .inl rfl

section
variable (s) (b)

/-- The calls as the TARGET_LOST ends of the handovers into a base leave them (R127). -/
theorem targetLostNotice_eq :
    s.targetLostNotice b = s.attemptsEnd (s.handoversWhere fun r => r.target == b) .targetLost := rfl

theorem withdrawTail_call (c : CallNo) :
    (s.withdrawTail b).calls[c] = { (s.targetLostNotice b).calls[c] with
      neighbours := withoutNeighbour b (s.targetLostNotice b).calls[c].neighbours } :=
  removeFromSets_call (s.targetLostNotice b) b c

/-- A call whose handover, if any, has another target loses the base from its set, and nothing else (R139). -/
theorem withdrawTail_call_of_elsewhere (h : ∀ r, s.calls[c].handover = some r → r.target ≠ b) :
    (s.withdrawTail b).calls[c] =
      { s.calls[c] with neighbours := withoutNeighbour b s.calls[c].neighbours } := by
  rw [withdrawTail_call, targetLostNotice_eq, attemptsEnd_keeps]
  refine .inl fun hm => ?_
  obtain ⟨r, hr, ht⟩ := mem_handoversWhere.mp hm
  exact h r hr (beq_iff_eq.mp ht)

/-- No handover into the base is left (R127). -/
theorem withdrawTail_target (c : CallNo) {r : Handover} (h : (s.withdrawTail b).calls[c].handover = some r) :
    r.target ≠ b := by
  rw [withdrawTail_call, targetLostNotice_eq] at h
  intro ht
  have h' : (s.attemptsEnd (s.handoversWhere fun r => r.target == b) .targetLost).calls[c].handover = some r := h
  by_cases hm : c ∈ s.handoversWhere fun r => r.target == b
  · obtain ⟨q, hq, -⟩ := mem_handoversWhere.mp hm
    obtain ⟨hold, he⟩ := attemptsEnd_released (a := .targetLost) hm hq
    rw [he] at h'
    cases h'
  · rw [attemptsEnd_keeps (.inl hm)] at h'
    exact hm (mem_handoversWhere.mpr ⟨r, h', beq_iff_eq.mpr ht⟩)

variable {s b} in
/-- A base that serves no call is withdrawn by the last steps of a withdrawal (R139). -/
theorem withdrawTail_withdrawn (h : s.servedBy b = []) : (s.withdrawTail b).withdrawn b := by
  refine ⟨fun c ⟨hl, hb⟩ => ?_, fun c r hr => withdrawTail_target s b c hr, fun c => ?_,
    freeBase_chan ((s.targetLostNotice b).removeFromSets b) b⟩
  · rw [withdrawTail_call] at hl hb
    obtain ⟨hlive, hbase⟩ := attemptsEnd_call s (s.handoversWhere fun r => r.target == b) .targetLost c
    have hm : c ∈ s.servedBy b := mem_servedBy.mpr ⟨hlive.symm.trans hl, hbase.symm.trans hb⟩
    rw [h] at hm
    cases hm
  · rw [withdrawTail_call]
    exact not_hasNeighbour_without b _

end

end Sys2Proof.Machine
end

section
/-! SUPPORT. DRAIN BASE, the completion of a drain, and the drain limit (R126, R133, R136, R137): O39. -/

namespace Sys2Proof.Machine

open Sys2Proof

variable {s t u : State} {b : BaseNo} {c : CallNo} {d : DrainRecord} {l : List CallNo} {r : EndReason}

/-! ### The completion of a drain (R136) -/

theorem handBack_chans (s : State) (i : SlotNo) (x : OrderResult) : (s.handBack i x).chans = s.chans :=
  (congrArg State.chans (handBack_frame s i x) :)

section
variable (s b d) (n : Nat)

/-- The state in which the base of a completed drain has been withdrawn, before the order is answered (R136). -/
def State.drainClosed (s : State) (b : BaseNo) : State :=
  (s.enterStopped b (attnLink ||| attnDrained)).withdrawTail b

theorem drainComplete_eq : s.drainComplete b d n =
    ((s.drainClosed b).setDrain b none).handBack d.slot ⟨.done .ok, n, drainData d⟩ := rfl

theorem drainComplete_calls : (s.drainComplete b d n).calls = (s.drainClosed b).calls := by
  rw [drainComplete_eq, handBack_calls, State.setDrain_calls]

theorem drainComplete_chans : (s.drainComplete b d n).chans = (s.drainClosed b).chans := by
  rw [drainComplete_eq, handBack_chans, State.setDrain_chans]

theorem drainComplete_link :
    (s.drainComplete b d n).links[b] =
      { s.links[b] with service := .stopped, joinTimer := none, silenceTimer := none, queue := [], head := none } := by
  have hstop : (s.enterStopped b (attnLink ||| attnDrained)).links[b] =
      { s.links[b] with service := .stopped, joinTimer := none, silenceTimer := none, queue := [], head := none } := by
    rw [enterStopped_links, getElem_set_fin, if_pos rfl]
  have hoff : linkActive ((s.enterStopped b (attnLink ||| attnDrained)).service b) = false := by
    rw [State.service, hstop]
    rfl
  have hclosed : (s.drainClosed b).links[b] = _ := (stoppedTail_keeps s b).closed b hoff
  rw [drainComplete_eq, handBack_links, State.setDrain_links, hclosed, hstop]

/-- The base is STOPPED and its drain record gone (R136). -/
theorem drainComplete_gone :
    (s.drainComplete b d n).service b = .stopped ∧ (s.drainComplete b d n).drains[b] = none := by
  rw [drainComplete_service, drainComplete_drains, getElem_set_fin, if_pos rfl, if_pos rfl]
  exact ⟨rfl, rfl⟩

/-- STOP is transmitted, and LINK and DRAINED are raised (R136). -/
theorem drainComplete_sent : ⟨b, .stop⟩ ∈ (s.drainComplete b d n).wire ∧
    (s.drainComplete b d n).acu.basePending[b] &&& (attnLink ||| attnDrained) = attnLink ||| attnDrained := by
  have hsent : SendsOn (s.enterStopped b (attnLink ||| attnDrained)) (s.drainComplete b d n) := by
    rw [drainComplete_eq]
    exact (SendsOn.refl _).withdrawTail.setDrain.handBack
  refine ⟨hsent.wire.subset (List.mem_append_right _ (List.mem_singleton_self _)), ?_⟩
  have hbits : (s.enterStopped b (attnLink ||| attnDrained)).acu.basePending[b] =
      s.acu.basePending[b] ||| (attnLink ||| attnDrained) := (getElem_set_fin _ _ _ _).trans (if_pos rfl)
  rw [hsent.pending, hbits]
  exact or_and_added _ _

/-- The order is answered last (R136 step 4). -/
theorem drainComplete_queue : ∃ l, (s.drainComplete b d n).oru.queue =
    l ++ [.resultWrite d.slot ⟨.done .ok, n, drainData d⟩, .answeredWrite d.slot] :=
  ⟨_, handBack_queue _ _ _⟩

variable {s} in
/-- The completion of a drain takes its base from the set of a call without a handover, and changes nothing else of the
call (R136, R139). -/
theorem drainComplete_call_of_idle (h : s.calls[c].handover = none) :
    (s.drainComplete b d n).calls[c] =
      { s.calls[c] with neighbours := withoutNeighbour b s.calls[c].neighbours } := by
  rw [drainComplete_calls]
  exact withdrawTail_call_of_elsewhere (s.enterStopped b _) b fun r hr => nomatch h.symm.trans hr

variable {s b} in
/-- A base that serves no call is withdrawn by the completion of its drain (R136, R139). -/
theorem drainComplete_withdrawn (h : s.servedBy b = []) : (s.drainComplete b d n).withdrawn b := by
  have hw : (s.drainClosed b).withdrawn b := withdrawTail_withdrawn (s := s.enterStopped b _) h
  unfold State.withdrawn at hw ⊢
  simpa only [drainComplete_calls, State.chan, drainComplete_chans] using hw

variable {s b} in
/-- All that the completion of the drain of a base that serves no call does to the base and answers (R136). -/
theorem drainComplete_outcome (h : s.servedBy b = []) :
    (s.drainComplete b d n).service b = .stopped ∧ (s.drainComplete b d n).drains[b] = none ∧
      (s.drainComplete b d n).withdrawn b ∧ ⟨b, .stop⟩ ∈ (s.drainComplete b d n).wire ∧
      (s.drainComplete b d n).acu.basePending[b] &&& (attnLink ||| attnDrained) = attnLink ||| attnDrained ∧
      ∃ l, (s.drainComplete b d n).oru.queue =
        l ++ [.resultWrite d.slot ⟨.done .ok, n, drainData d⟩, .answeredWrite d.slot] := by
  obtain ⟨hservice, hdrain⟩ := drainComplete_gone s b d n
  obtain ⟨hwire, hbits⟩ := drainComplete_sent s b d n
  exact ⟨hservice, hdrain, drainComplete_withdrawn d n h, hwire, hbits, drainComplete_queue s b d n⟩

end

/-! ### The start of a drain (R133) -/

/-- Everything that the offer of a drain move can do (R134). -/
theorem offerDrainMove_cases (s : State) (c : CallNo) :
    s.offerDrainMove c = s ∨ ∃ d tries, s.drains[s.calls[c].base] = some d ∧
      s.offerDrainMove c =
        (s.setDrain s.calls[c].base (some { d with attempts := satSucc d.attempts })).startHandover c .drain tries
          none := by
  unfold State.offerDrainMove
  split
  · split
    · exact .inl rfl
    · split
      · next d hd => exact .inr ⟨d, _, hd, rfl⟩
      · exact .inl rfl
  · exact .inl rfl

/-- What the offers of drain moves keep: every call in progress goes on at its base, no link changes its service state,
a drain record changes in its attempts alone, and a LINK bit raised stays. -/
structure DrainOffers (s t : State) : Prop where
  live : ∀ c : CallNo, callLive s.calls[c].state = true →
    callLive t.calls[c].state = true ∧ t.calls[c].base = s.calls[c].base
  service : ∀ x : BaseNo, t.service x = s.service x
  record : ∀ (x : BaseNo) (d : DrainRecord), s.drains[x] = some d → ∃ n, t.drains[x] = some { d with attempts := n }
  raised : ∀ x : BaseNo, s.acu.basePending[x] &&& attnLink = attnLink → t.acu.basePending[x] &&& attnLink = attnLink

theorem DrainOffers.refl (s : State) : DrainOffers s s :=
  ⟨fun _ h => ⟨h, rfl⟩, fun _ => rfl, fun _ d h => ⟨d.attempts, h⟩, fun _ => id⟩

theorem DrainOffers.trans (h : DrainOffers s t) (k : DrainOffers t u) : DrainOffers s u where
  live c hc := by
    obtain ⟨hl, hb⟩ := h.live c hc
    obtain ⟨kl, kb⟩ := k.live c hl
    exact ⟨kl, kb.trans hb⟩
  service x := (k.service x).trans (h.service x)
  record x d hd := by
    obtain ⟨n, hn⟩ := h.record x d hd
    obtain ⟨m, hm⟩ := k.record x _ hn
    exact ⟨m, hm⟩
  raised x := k.raised x ∘ h.raised x

theorem offerDrainMove_offers (s : State) (c : CallNo) : DrainOffers s (s.offerDrainMove c) := by
  rcases offerDrainMove_cases s c with h | ⟨d, tries, hd, h⟩
  · rw [h]
    exact .refl s
  · have hkept : KeepsService (s.setDrain s.calls[c].base (some { d with attempts := satSucc d.attempts }))
        (s.offerDrainMove c) := by
      rw [h]
      exact (KeepsService.refl _).startHandover
    refine ⟨fun x hx => ?_, hkept.service, fun x e he => ?_, hkept.raised⟩
    · by_cases hxc : x = c
      · subst hxc
        rw [h]
        exact startHandover_keepsCall (s := s.setDrain _ _) hx _ _ _
      · rw [(AttemptWork.refl c s).offerDrainMove.others x hxc]
        exact ⟨hx, rfl⟩
    · rw [hkept.drains]
      by_cases hx : s.calls[c].base = x
      · subst hx
        rw [hd] at he
        cases he
        exact ⟨_, (setDrain_get s _ _ _).trans (if_pos rfl)⟩
      · exact ⟨e.attempts, ((setDrain_get s _ x _).trans (if_neg hx)).trans he⟩

theorem offerDrainMoves_offers (s : State) (b : BaseNo) : DrainOffers s (s.offerDrainMoves b) :=
  List.foldlRecOn (motive := DrainOffers s) _ _ (.refl s) fun v hv c _ => hv.trans (offerDrainMove_offers v c)

/-- A drain move is offered to the calls of the base alone (R133 step 4). -/
theorem offerDrainMoves_call_of_elsewhere (h : c ∉ s.servedBy b) : (s.offerDrainMoves b).calls[c] = s.calls[c] :=
  List.foldlRecOn (motive := fun v : State => v.calls[c] = s.calls[c]) _ _ rfl fun v hv x hx =>
    ((AttemptWork.refl x v).offerDrainMove.others c fun e => h (e ▸ hx)).trans hv

/-- The state in which a drain that starts has ended the handovers into its base (R126, R133 step 3). -/
def State.drainNoticed (s : State) (slot : SlotNo) (b : BaseNo) (limit : Nat) : State :=
  (s.drainBegun slot b limit).drainStartNotice b

theorem startDrain_eq (s : State) (slot : SlotNo) (b : BaseNo) (limit : Nat) :
    s.startDrain slot b limit = ((s.drainNoticed slot b limit).offerDrainMoves b).drainCheck b := rfl

section
variable (s b) (slot : SlotNo) (limit : Nat)

theorem drainNoticed_keeps : KeepsService (s.drainBegun slot b limit) (s.drainNoticed slot b limit) :=
  (KeepsService.refl _).drainStartNotice

theorem drainNoticed_call (c : CallNo) :
    callLive (s.drainNoticed slot b limit).calls[c].state = callLive s.calls[c].state ∧
      (s.drainNoticed slot b limit).calls[c].base = s.calls[c].base :=
  attemptsEnd_call (s.drainBegun slot b limit) _ .drain c

theorem mem_servedBy_drainNoticed : c ∈ (s.drainNoticed slot b limit).servedBy b ↔ c ∈ s.servedBy b := by
  obtain ⟨hl, hb⟩ := drainNoticed_call s b slot limit c
  rw [mem_servedBy, mem_servedBy, hl, hb]

theorem drainNoticed_servedBy_nil (h : s.servedBy b = []) : (s.drainNoticed slot b limit).servedBy b = [] := by
  refine List.eq_nil_iff_forall_not_mem.mpr fun c hc => ?_
  rw [mem_servedBy_drainNoticed, h] at hc
  cases hc

theorem drainNoticed_drain : (s.drainNoticed slot b limit).drains[b] = some (s.newDrain slot limit) := by
  rw [(drainNoticed_keeps s b slot limit).drains]
  exact drainBegun_drain s slot b limit

/-- A handover into the base that is not yet switching ends with reason DRAIN (R126). -/
theorem drainNoticed_released {h : Handover} (hr : s.calls[c].handover = some h) (ht : h.target = b)
    (hw : h.state ≠ .switching) :
    ∃ hold, (s.drainNoticed slot b limit).calls[c] = { s.calls[c].released .drain with hold := hold } := by
  refine attemptsEnd_released (s := s.drainBegun slot b limit) (mem_handoversWhere.mpr ⟨h, hr, ?_⟩) hr
  rw [ht, beq_self_eq_true, Bool.true_and, bne_iff_ne]
  exact hw

end

theorem drainCheck_of_none (hd : s.drains[b] = some d) (h : s.servedBy b = []) :
    s.drainCheck b = s.drainComplete b d 0 := by
  rw [State.drainCheck, hd]
  exact if_pos (List.isEmpty_iff.mpr h)

/-- Everything that the check of a drain can do (R135). -/
theorem drainCheck_cases (s : State) (b : BaseNo) :
    s.drainCheck b = s ∨ ∃ d, s.drainCheck b = s.drainComplete b d 0 := by
  unfold State.drainCheck
  split
  · split
    · exact .inr ⟨_, rfl⟩
    · exact .inl rfl
  · exact .inl rfl

/-- A drain of a base that serves no call completes at once (R133 step 5). -/
theorem startDrain_of_none (slot : SlotNo) (limit : Nat) (h : s.servedBy b = []) :
    s.startDrain slot b limit = (s.drainNoticed slot b limit).drainComplete b (s.newDrain slot limit) 0 := by
  have hnone := drainNoticed_servedBy_nil s b slot limit h
  have hoffer : (s.drainNoticed slot b limit).offerDrainMoves b = s.drainNoticed slot b limit := by
    rw [State.offerDrainMoves, hnone, List.foldl_nil]
  rw [startDrain_eq, hoffer, drainCheck_of_none (drainNoticed_drain s b slot limit) hnone]

/-- A drain of a base that serves a call goes on (R133). -/
theorem startDrain_of_some (slot : SlotNo) (limit : Nat) (hl : callLive s.calls[c].state = true)
    (hb : s.calls[c].base = b) : s.startDrain slot b limit = (s.drainNoticed slot b limit).offerDrainMoves b := by
  obtain ⟨hlive, hbase⟩ := drainNoticed_call s b slot limit c
  obtain ⟨hlive', hbase'⟩ := (offerDrainMoves_offers (s.drainNoticed slot b limit) b).live c (hlive.trans hl)
  exact drainCheck_of_serving hlive' (hbase'.trans (hbase.trans hb))

/-- A handover into the base of another base's call is gone once the drain has started (R126). -/
theorem startDrain_released (slot : SlotNo) (limit : Nat) {h : Handover} (hr : s.calls[c].handover = some h)
    (ht : h.target = b) (hw : h.state ≠ .switching) (hb : s.calls[c].base ≠ b) :
    (s.startDrain slot b limit).calls[c].handover = none ∧
      (s.startDrain slot b limit).calls[c].lastAbort = some .drain := by
  obtain ⟨hold, he⟩ := drainNoticed_released s b slot limit hr ht hw
  have hfar : c ∉ (s.drainNoticed slot b limit).servedBy b := fun hm =>
    hb (mem_servedBy.mp ((mem_servedBy_drainNoticed s b slot limit).mp hm)).2
  have hoffer := (offerDrainMoves_call_of_elsewhere hfar).trans he
  rw [startDrain_eq]
  rcases drainCheck_cases ((s.drainNoticed slot b limit).offerDrainMoves b) b with e | ⟨d, e⟩
  · rw [e, hoffer]
    exact ⟨rfl, rfl⟩
  · rw [e, drainComplete_call_of_idle b d 0 (by rw [hoffer]; rfl), hoffer]
    exact ⟨rfl, rfl⟩

/-- What a drain that goes on leaves: the base DRAINING with LINK raised and a fresh record, and every other service
state as it was (R133). -/
theorem startDrain_goesOn (slot : SlotNo) (limit : Nat) (hl : callLive s.calls[c].state = true)
    (hb : s.calls[c].base = b) :
    (∀ x : BaseNo, (s.startDrain slot b limit).service x = if b = x then .draining else s.service x) ∧
      (s.startDrain slot b limit).acu.basePending[b] &&& attnLink = attnLink ∧
      ∃ n, (s.startDrain slot b limit).drains[b] = some { s.newDrain slot limit with attempts := n } := by
  have hkept := drainNoticed_keeps s b slot limit
  have hoffers := offerDrainMoves_offers (s.drainNoticed slot b limit) b
  rw [startDrain_of_some slot limit hl hb]
  refine ⟨fun x => ?_, hoffers.raised b (hkept.raised b ?_), hoffers.record b _ (drainNoticed_drain s b slot limit)⟩
  · rw [hoffers.service, hkept.service, State.service, drainBegun_link]
    split <;> rfl
  · have hbits : (s.drainBegun slot b limit).acu.basePending[b] = s.acu.basePending[b] ||| attnLink :=
      (getElem_set_fin _ _ _ _).trans (if_pos rfl)
    rw [hbits]
    exact or_and_added _ _

/-! ### The drain limit (R137) -/

/-- The end of a call of a base that is being cleared counts a cleared call where the base is DRAINING, and completes
nothing (R135, R137). -/
theorem endCall_of_clearing (hl : callLive s.calls[c].state = true) (hb : s.calls[c].base = b)
    (hd : s.drains[b] = some d) (hp : d.phase = .clearing) (r : EndReason) :
    s.endCall c r =
      if s.service b = .draining then (s.callEndActions c r).setDrain b (some { d with cleared := satSucc d.cleared })
      else s.callEndActions c r := by
  have hkept : KeepsService s (s.callEndActions c r) := (KeepsService.refl s).callEndActions
  have hd' : (s.callEndActions c r).drains[b] = some d := by rw [hkept.drains]; exact hd
  rw [State.endCall, if_pos hl, hb]
  dsimp only
  rw [(notices_of_clearing hd' hp).2]

/-- The calls `l` of base `b`, whose drain record `d` is CLEARING, have ended with reason `r`: nothing else of the call
table has changed, and where the base is DRAINING the record has counted them (R135, R137). -/
structure CallsCleared (s t : State) (b : BaseNo) (d : DrainRecord) (l : List CallNo) (r : EndReason) : Prop where
  ended   : ∀ c ∈ l, t.callOver c r
  others  : ∀ c : CallNo, c ∉ l → t.calls[c] = s.calls[c]
  service : t.service b = s.service b
  record  : ∃ n, t.drains[b] = some { d with cleared := n } ∧
    (s.service b = .draining → n = countUp l.length d.cleared)

theorem endCall_cleared (hl : callLive s.calls[c].state = true) (hb : s.calls[c].base = b)
    (hd : s.drains[b] = some d) (hp : d.phase = .clearing) (r : EndReason) :
    CallsCleared s (s.endCall c r) b d [c] r := by
  have hkept : KeepsService s (s.callEndActions c r) := (KeepsService.refl s).callEndActions
  have hover : ∀ x ∈ [c], (s.endCall c r).callOver x r := fun x hx => by
    rw [List.mem_singleton.mp hx]
    exact endCall_callOver hl r
  have hother : ∀ x : CallNo, x ∉ [c] → (s.callEndActions c r).calls[x] = s.calls[x] := fun x hx =>
    callEndActions_other s c r (List.ne_of_not_mem_cons hx)
  have hend := endCall_of_clearing hl hb hd hp r
  by_cases hv : s.service b = .draining
  · rw [if_pos hv] at hend
    refine ⟨hover, ?_, ?_, satSucc d.cleared, ?_, fun _ => rfl⟩ <;> rw [hend]
    · exact hother
    · exact hkept.service b
    · exact (setDrain_get _ _ _ _).trans (if_pos rfl)
  · rw [if_neg hv] at hend
    refine ⟨hover, ?_, ?_, d.cleared, ?_, fun h => absurd h hv⟩ <;> rw [hend]
    · exact hother
    · exact hkept.service b
    · rw [hkept.drains]
      exact hd

theorem endCalls_cleared (hn : l.Nodup) (hl : ∀ c ∈ l, callLive s.calls[c].state = true ∧ s.calls[c].base = b)
    (hd : s.drains[b] = some d) (hp : d.phase = .clearing) (r : EndReason) :
    CallsCleared s (l.foldl (fun t c => t.endCall c r) s) b d l r := by
  induction l generalizing s d with
  | nil => exact ⟨nofun, fun _ _ => rfl, rfl, d.cleared, hd, fun _ => rfl⟩
  | cons c l ih =>
    obtain ⟨hc, hn⟩ := List.nodup_cons.mp hn
    obtain ⟨hlive, hbase⟩ := hl c List.mem_cons_self
    have hone := endCall_cleared hlive hbase hd hp r
    have hsame : ∀ x ∈ l, (s.endCall c r).calls[x] = s.calls[x] := fun x hx =>
      hone.others x fun hm => hc (List.mem_singleton.mp hm ▸ hx)
    obtain ⟨n, hrec, hcount⟩ := hone.record
    have hrest := ih hn (fun x hx => by rw [hsame x hx]; exact hl x (List.mem_cons_of_mem c hx)) hrec hp
    obtain ⟨m, hrec', hcount'⟩ := hrest.record
    refine ⟨fun x hx => ?_, fun x hx => ?_, hrest.service.trans hone.service, m, hrec', fun hv => ?_⟩
    · by_cases hxl : x ∈ l
      · exact hrest.ended x hxl
      · have hxc : x = c := (List.mem_cons.mp hx).resolve_right hxl
        exact (hone.ended x (List.mem_singleton.mpr hxc)).of_entry (hrest.others x hxl)
    · rw [List.mem_cons, not_or] at hx
      exact (hrest.others x hx.2).trans (hone.others x fun hm => hx.1 (List.mem_singleton.mp hm))
    · rw [hcount' (hone.service.trans hv), hcount hv]
      exact countUp_satSucc l.length d.cleared

/-- The calls of a base that is cleared at its drain's limit have ended DRAINED, and it serves none (R137). -/
theorem endServed_cleared (s : State) (b : BaseNo) (d : DrainRecord) :
    CallsCleared s ((s.setDrain b (some { d with phase := .clearing })).endServed b .drained) b
      { d with phase := .clearing } (s.servedBy b) .drained := by
  have hd' : (s.setDrain b (some { d with phase := .clearing })).drains[b] = some { d with phase := .clearing } :=
    (setDrain_get s b b _).trans (if_pos rfl)
  obtain ⟨hended, hothers, hservice, hrecord⟩ := endCalls_cleared (l := s.servedBy b)
    (s := s.setDrain b (some { d with phase := .clearing })) (indicesWhere_nodup _ _)
    (fun c hc => mem_servedBy.mp hc) hd' rfl .drained
  exact ⟨hended, hothers, hservice, hrecord⟩

theorem CallsCleared.servedBy (h : CallsCleared s t b d (s.servedBy b) r) : t.servedBy b = [] := by
  refine List.eq_nil_iff_forall_not_mem.mpr fun c hc => ?_
  obtain ⟨hl, hb⟩ := mem_servedBy.mp hc
  by_cases hm : c ∈ s.servedBy b
  · obtain ⟨hended, -⟩ := h.ended c hm
    rw [hended] at hl
    cases hl
  · rw [h.others c hm] at hl hb
    exact hm (mem_servedBy.mpr ⟨hl, hb⟩)

theorem servedBy_length (s : State) (b : BaseNo) : (s.servedBy b).length ≤ 65535 := by
  have h := (indicesWhere_nodup s.calls fun e => callLive e.state && e.base == b).length_le_card
  rw [Fintype.card_fin] at h
  exact h.trans (by decide)

/-- A drain at its limit completes once its base is cleared, with the number of calls cleared (R137). -/
theorem clearDrain_completes (s : State) (b : BaseNo) (d : DrainRecord) :
    ∃ t n, CallsCleared s t b { d with phase := .clearing } (s.servedBy b) .drained ∧
      s.clearDrain b d = t.drainComplete b { d with phase := .clearing, cleared := n } n ∧
      (s.service b = .draining → d.cleared = 0 → n = (s.servedBy b).length) := by
  have h := endServed_cleared s b d
  obtain ⟨n, hn, hcount⟩ := h.record
  refine ⟨_, n, h, ?_, fun hv hd => ?_⟩
  · rw [State.clearDrain, hn]
  · rw [hcount hv, hd, countUp_zero (servedBy_length s b)]

/-! ### DRAIN BASE and its answers (R133) -/

theorem takeDrainBase_of_serving (hv : s.service b = .serving) (slot : SlotNo) (limit : Nat) :
    s.takeDrainBase slot b limit = s.startDrain slot b limit := by
  rw [State.takeDrainBase, hv]

theorem takeDrainBase_of_draining (hv : s.service b = .draining) (slot : SlotNo) (limit : Nat) :
    s.takeDrainBase slot b limit = s.handBack slot ⟨.state .busy, 0, []⟩ := by
  rw [State.takeDrainBase, hv]
  rfl

theorem takeDrainBase_of_off (hd : s.service b ≠ .draining) (hs : s.service b ≠ .serving) (slot : SlotNo)
    (limit : Nat) : s.takeDrainBase slot b limit = s.handBack slot ⟨.state .noService, 0, []⟩ := by
  rw [State.takeDrainBase]
  cases hv : s.service b with
  | serving => exact absurd hv hs
  | draining => exact absurd hv hd
  | absent | joining | stopped => rfl

theorem drainData_newDrain (s : State) (slot : SlotNo) (limit : Nat) :
    drainData (s.newDrain slot limit) = [0, 0, 0, 0, 0, 0, 0, 0] := by
  change le16 0 ++ le16 0 ++ le16 0 ++ le16 0 = _
  decide

theorem newDrain_limit (s : State) (slot : SlotNo) (limit : BitVec 16) :
    (s.newDrain slot limit.toNat).limit = if limit = 0 then none else some (s.after limit.toNat) := by
  rw [State.newDrain]
  by_cases h : limit = 0
  · rw [if_pos h, h]
    rfl
  · have hpos : 0 < limit.toNat := Nat.pos_of_ne_zero fun e => h (BitVec.eq_of_toNat_eq e)
    rw [if_neg h]
    exact if_pos hpos

/-- Settles O39: the completion of a drain by its parts, its start by the calls its base serves, and its limit by the
calls cleared. -/
theorem drainOfABase : Obligations.DrainOfABase := by
  refine ⟨fun _ _ _ => rfl, fun s b => ⟨fun c => mem_servedBy, indicesWhere_ascending _ _⟩, ?_, ?_, ?_⟩
  · rintro b d n s u rfl
    obtain ⟨hwire, hbits⟩ := drainComplete_sent s b d n
    exact ⟨drainComplete_link s b d n, (drainComplete_gone s b d n).2, hwire, hbits, drainComplete_withdrawn d n,
      drainComplete_queue s b d n⟩
  · intro slot b limit s ho
    rw [exec_drainBase, takeOrder_of_offers ho]
    refine ⟨fun hv => ?_, fun hd hv => ?_, fun hv => ?_⟩
    · rw [takeDrainBase_of_draining (s := s.undispatched) hv]
    · rw [takeDrainBase_of_off (s := s.undispatched) hd hv]
    · rw [takeDrainBase_of_serving (s := s.undispatched) hv]
      refine ⟨_, rfl, fun c r hr ht hw hb => startDrain_released (s := s.undispatched) slot _ hr ht hw hb,
        fun ⟨c, hl, hb⟩ => ?_, fun hnone => ?_⟩
      · obtain ⟨hservice, hbit, n, hrec⟩ := startDrain_goesOn (s := s.undispatched) slot limit.toNat hl hb
        exact ⟨(hservice b).trans (if_pos rfl), hbit, ⟨_, hrec, rfl, rfl, rfl, rfl, rfl, newDrain_limit s slot limit⟩,
          fun x hx => (hservice x).trans (if_neg (Ne.symm hx))⟩
      · have hserved : s.undispatched.servedBy b = [] :=
          List.eq_nil_iff_forall_not_mem.mpr fun c hc => hnone c (mem_servedBy.mp hc)
        have hdone := drainComplete_outcome (s.undispatched.newDrain slot limit.toNat) 0
          (drainNoticed_servedBy_nil _ b slot limit.toNat hserved)
        rw [drainData_newDrain] at hdone
        rw [startDrain_of_none slot _ hserved]
        exact hdone
  · intro b d s hs hd hlimit
    obtain ⟨t, n, hcleared, hclear, hcount⟩ := clearDrain_completes s b d
    have hex : exec (.drainLimitExpiry b) s =
        .next (t.drainComplete b { d with phase := .clearing, cleared := n } n).settle := by
      rw [exec_drainLimitExpiry, whileServing_of hs, State.takeDrainLimit, hd]
      dsimp only
      rw [if_pos ((isDue_iff s _).mpr hlimit), hclear]
    obtain ⟨hservice, hdrain, hwithdrawn, hwire, hbits, l, hqueue⟩ :=
      drainComplete_outcome { d with phase := .clearing, cleared := n } n hcleared.servedBy
    refine ⟨_, hex, hservice, hdrain, hwithdrawn, hwire, hbits, fun c hl hb => ?_, l, n, hqueue, hcount⟩
    obtain ⟨hended, hreason, -⟩ := (hcleared.ended c (mem_servedBy.mpr ⟨hl, hb⟩)).drainComplete
    exact ⟨hended, hreason⟩

end Sys2Proof.Machine
end

section
/-! SUPPORT. A withdrawal in whatever state it is taken (R139), and the STOP BASE and START BASE orders (R140, R141):
O40. -/

namespace Sys2Proof.Machine

open Sys2Proof

variable {s t u : State} {b : BaseNo} {c : CallNo} {d : DrainRecord} {l : List CallNo} {r : EndReason}

/-! ### The calls of a withdrawn base end (R139 step 2) -/

/-- A call goes on: it is in progress after as before, and at the same base. -/
def CallGoesOn (s t : State) (c : CallNo) : Prop :=
  callLive t.calls[c].state = callLive s.calls[c].state ∧ t.calls[c].base = s.calls[c].base

theorem CallGoesOn.refl (s : State) (c : CallNo) : CallGoesOn s s c := ⟨rfl, rfl⟩

theorem CallGoesOn.trans (h : CallGoesOn s t c) (k : CallGoesOn t u c) : CallGoesOn s u c :=
  ⟨k.1.trans h.1, k.2.trans h.2⟩

theorem CallGoesOn.of_calls (h : t.calls[c] = s.calls[c]) : CallGoesOn s t c := by
  rw [CallGoesOn, h]
  exact ⟨rfl, rfl⟩

theorem withdrawTail_goesOn (s : State) (b : BaseNo) (c : CallNo) : CallGoesOn s (s.withdrawTail b) c := by
  rw [CallGoesOn, withdrawTail_call]
  exact attemptsEnd_call s _ .targetLost c

theorem drainComplete_goesOn (s : State) (b : BaseNo) (d : DrainRecord) (n : Nat) (c : CallNo) :
    CallGoesOn s (s.drainComplete b d n) c := by
  rw [CallGoesOn, drainComplete_calls]
  exact withdrawTail_goesOn (s.enterStopped b _) b c

/-- Everything that the notice of a call's end can do (R135). -/
theorem callEndNotice_cases (s : State) (b : BaseNo) :
    s.callEndNotice b = s ∨ ∃ d, s.callEndNotice b = s.setDrain b d ∨
      ∃ e, s.callEndNotice b = (s.setDrain b d).drainComplete b e 0 := by
  unfold State.callEndNotice
  split
  · next d _ =>
    split
    · rcases drainCheck_cases (s.setDrain b (some { d with ended := satSucc d.ended })) b with e | ⟨x, e⟩
      · exact .inr ⟨_, .inl e⟩
      · exact .inr ⟨_, .inr ⟨x, e⟩⟩
    · exact .inr ⟨_, .inl rfl⟩
  · exact .inl rfl

theorem callEndNotice_goesOn (s : State) (b : BaseNo) (c : CallNo) : CallGoesOn s (s.callEndNotice b) c := by
  rcases callEndNotice_cases s b with e | ⟨d, e | ⟨x, e⟩⟩ <;> rw [e]
  · exact .refl s c
  · exact .refl s c
  · exact drainComplete_goesOn (s.setDrain b d) b x 0 c

/-- The end of a call leaves every other call in progress where it was (R66). -/
theorem endCall_goesOn {x : CallNo} (h : c ≠ x) (s : State) (r : EndReason) : CallGoesOn s (s.endCall x r) c := by
  have ho : CallGoesOn s (s.callEndActions x r) c := .of_calls (callEndActions_other s x r h)
  unfold State.endCall
  split
  · dsimp only
    split
    · exact ho.trans (callEndNotice_goesOn _ _ c)
    · exact ho
  · exact .refl s c

/-- A call that has ended stays ENDED where others end (R67). -/
theorem State.callOver.endCall {x : CallNo} {v : EndReason} (h : s.callOver c r) : (s.endCall x v).callOver c r := by
  by_cases hl : callLive s.calls[x].state = true
  · have hx : c ≠ x := by
      rintro rfl
      rw [h.1] at hl
      cases hl
    have ha : (s.callEndActions x v).callOver c r := h.of_entry (callEndActions_other s x v hx)
    rw [State.endCall, if_pos hl]
    dsimp only
    split
    · exact ha.callEndNotice
    · exact ha
  · rwa [endCall_of_not_live (Bool.eq_false_iff.mpr hl)]

theorem endCalls_goesOn (h : c ∉ l) : CallGoesOn s (l.foldl (fun t x => t.endCall x r) s) c := by
  refine List.foldlRecOn (motive := fun v => CallGoesOn s v c) l _ (.refl s c) fun v hv x hx => ?_
  exact hv.trans (endCall_goesOn (fun e : c = x => h (e ▸ hx)) v r)

theorem endCalls_callOver (hc : c ∈ l) (hl : callLive s.calls[c].state = true) :
    (l.foldl (fun t x => t.endCall x r) s).callOver c r := by
  induction l generalizing s with
  | nil => cases hc
  | cons x l ih =>
    by_cases h : c = x
    · subst h
      exact (endCall_callOver hl r).foldl (fun hv => hv.endCall) l
    · refine ih ((List.mem_cons.mp hc).resolve_left h) ?_
      rw [(endCall_goesOn h s r).1]
      exact hl

theorem endServed_callOver (hl : callLive s.calls[c].state = true) (hb : s.calls[c].base = b) :
    (s.endServed b r).callOver c r := endCalls_callOver (mem_servedBy.mpr ⟨hl, hb⟩) hl

/-- Once the calls of a base have ended it serves none (R139 step 2). -/
theorem endServed_servedBy (s : State) (b : BaseNo) (r : EndReason) : (s.endServed b r).servedBy b = [] := by
  refine List.eq_nil_iff_forall_not_mem.mpr fun c hc => ?_
  obtain ⟨hl, hb⟩ := mem_servedBy.mp hc
  by_cases hm : c ∈ s.servedBy b
  · have hover : (s.endServed b r).callOver c r := endCalls_callOver hm (mem_servedBy.mp hm).1
    rw [hover.1] at hl
    cases hl
  · obtain ⟨el, eb⟩ : CallGoesOn s (s.endServed b r) c := endCalls_goesOn hm
    exact hm (mem_servedBy.mpr ⟨el.symm.trans hl, eb.symm.trans hb⟩)

/-- After a withdrawal the base serves, awaits and neighbours no call, and holds no channel (R139). -/
theorem withdraw_withdrawn (s : State) (b : BaseNo) (r : EndReason) : (s.withdraw b r).withdrawn b :=
  withdrawTail_withdrawn (endServed_servedBy s b r)

/-- The calls that a withdrawn base served have ended with the reason given (R139). -/
theorem withdraw_callOver (hl : callLive s.calls[c].state = true) (hb : s.calls[c].base = b) :
    (s.withdraw b r).callOver c r := (endServed_callOver hl hb).withdrawTail

/-! ### What the part transmits goes on -/

namespace SendsOn

theorem unbindCall {h : HandsetNo} (k : SendsOn s t) : SendsOn s (t.unbindCall h) := by
  unfold State.unbindCall
  split
  · exact k.same rfl rfl
  · exact k

theorem endRecord (h : SendsOn s t) : SendsOn s (t.endRecord c) := by
  unfold State.endRecord
  split
  · exact h
  · dsimp only
    split
    · exact h.dropBatch.send.bumpBase.updCall.updCall.markCall.answerMove
    · exact h.dropBatch.updCall.updCall.markCall.answerMove

theorem releaseServing (h : SendsOn s t) : SendsOn s (t.releaseServing c r) := by
  unfold State.releaseServing
  split
  · exact h.send
  · exact h

theorem countLost (h : SendsOn s t) : SendsOn s (t.countLost r) := by
  unfold State.countLost
  split
  · exact h.same rfl rfl
  · exact h

theorem callEndActions (h : SendsOn s t) : SendsOn s (t.callEndActions c r) := by
  have hf : SendsOn s (((t.endRecord c).releaseServing c r).freeChannelsOf c) := h.endRecord.releaseServing.same rfl rfl
  exact hf.updCall.updCall.unbindCall.updCall.markCall.countLost

end SendsOn

theorem drainComplete_wire (s : State) (b : BaseNo) (d : DrainRecord) (n : Nat) :
    s.wire <+: (s.drainComplete b d n).wire :=
  List.IsPrefix.trans (l₂ := (s.enterStopped b (attnLink ||| attnDrained)).wire) ⟨_, rfl⟩
    (SendsOn.refl _).withdrawTail.setDrain.handBack.wire

theorem callEndNotice_wire (s : State) (b : BaseNo) : s.wire <+: (s.callEndNotice b).wire := by
  rcases callEndNotice_cases s b with e | ⟨d, e | ⟨x, e⟩⟩
  · rw [e]
  · rw [e]
    rfl
  · rw [e]
    exact drainComplete_wire (s.setDrain b d) b x 0

theorem endCall_wire (s : State) (c : CallNo) (r : EndReason) : s.wire <+: (s.endCall c r).wire := by
  have ha : s.wire <+: (s.callEndActions c r).wire := (SendsOn.refl s).callEndActions.wire
  unfold State.endCall
  split
  · dsimp only
    split
    · exact ha.trans (callEndNotice_wire _ _)
    · exact ha
  · exact ⟨[], List.append_nil _⟩

/-- A withdrawal takes back nothing that has been transmitted. -/
theorem withdraw_wire (s : State) (b : BaseNo) (r : EndReason) : s.wire <+: (s.withdraw b r).wire := by
  refine List.IsPrefix.trans ?_ (SendsOn.refl (s.endServed b r)).withdrawTail.wire
  exact List.foldlRecOn (motive := fun v : State => s.wire <+: v.wire) _ _ (⟨[], List.append_nil _⟩)
    fun v hv x _ => hv.trans (endCall_wire v x r)

/-! ### STOP BASE (R140) -/

/-- The state with base `b` STOPPED and its drain, if any, answered, before the withdrawal (R140). -/
def State.stopEntered (s : State) (b : BaseNo) : State := (s.failDrain b .stopped).enterStopped b attnLink

/-- The state with base `b` STOPPED and withdrawn, before the STOP BASE order is answered (R140). -/
def State.stopWithdrawn (s : State) (b : BaseNo) : State := (s.stopEntered b).withdraw b .stopped

theorem takeStopBase_eq (s : State) (slot : SlotNo) (b : BaseNo) :
    s.takeStopBase slot b = (s.stopWithdrawn b).handBack slot ⟨.done .ok, (s.servedBy b).length, []⟩ := rfl

theorem failDrain_calls (s : State) (b : BaseNo) (f : FailCode) : (s.failDrain b f).calls = s.calls := by
  unfold State.failDrain
  split
  · exact handBack_calls _ _ _
  · rfl

theorem stopEntered_calls (s : State) (b : BaseNo) : (s.stopEntered b).calls = s.calls := failDrain_calls s b .stopped

theorem stopEntered_service (s : State) (b : BaseNo) : (s.stopEntered b).service b = .stopped := by
  rw [State.service, State.stopEntered, enterStopped_links, getElem_set_fin, if_pos rfl]

/-- The withdrawal of a STOPPED base leaves its link and its drain record alone. -/
theorem stopWithdrawn_work (s : State) (b : BaseNo) : EndsDrains (s.stopEntered b) (s.stopWithdrawn b) :=
  (KeepsService.refl _).endsDrains.withdraw

/-- The base is STOPPED, and no drain of it is left (R140). -/
theorem stopWithdrawn_closed (s : State) (b : BaseNo) :
    (s.stopWithdrawn b).service b = .stopped ∧ (s.stopWithdrawn b).drains[b] = none := by
  have hoff : linkActive ((s.stopEntered b).service b) = false := by rw [stopEntered_service]; rfl
  obtain ⟨hl, hd⟩ := (stopWithdrawn_work s b).closed b hoff
  refine ⟨?_, hd.trans ?_⟩
  · rw [State.service, hl]
    exact stopEntered_service s b
  · have he : (s.stopEntered b).drains = (s.failDrain b .stopped).drains := rfl
    rw [he, failDrain_get, if_pos rfl]

/-- STOP is transmitted, and LINK is raised (R140). -/
theorem stopWithdrawn_sent (s : State) (b : BaseNo) :
    ⟨b, .stop⟩ ∈ (s.stopWithdrawn b).wire ∧ (s.stopWithdrawn b).acu.basePending[b] &&& attnLink = attnLink := by
  refine ⟨(withdraw_wire (s.stopEntered b) b .stopped).subset
    (List.mem_append_right _ (List.mem_singleton_self _)), (stopWithdrawn_work s b).raised b ?_⟩
  have hbits : (s.stopEntered b).acu.basePending[b] = (s.failDrain b .stopped).acu.basePending[b] ||| attnLink :=
    (getElem_set_fin _ _ _ _).trans (if_pos rfl)
  rw [hbits]
  exact or_and_added _ _

/-- A drain in flight on the base is answered before anything else (R140 step 1). -/
theorem stopWithdrawn_queue (hd : s.drains[b] = some d) :
    s.oru.queue ++ [.resultWrite d.slot ⟨.failed .stopped, (s.servedBy b).length, drainData d⟩,
      .answeredWrite d.slot] <+: (s.stopWithdrawn b).oru.queue := by
  have hq : (s.stopEntered b).oru.queue = s.oru.queue ++
      [.resultWrite d.slot ⟨.failed .stopped, (s.servedBy b).length, drainData d⟩, .answeredWrite d.slot] := by
    change (s.failDrain b .stopped).oru.queue = _
    rw [State.failDrain, hd]
    exact handBack_queue (s.setDrain b none) _ _
  rw [← hq]
  exact (stopWithdrawn_work s b).asks

theorem stopWithdrawn_withdrawn (s : State) (b : BaseNo) : (s.stopWithdrawn b).withdrawn b :=
  withdraw_withdrawn (s.stopEntered b) b .stopped

theorem stopWithdrawn_callOver (hl : callLive s.calls[c].state = true) (hb : s.calls[c].base = b) :
    (s.stopWithdrawn b).callOver c .stopped := by
  have hc := stopEntered_calls s b
  exact withdraw_callOver (s := s.stopEntered b) (by rwa [hc]) (by rwa [hc])

theorem handBack_withdrawn {i : SlotNo} {x : OrderResult} (h : s.withdrawn b) : (s.handBack i x).withdrawn b := by
  unfold State.withdrawn State.chan at h ⊢
  rwa [handBack_calls, handBack_chans]

/-- Settles O40: STOP BASE by its steps, START BASE by the state of the link. -/
theorem stopAndStartBaseOrders : Obligations.StopAndStartBaseOrders := by
  refine fun slot b s => ⟨fun ho => ?_, fun ho => ⟨fun hv => ?_, fun hv => ?_⟩⟩
  · obtain ⟨hservice, hdrain⟩ := stopWithdrawn_closed s.undispatched b
    obtain ⟨hwire, hbit⟩ := stopWithdrawn_sent s.undispatched b
    refine ⟨(s.undispatched.stopWithdrawn b).handBack slot ⟨.done .ok, (s.servedBy b).length, []⟩, ?_, ?_, ?_,
      handBack_withdrawn (stopWithdrawn_withdrawn s.undispatched b), fun c hl hb => ?_, ?_, ?_,
      ⟨_, handBack_queue _ _ _⟩, fun d hd => ?_⟩
    · rw [exec_stopBase, takeOrder_of_offers ho, takeStopBase_eq]
      rfl
    · rw [State.service, handBack_links]
      exact hservice
    · rw [handBack_drains]
      exact hdrain
    · obtain ⟨hstate, hreason, -⟩ := stopWithdrawn_callOver (s := s.undispatched) hl hb
      rw [handBack_calls]
      exact ⟨hstate, hreason⟩
    · rw [handBack_wire]
      exact hwire
    · rw [handBack_acu]
      exact hbit
    · obtain ⟨l, hl⟩ := stopWithdrawn_queue (s := s.undispatched) hd
      rw [handBack_queue, ← hl, List.append_assoc]
      exact ⟨_, rfl⟩
  · rw [exec_startBase, takeOrder_of_offers ho, State.takeStartBase]
    exact congrArg (fun v : State => Host.Outcome.next v.scanOn.settle) (if_pos hv)
  · rw [exec_startBase, takeOrder_of_offers ho, State.takeStartBase]
    exact congrArg (fun v : State => Host.Outcome.next v.scanOn.settle) (if_neg hv)

end Sys2Proof.Machine
end

section
/-! SUPPORT. The laws of O41 entry by entry: what the channel map and the entry of a call say of each other (R56, R58),
and the tables that these laws and the law of start-up read (R90, R160). -/

namespace Sys2Proof.Machine

open Sys2Proof

variable {s t u : State} {c d : CallNo} {b : BaseNo} {k j : ChanNo} {off : List BaseNo} {r : Handover}

/-! ### The seat of a call: its serving channel and the channel its record names -/

/-- The serving channel of call `c` as its entry has it: LEAVING while its record is SWITCHING, else HELD (R56). -/
def Call.servingChan (c : CallNo) (e : Call) : Chan :=
  match e.handover with
  | some r => if r.state = .switching then .leaving c else .held c
  | none => .held c

/-- The entry of a call in progress claims its serving channel, and a record the channel it names (R56). -/
def Call.claims (e : Call) (b : BaseNo) (k : ChanNo) : Prop :=
  (callLive e.state = true ∧ e.base = b ∧ e.channel = k) ∨
    ∃ r, e.handover = some r ∧ r.target = b ∧ r.channel = some k

/-- A channel map and the entry of call `c` agree: the map gives the call what its entry claims, and nothing else. -/
structure Seated (m : BaseNo → ChanNo → Chan) (c : CallNo) (e : Call) : Prop where
  serving : callLive e.state = true → m e.base e.channel = e.servingChan c
  record  : ∀ r, e.handover = some r → e.state = .moving ∧ ∃ j, r.channel = some j ∧ m r.target j = .reserved c r.tag
  only    : ∀ b k, chanNames c (m b k) = true → e.claims b k

theorem servingChan_of_switching {e : Call} (hr : e.handover = some r) (hs : r.state = .switching) :
    e.servingChan c = .leaving c := by
  rw [Call.servingChan, hr]
  exact if_pos hs

theorem servingChan_of_staying {e : Call} (h : ∀ r, e.handover = some r → r.state ≠ .switching) :
    e.servingChan c = .held c := by
  unfold Call.servingChan
  split
  · next r hr => exact if_neg (h r hr)
  · rfl

theorem servingChan_of_none {e : Call} (h : e.handover = none) : e.servingChan c = .held c := by
  rw [Call.servingChan, h]

theorem servingChan_cases (c : CallNo) (e : Call) :
    (e.servingChan c = .held c ∧ ∀ r, e.handover = some r → r.state ≠ .switching) ∨
      (e.servingChan c = .leaving c ∧ ∃ r, e.handover = some r ∧ r.state = .switching) := by
  by_cases h : ∃ r, e.handover = some r ∧ r.state = .switching
  · obtain ⟨r, hr, hs⟩ := h
    exact .inr ⟨servingChan_of_switching hr hs, r, hr, hs⟩
  · have hn : ∀ r, e.handover = some r → r.state ≠ .switching := fun r hr hs => h ⟨r, hr, hs⟩
    exact .inl ⟨servingChan_of_staying hn, hn⟩

/-- A channel in use names a call. -/
theorem chanInUse_iff {v : Chan} : chanInUse v = true ↔ ∃ c, chanNames c v = true := by
  cases v <;> simp [chanInUse, chanNames]

/-- A channel not in use is FREE or BLOCKED. -/
theorem free_or_blocked_of_idle {v : Chan} (h : chanInUse v = false) : v = .free ∨ v = .blocked := by
  cases v with
  | free => exact .inl rfl
  | blocked => exact .inr rfl
  | held x | leaving x | reserved x g => cases h

namespace Seated

variable {m m' : BaseNo → ChanNo → Chan} {e e' : Call}

/-- The agreement reads four fields of the entry. -/
theorem of_same (h : Seated m c e) (hs : e'.state = e.state) (hb : e'.base = e.base) (hk : e'.channel = e.channel)
    (hr : e'.handover = e.handover) : Seated m c e' where
  serving := by
    rw [hs, hb, hk, Call.servingChan, hr]
    exact h.serving
  record := by
    rw [hs, hr]
    exact h.record
  only := by
    unfold Call.claims
    rw [hs, hb, hk, hr]
    exact h.only

/-- An entry that is not in progress, without a record, claims nothing. -/
theorem of_unnamed (hl : callLive e.state = false) (hr : e.handover = none)
    (hm : ∀ b k, chanNames c (m b k) = false) : Seated m c e where
  serving h := absurd (hl.symm.trans h) (by decide)
  record r h := by
    rw [hr] at h
    cases h
  only b k h := absurd ((hm b k).symm.trans h) (by decide)

/-- An entry that is not in progress is named nowhere (R56). -/
theorem unnamed (h : Seated m c e) (hl : callLive e.state = false) (b : BaseNo) (k : ChanNo) :
    chanNames c (m b k) = false := by
  refine Bool.eq_false_iff.mpr fun hn => ?_
  rcases h.only b k hn with ⟨hx, -⟩ | ⟨r, hr, -⟩
  · rw [hl] at hx
    cases hx
  · rw [(h.record r hr).1] at hl
    cases hl

theorem no_record (h : Seated m c e) (hm : e.state ≠ .moving) : e.handover = none :=
  Option.eq_none_iff_forall_ne_some.mpr fun r hr => hm (h.record r hr).1

theorem live_of_record (h : Seated m c e) (hr : e.handover = some r) : callLive e.state = true := by
  rw [(h.record r hr).1]
  rfl

/-- A call without a record, in progress or not, has its serving channel HELD and no other. -/
theorem of_held (hl : callLive e.state = true) (hr : e.handover = none) (hs : m e.base e.channel = .held c)
    (hm : ∀ b k, chanNames c (m b k) = true → e.base = b ∧ e.channel = k) : Seated m c e where
  serving _ := by
    rw [hs, servingChan_of_none hr]
  record r h := by
    rw [hr] at h
    cases h
  only b k h := .inl ⟨hl, hm b k h⟩

/-- The record changes, but not what it names, nor whether it is SWITCHING. -/
theorem changeRecord {f : Handover → Handover} (h : Seated m c e)
    (hf : ∀ r, e.handover = some r → (f r).target = r.target ∧ (f r).channel = r.channel ∧ (f r).tag = r.tag ∧
      ((f r).state = .switching ↔ r.state = .switching)) :
    Seated m c { e with handover := e.handover.map f } := by
  cases hr : e.handover with
  | none => exact h.of_same rfl rfl rfl (by rw [hr]; rfl)
  | some r =>
    obtain ⟨ht, hj, hg, hs⟩ := hf r hr
    refine ⟨fun hl => ?_, fun q hq => ?_, fun b k hn => ?_⟩
    · rw [h.serving hl, Call.servingChan, Call.servingChan, hr]
      exact (if_congr hs rfl rfl).symm
    · cases hq
      rw [ht, hj, hg]
      exact h.record r hr
    · refine (h.only b k hn).imp id fun ⟨q, hq, hqt, hqj⟩ => ?_
      rw [hr] at hq
      cases hq
      exact ⟨f r, rfl, ht.trans hqt, hj.trans hqj⟩

end Seated

/-- The law of the channel map, call by call (R56, R58, R90). -/
theorem channelsOk_iff : s.channelsOk ↔
    (∀ c : CallNo, Seated s.chan c s.calls[c]) ∧
      (∀ (b : BaseNo) (k : ChanNo), chanInUse (s.chan b k) = true → k.val < s.links[b].effCount ∧ s.inService b) ∧
      ∀ (c : CallNo) (n : Neighbour), n ∈ s.calls[c].neighbours → s.inService n.base := by
  constructor
  · rintro ⟨hchan, hlive, hrec, hset⟩
    have hpos : ∀ b k, s.channelOk b k := fun b k => (hchan b k).1
    refine ⟨fun c => ⟨fun hl => ?_, hrec c, fun b k hn => ?_⟩, fun b k => (hchan b k).2, hset⟩
    · have ho := hpos s.calls[c].base s.calls[c].channel
      unfold State.channelOk at ho
      rcases hlive c hl with e | e <;> rw [e] at ho ⊢
      · exact (servingChan_of_staying ho.2.2.2).symm
      · obtain ⟨-, -, -, r, hr, hs⟩ := ho
        exact (servingChan_of_switching hr hs).symm
    · have ho := hpos b k
      unfold State.channelOk at ho
      cases e : s.chan b k <;> rw [e] at hn ho
      case free | blocked => cases hn
      case held x | leaving x =>
        obtain rfl : x = c := by simpa [chanNames] using hn
        exact .inl ⟨ho.1, ho.2.1, ho.2.2.1⟩
      case reserved x g =>
        obtain rfl : x = c := by simpa [chanNames] using hn
        obtain ⟨r, hr, ht, hj, -⟩ := ho
        exact .inr ⟨r, hr, ht, hj⟩
  · rintro ⟨hseat, huse, hset⟩
    refine ⟨fun b k => ⟨?_, huse b k⟩, fun c hl => ?_, fun c => (hseat c).record, hset⟩
    · have only : ∀ c, chanNames c (s.chan b k) = true → s.calls[c].claims b k := fun c => (hseat c).only b k
      have reserved : ∀ {c r}, s.calls[c].handover = some r → r.target = b → r.channel = some k →
          s.chan b k = .reserved c r.tag := fun {c r} hr ht hj => by
        obtain ⟨-, i, hi, he⟩ := (hseat c).record r hr
        rw [hj] at hi
        cases hi
        rwa [ht] at he
      unfold State.channelOk
      cases e : s.chan b k with
      | free | blocked => trivial
      | held c =>
        rcases only c (by rw [e]; simp [chanNames]) with ⟨hl, hb, hk⟩ | ⟨r, hr, ht, hj⟩
        · have hs := (hseat c).serving hl
          rw [hb, hk, e] at hs
          rcases servingChan_cases c s.calls[c] with ⟨-, hn⟩ | ⟨he, -⟩
          · exact ⟨hl, hb, hk, hn⟩
          · rw [he] at hs
            cases hs
        · rw [reserved hr ht hj] at e
          cases e
      | leaving c =>
        rcases only c (by rw [e]; simp [chanNames]) with ⟨hl, hb, hk⟩ | ⟨r, hr, ht, hj⟩
        · have hs := (hseat c).serving hl
          rw [hb, hk, e] at hs
          rcases servingChan_cases c s.calls[c] with ⟨he, -⟩ | ⟨-, hn⟩
          · rw [he] at hs
            cases hs
          · exact ⟨hl, hb, hk, hn⟩
        · rw [reserved hr ht hj] at e
          cases e
      | reserved c g =>
        rcases only c (by rw [e]; simp [chanNames]) with ⟨hl, hb, hk⟩ | ⟨r, hr, ht, hj⟩
        · have hs := (hseat c).serving hl
          rw [hb, hk, e] at hs
          rcases servingChan_cases c s.calls[c] with ⟨he, -⟩ | ⟨he, -⟩ <;> rw [he] at hs <;> cases hs
        · rw [reserved hr ht hj] at e
          cases e
          exact ⟨r, hr, ht, hj, rfl⟩
    · rw [(hseat c).serving hl]
      rcases servingChan_cases c s.calls[c] with ⟨he, -⟩ | ⟨he, -⟩
      · exact .inl he
      · exact .inr he

/-! ### The tables that the laws read -/

/-- Of each link its service state and its effective channel count. -/
def State.stations (s : State) (b : BaseNo) : Service × Nat := (s.links[b].service, s.links[b].effCount)

/-- An access that the law of start-up names (R160). -/
def startupWork (starting : Bool) (k : AccessKind) : Bool :=
  startsUp starting k || match k with | .zeroWrite _ => true | _ => false

/-- The number of the zero write that is the ACU's work, if it is one. -/
def zeroJob : Option AcuJob → Option Nat
  | some (.zero n) => some n
  | _ => none

/-- What the law of start-up reads but the calls: the part, the access in progress, the accesses of start-up asked
for, and the zero write that is the ACU's work. -/
def State.startFrame (s : State) : PartState × Option AccessKind × List AccessKind × Option Nat :=
  (s.regs.part, s.accessKind, s.oru.queue.filter (startupWork (s.regs.part == .starting)), zeroJob s.acu.job)

/-- What the laws read but the channel map and the calls. -/
def State.stepFrame (s : State) :
    (BaseNo → Service × Nat) × PartState × Option AccessKind × List AccessKind × Option Nat :=
  (s.stations, s.startFrame)

/-- What the laws read. -/
def State.stepView (s : State) : Vector (Vector Chan 8) 48 × Vector Call 256 × (BaseNo → Service × Nat) × PartState ×
    Option AccessKind × List AccessKind × Option Nat :=
  (s.chans, s.calls, s.stepFrame)

theorem stepView_fields (e : t.stepView = s.stepView) :
    t.chans = s.chans ∧ t.calls = s.calls ∧ t.stepFrame = s.stepFrame := by
  simpa [State.stepView] using e

theorem stepFrame_fields (e : t.stepFrame = s.stepFrame) :
    (∀ b, t.stations b = s.stations b) ∧ t.startFrame = s.startFrame := by
  obtain ⟨h, h'⟩ := Prod.mk.inj e
  exact ⟨congrFun h, h'⟩

theorem inService_congr (h : t.stations b = s.stations b) : t.inService b ↔ s.inService b := by
  have hs : t.service b = s.service b := congrArg Prod.fst h
  rw [State.inService, State.inService, hs]

theorem effCount_congr (h : t.stations b = s.stations b) : t.links[b].effCount = s.links[b].effCount :=
  congrArg Prod.snd h

/-- The steps of start-up come one at a time, in STARTING only, and a zero write is the ACU's work (R160). -/
def State.startOrder (s : State) : Prop :=
  s.startSteps ≤ (if s.regs.part = .starting then 1 else 0) ∧
    ∀ n, .zeroWrite n ∉ s.oru.queue ∧ (s.accessKind = some (.zeroWrite n) → s.acu.job = some (.zero n))

theorem startOk_iff : s.startOk ↔
    (s.regs.part ≠ .running → ∀ c : CallNo, callLive s.calls[c].state = false ∧ s.calls[c].neighbours = []) ∧
      s.startOrder := Iff.rfl

theorem zeroing_eq (x : Option AcuJob) : zeroing x = (zeroJob x).toList.length := by
  cases x with
  | none => rfl
  | some j => cases j <;> rfl

theorem zeroJob_eq_some {x : Option AcuJob} {n : Nat} : zeroJob x = some n ↔ x = some (.zero n) := by
  unfold zeroJob
  split <;> simp_all

/-- The order of start-up in terms of what it reads. -/
theorem startOrder_iff : s.startOrder ↔
    ((s.accessKind.toList ++ s.oru.queue.filter (startupWork (s.regs.part == .starting))).filter
      (startsUp (s.regs.part == .starting))).length + (zeroJob s.acu.job).toList.length ≤
        (if s.regs.part = .starting then 1 else 0) ∧
    ∀ n, .zeroWrite n ∉ s.oru.queue.filter (startupWork (s.regs.part == .starting)) ∧
      (s.accessKind = some (.zeroWrite n) → zeroJob s.acu.job = some n) := by
  have hq : (s.oru.queue.filter (startupWork (s.regs.part == .starting))).filter
      (startsUp (s.regs.part == .starting)) = s.oru.queue.filter (startsUp (s.regs.part == .starting)) := by
    rw [List.filter_filter]
    refine List.filter_congr fun k _ => ?_
    unfold startupWork
    cases startsUp (s.regs.part == .starting) k <;> rfl
  have hz : ∀ n, .zeroWrite n ∈ s.oru.queue.filter (startupWork (s.regs.part == .starting)) ↔
      .zeroWrite n ∈ s.oru.queue := fun n => by
    rw [List.mem_filter]
    exact and_iff_left (Bool.or_true _)
  simp only [State.startOrder, State.startSteps, List.filter_append, hq, hz, zeroJob_eq_some, zeroing_eq]

theorem startOrder_congr (e : t.startFrame = s.startFrame) (h : s.startOrder) : t.startOrder := by
  simp only [State.startFrame, Prod.mk.injEq] at e
  obtain ⟨hp, hk, hq, hj⟩ := e
  rw [startOrder_iff] at h ⊢
  rwa [hq, hp, hk, hj]

/-! ### The laws while the part is RUNNING -/

/-- A base is in service, or it is one of those that are being withdrawn. -/
def State.usable (s : State) (off : List BaseNo) (b : BaseNo) : Prop := s.inService b ∨ b ∈ off

theorem usable_congr (h : t.stations b = s.stations b) : t.usable off b ↔ s.usable off b :=
  or_congr (inService_congr h) Iff.rfl

/-- While the part is RUNNING: the channel map, the calls and the neighbour sets agree, and name only bases in service
and the bases `off` that are being withdrawn; and no step of start-up is under way. -/
structure InStep (off : List BaseNo) (s : State) : Prop where
  seats   : ∀ c : CallNo, Seated s.chan c s.calls[c]
  inUse   : ∀ (b : BaseNo) (k : ChanNo), chanInUse (s.chan b k) = true → k.val < s.links[b].effCount ∧ s.usable off b
  sets    : ∀ (c : CallNo) (n : Neighbour), n ∈ s.calls[c].neighbours → s.usable off n.base
  running : s.regs.part = .running
  order   : s.startOrder

/-- With no base being withdrawn these are the laws of O41. -/
theorem inStep_iff : InStep [] s ↔ s.regs.part = .running ∧ s.channelsOk ∧ s.startOk := by
  have hu : ∀ b, s.usable [] b ↔ s.inService b := fun b => or_iff_left List.not_mem_nil
  rw [channelsOk_iff, startOk_iff]
  constructor
  · intro h
    exact ⟨h.running, ⟨h.seats, fun b k hb => ⟨(h.inUse b k hb).1, (hu b).mp (h.inUse b k hb).2⟩,
      fun c n hn => (hu _).mp (h.sets c n hn)⟩, fun hp => absurd h.running hp, h.order⟩
  · rintro ⟨hp, ⟨hseat, huse, hset⟩, -, ho⟩
    exact ⟨hseat, fun b k hb => ⟨(huse b k hb).1, (hu b).mpr (huse b k hb).2⟩,
      fun c n hn => (hu _).mpr (hset c n hn), hp, ho⟩

/-- A channel, if it names a call at all, names call `c`. -/
def namesOnly (c : CallNo) (v : Chan) : Prop := ∀ d, chanNames d v = true → d = c

theorem namesOnly_free (c : CallNo) : namesOnly c .free := nofun

/-- A channel names one call at most. -/
theorem namesOnly_of_names {v : Chan} (h : chanNames c v = true) : namesOnly c v := fun d hd => by
  cases v with
  | free | blocked => cases h
  | held x | leaving x | reserved x g => exact (beq_iff_eq.mp hd).symm.trans (beq_iff_eq.mp h)

theorem namesOnly_held (c : CallNo) : namesOnly c (.held c) := namesOnly_of_names (beq_self_eq_true c)

theorem namesOnly_leaving (c : CallNo) : namesOnly c (.leaving c) := namesOnly_of_names (beq_self_eq_true c)

theorem namesOnly_reserved (c : CallNo) (g : AttemptTag) : namesOnly c (.reserved c g) :=
  namesOnly_of_names (beq_self_eq_true c)

namespace InStep

/-- Work that changes no channel, no call and nothing else that the laws read. -/
theorem of_chan (h : InStep off s) (hv : ∀ b k, t.chan b k = s.chan b k) (hc : t.calls = s.calls)
    (hf : t.stepFrame = s.stepFrame) : InStep off t := by
  obtain ⟨hl, hp⟩ := stepFrame_fields hf
  have hm : t.chan = s.chan := funext fun b => funext (hv b)
  refine ⟨fun c => ?_, fun b k hb => ?_, fun c n hn => ?_, ?_, startOrder_congr hp h.order⟩
  · rw [hm, hc]
    exact h.seats c
  · rw [effCount_congr (hl b), usable_congr (hl b)]
    rw [hm] at hb
    exact h.inUse b k hb
  · rw [hc] at hn
    exact (usable_congr (hl _)).mpr (h.sets c n hn)
  · exact (congrArg Prod.fst hp).trans h.running

/-- Work that changes nothing that the laws read. -/
theorem same (h : InStep off s) (e : t.stepView = s.stepView) : InStep off t := by
  obtain ⟨hv, hc, hf⟩ := stepView_fields e
  exact h.of_chan (fun b k => by rw [State.chan, hv]; rfl) hc hf

/-- A change about call `c`: the other entries stand, and the positions that change name no other call before or
after. -/
theorem onCall (h : InStep off s) (c : CallNo) (hf : t.stepFrame = s.stepFrame)
    (hd : ∀ d : CallNo, d ≠ c → t.calls[d] = s.calls[d])
    (hm : ∀ b k, t.chan b k = s.chan b k ∨ (namesOnly c (s.chan b k) ∧ namesOnly c (t.chan b k)))
    (hs : Seated t.chan c t.calls[c])
    (hu : ∀ b k, chanInUse (t.chan b k) = true →
      chanInUse (s.chan b k) = true ∨ (k.val < s.links[b].effCount ∧ s.usable off b))
    (hn : ∀ n ∈ t.calls[c].neighbours, s.usable off n.base) : InStep off t := by
  obtain ⟨hl, hp⟩ := stepFrame_fields hf
  refine ⟨fun d => ?_, fun b k hb => ?_, fun d n hx => ?_, ?_, startOrder_congr hp h.order⟩
  · by_cases e : d = c
    · subst e
      exact hs
    · have kept : ∀ b k, chanNames d (s.chan b k) = true → t.chan b k = s.chan b k := fun b k hx =>
        (hm b k).resolve_right fun ho => e (ho.1 d hx)
      have back : ∀ b k, chanNames d (t.chan b k) = true → t.chan b k = s.chan b k := fun b k hx =>
        (hm b k).resolve_right fun ho => e (ho.2 d hx)
      rw [hd d e]
      refine ⟨fun hx => ?_, fun r hr => ?_, fun b k hx => ?_⟩
      · rw [kept, (h.seats d).serving hx]
        rw [(h.seats d).serving hx]
        rcases servingChan_cases d s.calls[d] with ⟨hv, -⟩ | ⟨hv, -⟩ <;> rw [hv] <;> simp [chanNames]
      · obtain ⟨hs', i, hi, hv⟩ := (h.seats d).record r hr
        refine ⟨hs', i, hi, ?_⟩
        rw [kept, hv]
        rw [hv]
        simp [chanNames]
      · rw [back b k hx] at hx
        exact (h.seats d).only b k hx
  · rw [effCount_congr (hl b), usable_congr (hl b)]
    rcases hu b k hb with hx | hx
    · exact h.inUse b k hx
    · exact hx
  · refine (usable_congr (hl _)).mpr ?_
    by_cases e : d = c
    · subst e
      exact hn n hx
    · rw [hd d e] at hx
      exact h.sets d n hx
  · exact (congrArg Prod.fst hp).trans h.running

/-- A change of one entry, the channel map standing. -/
theorem updCall {f : Call → Call} (h : InStep off s) (hs : Seated s.chan c (f s.calls[c]))
    (hn : ∀ n ∈ (f s.calls[c]).neighbours, s.usable off n.base) : InStep off (s.updCall c f) := by
  have self : (s.updCall c f).calls[c] = f s.calls[c] := (updCall_get s c c f).trans (if_pos rfl)
  refine h.onCall c rfl (fun d hd => updCall_other hd.symm s f) (fun _ _ => .inl rfl) ?_ (fun _ _ hx => .inl hx) ?_
  · rw [self]
    exact hs
  · rw [self]
    exact hn

/-- A change of the set of a call, and of fields that no law reads. -/
theorem updSet {f : Call → Call} (h : InStep off s) (hn : ∀ n ∈ (f s.calls[c]).neighbours, s.usable off n.base)
    (hs : ∀ e, (f e).state = e.state := by intro _; rfl) (hb : ∀ e, (f e).base = e.base := by intro _; rfl)
    (hk : ∀ e, (f e).channel = e.channel := by intro _; rfl)
    (hr : ∀ e, (f e).handover = e.handover := by intro _; rfl) : InStep off (s.updCall c f) :=
  h.updCall ((h.seats c).of_same (hs _) (hb _) (hk _) (hr _)) hn

/-- A change of fields that no law reads. -/
theorem updRest {f : Call → Call} (h : InStep off s) (hs : ∀ e, (f e).state = e.state := by intro _; rfl)
    (hb : ∀ e, (f e).base = e.base := by intro _; rfl) (hk : ∀ e, (f e).channel = e.channel := by intro _; rfl)
    (hr : ∀ e, (f e).handover = e.handover := by intro _; rfl)
    (hn : ∀ e, (f e).neighbours = e.neighbours := by intro _; rfl) : InStep off (s.updCall c f) :=
  h.updSet (by rw [hn]; exact h.sets c) hs hb hk hr

/-- The record of a call changes, but not what it names, nor whether it is SWITCHING. -/
theorem updHandover {f : Handover → Handover} (h : InStep off s)
    (hf : ∀ r, s.calls[c].handover = some r → (f r).target = r.target ∧ (f r).channel = r.channel ∧
      (f r).tag = r.tag ∧ ((f r).state = .switching ↔ r.state = .switching)) :
    InStep off (s.updHandover c f) :=
  h.updCall ((h.seats c).changeRecord hf) (h.sets c)

theorem markCall {v : Byte} (h : InStep off s) : InStep off (s.markCall c v) := h.same rfl

/-- A fold of such operations is one. -/
theorem foldl {α : Type} {f : State → α → State} (hf : ∀ {v x}, InStep off v → InStep off (f v x))
    (h : InStep off s) (l : List α) : InStep off (l.foldl f s) :=
  List.foldlRecOn (motive := InStep off) l f h fun _ hv _ _ => hf hv

/-- A base that has been withdrawn is no longer one of those being withdrawn. -/
theorem close (h : InStep (b :: off) s) (hw : s.withdrawn b) : InStep off s := by
  obtain ⟨-, -, hset, hchan⟩ := hw
  have drop : ∀ {x : BaseNo}, x ≠ b → s.usable (b :: off) x → s.usable off x := fun hx hu =>
    hu.imp id fun hm => (List.mem_cons.mp hm).resolve_left hx
  refine ⟨h.seats, fun x k hx => ?_, fun c n hn => drop ?_ (h.sets c n hn), h.running, h.order⟩
  · have hne : x ≠ b := by
      rintro rfl
      rcases hchan k with e | e <;> rw [e] at hx <;> cases hx
    exact ⟨(h.inUse x k hx).1, drop hne (h.inUse x k hx).2⟩
  · rintro rfl
    exact not_hasNeighbour (Bool.eq_false_iff.mp (hset c)) n hn rfl

end InStep

/-! ### Work that changes nothing the laws read -/

theorem updLink_stations {f : Link → Link} (h : (f s.links[b]).service = s.links[b].service)
    (he : (f s.links[b]).effCount = s.links[b].effCount) : (s.updLink b f).stations = s.stations := by
  funext x
  rw [State.stations, State.stations, updLink_get]
  split
  · next e =>
    subst e
    rw [h, he]
  · rfl

/-- A change of a link that keeps its service state and its effective channel count. -/
theorem updLink_stepView {f : Link → Link} (h : (f s.links[b]).service = s.links[b].service)
    (he : (f s.links[b]).effCount = s.links[b].effCount) : (s.updLink b f).stepView = s.stepView :=
  congrArg (fun x => (s.chans, s.calls, x, s.startFrame)) (updLink_stations h he)

theorem updCall_stepView {f : Call → Call} (e : t.stepView = s.stepView) :
    (t.updCall c f).stepView = (s.updCall c f).stepView := by
  obtain ⟨hv, hc, hf⟩ := stepView_fields e
  have hx : ∀ v : State, (v.updCall c f).stepView = (v.chans, (v.updCall c f).calls, v.stepFrame) := fun _ => rfl
  rw [hx, hx, hv, hf, State.updCall_calls, State.updCall_calls, hc]

section
variable (s)

theorem transmit_stepView (b : BaseNo) (m : Downlink) : (s.transmit b m).stepView = s.stepView := rfl

theorem enqueue_stepView (b : BaseNo) (m : Downlink) : (s.enqueue b m).stepView = s.stepView := by
  by_cases e : s.links[b].queue = []
  · rw [enqueue_of_nil e, transmit_stepView]
    exact updLink_stepView rfl rfl
  · rw [enqueue_of_ne_nil e]
    exact updLink_stepView rfl rfl

theorem append_stepView (b : BaseNo) (m : Downlink) : (s.append b m).1.stepView = s.stepView := by
  rcases append_cases s b m with ⟨-, e⟩ | ⟨-, e⟩ <;> rw [e]
  · exact enqueue_stepView s b m
  · rfl

theorem send_stepView (b : BaseNo) (m : Downlink) : (s.send b m).stepView = s.stepView := append_stepView s b m

/-- Accesses asked for that are none of start-up's. -/
theorem ask_stepView {l : List AccessKind} (h : ∀ x ∈ l, startupWork (s.regs.part == .starting) x = false) :
    (s.ask l).stepView = s.stepView := by
  have hq : (s.oru.queue ++ l).filter (startupWork (s.regs.part == .starting)) =
      s.oru.queue.filter (startupWork (s.regs.part == .starting)) := by
    rw [List.filter_append, List.filter_eq_nil_iff.mpr fun x hx => Bool.eq_false_iff.mp (h x hx), List.append_nil]
  exact congrArg (fun x => (s.chans, s.calls, s.stations, s.regs.part, s.accessKind, x, zeroJob s.acu.job)) hq

theorem handBack_stepView (i : SlotNo) (x : OrderResult) : (s.handBack i x).stepView = s.stepView := by
  have hq : (s.ask [.resultWrite i x, .answeredWrite i]).stepView = s.stepView := by
    refine ask_stepView s fun k hk => ?_
    rcases List.mem_pair.mp hk with rfl | rfl <;> rfl
  unfold State.handBack
  dsimp only
  split <;> exact hq

theorem answerMove_stepView (i : Option SlotNo) (x : OrderResult) : (s.answerMove i x).stepView = s.stepView := by
  unfold State.answerMove
  split
  · exact handBack_stepView s _ x
  · rfl

theorem locate_stepView (x : HandsetNo) (b : BaseNo) : (s.locate x b).stepView = s.stepView := by
  unfold State.locate
  split <;> rfl

theorem unbindCall_stepView (x : HandsetNo) : (s.unbindCall x).stepView = s.stepView := by
  unfold State.unbindCall
  split <;> rfl

theorem bindCall_stepView (x : HandsetNo) (c : CallNo) : (s.bindCall x c).stepView = s.stepView := by
  unfold State.bindCall
  split <;> rfl

theorem countLost_stepView (x : EndReason) : (s.countLost x).stepView = s.stepView := by
  unfold State.countLost
  split <;> rfl

theorem countIgnored_stepView (n : Nat) : (s.countIgnored n).stepView = s.stepView := by
  induction n generalizing s with
  | zero => rfl
  | succ n ih => exact ih _

theorem endPage_stepView (p : PageRecord) (v : Verdict) (d z : Nat) : (s.endPage p v d z).stepView = s.stepView := by
  unfold State.endPage
  dsimp only
  split <;> exact handBack_stepView s _ _

theorem restartSilence_stepView (b : BaseNo) : (s.restartSilence b).stepView = s.stepView := by
  unfold State.restartSilence
  split
  · exact updLink_stepView rfl rfl
  · rfl

end

theorem append_stepView_of_eq {m : Downlink} {v : Bool} (h : s.append b m = (t, v)) : t.stepView = s.stepView := by
  rw [← append_stepView s b m, h]

theorem pageAppends_stepView (m : Downlink) (l : List BaseNo) (a : State × PageRecord) :
    (l.foldl (pageAppend m) a).1.stepView = a.1.stepView := by
  induction l generalizing a with
  | nil => rfl
  | cons b r ih =>
    refine (ih _).trans ?_
    unfold pageAppend
    split
    · next e => exact append_stepView_of_eq e
    · next v hv =>
      have e : v.stepView = a.1.stepView := append_stepView_of_eq hv
      exact e

end Sys2Proof.Machine
end

section
/-! SUPPORT. The laws of O41 over the operations on handovers: attempts that end, candidates tried in turn, the switch,
and the completion of a move (R56, R58, R90). A lemma `InStep.op` says that the laws go on over `op`. -/

namespace Sys2Proof.Machine

open Sys2Proof

variable {s t u : State} {c : CallNo} {b : BaseNo} {j : ChanNo} {off : List BaseNo} {r : Handover}

/-! ### Attempts that end (R124) -/

theorem unreserve_stepFrame (s : State) (b : BaseNo) (j : ChanNo) (c : CallNo) (g : AttemptTag) :
    (s.unreserve b j c g).stepFrame = s.stepFrame := by
  unfold State.unreserve
  split <;> rfl

theorem switchBack_stepFrame (s : State) (c : CallNo) (b : BaseNo) (j : ChanNo) (g : AttemptTag) :
    (s.switchBack c b j g).stepFrame = s.stepFrame := by
  unfold State.switchBack
  dsimp only
  split <;> rfl

theorem send_stepFrame (s : State) (b : BaseNo) (m : Downlink) : (s.send b m).stepFrame = s.stepFrame :=
  (stepView_fields (send_stepView s b m)).2.2

theorem bumpBase_stepFrame (s : State) (b : BaseNo) (k : BaseCounter) : (s.bumpBase b k).stepFrame = s.stepFrame := rfl

theorem giveUp_stepFrame (s : State) (c : CallNo) (r : Handover) : (s.giveUp c r).stepFrame = s.stepFrame := by
  unfold State.giveUp
  split
  · rfl
  · dsimp only
    rw [bumpBase_stepFrame]
    split
    · rw [send_stepFrame, send_stepFrame, switchBack_stepFrame]
    · rw [send_stepFrame, unreserve_stepFrame]

theorem forgetRecord_stepView (e : t.stepView = s.stepView) :
    (t.forgetRecord c).stepView = (s.forgetRecord c).stepView := updCall_stepView e

/-- A call in progress without a record goes from CONNECTED to MOVING or back (R71). -/
theorem Seated.move {m : BaseNo → ChanNo → Chan} {e : Call} (h : Seated m c e) (hl : callLive e.state = true)
    (hn : e.handover = none) {v : CallState} (hv : callLive v = true) : Seated m c { e with state := v } where
  serving _ := h.serving hl
  record r hr := by
    rw [show e.handover = some r from hr] at hn
    cases hn
  only b k hx := (h.only b k hx).imp (fun ⟨_, hb, hk⟩ => ⟨hv, hb, hk⟩) id

/-- The reservation that the record of a seated call names stands (R56). -/
theorem Seated.reserves (h : Seated s.chan c s.calls[c]) (hr : s.calls[c].handover = some r) :
    ∃ j, s.reserves c r j := by
  obtain ⟨-, j, hj, hv⟩ := h.record r hr
  exact ⟨j, hj, hv, fun hs => (h.serving (h.live_of_record hr)).trans (servingChan_of_switching hr hs)⟩

namespace InStep

/-- The reservation of a record is given up: the call has its serving channel HELD and no other (R124 step 2). -/
theorem giveUp (h : InStep off s) (hr : s.calls[c].handover = some r) :
    InStep off ((s.giveUp c r).forgetRecord c) := by
  have hseat := h.seats c
  have hlive := hseat.live_of_record hr
  obtain ⟨j, hj⟩ := hseat.reserves hr
  have hserve : s.chan s.calls[c].base s.calls[c].channel = s.calls[c].servingChan c := hseat.serving hlive
  have hself : ((s.giveUp c r).forgetRecord c).calls[c] = s.calls[c].forgetRecord := by
    rw [forgetRecord_self, giveUp_calls]
  have hchan : ∀ x k, ((s.giveUp c r).forgetRecord c).chan x k =
      if x = r.target ∧ k = j then .free
      else if r.state = .switching ∧ x = s.calls[c].base ∧ k = s.calls[c].channel then .held c
      else s.chan x k := hj.chan
  have hapart : ¬(s.calls[c].base = r.target ∧ s.calls[c].channel = j) := fun ⟨eb, ek⟩ => by
    rw [eb, ek, hj.reserved] at hserve
    rcases servingChan_cases c s.calls[c] with ⟨e, -⟩ | ⟨e, -⟩ <;> rw [e] at hserve <;> cases hserve
  refine h.onCall c (giveUp_stepFrame s c r) (fun d hd => ?_) (fun x k => ?_) ?_ (fun x k hx => ?_) ?_
  · rw [forgetRecord_other hd, giveUp_calls]
  · rw [hchan]
    split
    · next e =>
      rw [e.1, e.2, hj.reserved]
      exact .inr ⟨namesOnly_reserved c r.tag, namesOnly_free c⟩
    · split
      · next e =>
        rw [e.2.1, e.2.2, hj.leaving e.1]
        exact .inr ⟨namesOnly_leaving c, namesOnly_held c⟩
      · exact .inl rfl
  · rw [hself]
    refine .of_held hlive rfl ?_ fun x k hx => ?_
    · refine (hchan _ _).trans ((if_neg hapart).trans ?_)
      split
      · rfl
      · next hs =>
        refine hserve.trans (servingChan_of_staying fun q hq hw => hs ⟨?_, rfl, rfl⟩)
        rw [hr] at hq
        cases hq
        exact hw
    · rw [hchan] at hx
      split at hx
      · cases hx
      · next ht =>
        split at hx
        · next e => exact ⟨e.2.1.symm, e.2.2.symm⟩
        · rcases hseat.only x k hx with ⟨-, hb, hk⟩ | ⟨q, hq, hqt, hqj⟩
          · exact ⟨hb, hk⟩
          · rw [hr] at hq
            cases hq
            rw [hj.channel] at hqj
            cases hqj
            exact absurd ⟨hqt.symm, rfl⟩ ht
  · rw [hchan] at hx
    split at hx
    · cases hx
    · split at hx
      · next e =>
        rw [e.2.1, e.2.2, hj.leaving e.1]
        exact .inl rfl
      · exact .inl hx
  · rw [hself]
    exact h.sets c

theorem moveEnd (h : InStep off s) (hn : s.calls[c].handover = none) : InStep off (s.moveEnd c) := by
  unfold State.moveEnd
  split
  · next hm =>
    have hl : callLive s.calls[c].state = true := by
      rw [hm]
      rfl
    exact (h.updCall ((h.seats c).move hl hn rfl) (h.sets c)).markCall
  · exact h

/-- The record of a call goes, with its move-end notice (R124 step 3). -/
theorem removeRecord (h : InStep off (s.forgetRecord c)) : InStep off (s.removeRecord c) :=
  h.moveEnd (by rw [forgetRecord_self]; rfl)

theorem noteAbort {a : AbortReason} (h : InStep off s) : InStep off (s.noteAbort c a) := h.updRest.markCall

theorem startHold (h : InStep off s) : InStep off (s.startHold c) := by
  unfold State.startHold
  dsimp only
  split
  · exact h.updRest
  · exact h

theorem answerMove {i : Option SlotNo} {x : OrderResult} (h : InStep off s) : InStep off (s.answerMove i x) :=
  h.same (answerMove_stepView s i x)

/-- An attempt ends once its reservation is given up (R124). -/
theorem attemptEnd_of_forgot {a : AbortReason} (hr : s.calls[c].handover = some r)
    (h : InStep off (((s.dropBatch c).giveUp c r).forgetRecord c)) : InStep off (s.attemptEnd c a) := by
  have hn : InStep off ((((s.dropBatch c).giveUp c r).removeRecord c).noteAbort c a) := h.removeRecord.noteAbort
  rw [State.attemptEnd, hr]
  dsimp only
  split
  · exact hn.startHold.answerMove
  · exact hn.answerMove

theorem bumpBase {k : BaseCounter} (h : InStep off s) : InStep off (s.bumpBase b k) := h.same rfl

theorem dropBatch (h : InStep off s) : InStep off (s.dropBatch c) := h.same rfl

theorem attemptEnd {a : AbortReason} (h : InStep off s) : InStep off (s.attemptEnd c a) := by
  cases hr : s.calls[c].handover with
  | none => rwa [attemptEnd_of_no_record hr]
  | some r => exact attemptEnd_of_forgot hr (giveUp (c := c) h.dropBatch hr)

end InStep

/-! ### Candidates tried in turn (R112, R113) -/

/-- The laws hold but for the record of call `c`, which names no channel: its next candidate is being sought. -/
structure Seeking (off : List BaseNo) (c : CallNo) (s : State) : Prop where
  forgot : InStep off (s.forgetRecord c)
  record : ∃ r, s.calls[c].handover = some r ∧ r.channel = none
  moving : s.calls[c].state = .moving

/-- What the CCU takes a reserve request for (R69). -/
theorem reservable_some (h : s.reservable b c = some j) :
    s.service b = .serving ∧ s.chan b j = .free ∧ j.val < s.links[b].effCount := by
  unfold State.reservable at h
  split at h
  · next hc =>
    simp only [Bool.and_eq_true, beq_iff_eq] at hc
    obtain ⟨⟨⟨hs, -⟩, -⟩, -⟩ := hc
    exact ⟨hs, mem_freeChannels.mp (List.mem_of_head? h)⟩
  · cases h

namespace Seeking

theorem same (h : Seeking off c s) (e : t.stepView = s.stepView) : Seeking off c t := by
  have hc := (stepView_fields e).2.1
  refine ⟨h.forgot.same (forgetRecord_stepView e), ?_, ?_⟩ <;> rw [hc]
  · exact h.record
  · exact h.moving

/-- A change of the entry: the record still names no channel. -/
theorem updCall {f : Call → Call} (h : Seeking off c s)
    (hr : ∀ r, s.calls[c].handover = some r → r.channel = none →
      ∃ q, (f s.calls[c]).handover = some q ∧ q.channel = none)
    (hs : ∀ e, (f e).state = e.state := by intro _; rfl) (hb : ∀ e, (f e).base = e.base := by intro _; rfl)
    (hk : ∀ e, (f e).channel = e.channel := by intro _; rfl)
    (hn : ∀ e, (f e).neighbours = e.neighbours := by intro _; rfl) : Seeking off c (s.updCall c f) := by
  have hseat := h.forgot.seats c
  have hset := h.forgot.sets c
  rw [forgetRecord_self] at hseat hset
  have hc := h.forgot.updCall (c := c) (f := fun _ => (f s.calls[c]).forgetRecord)
    (hseat.of_same (hs _) (hb _) (hk _) rfl) (by rw [Call.forgetRecord, hn]; exact hset)
  refine ⟨?_, ?_, ?_⟩
  · rw [State.forgetRecord, updCall_updCall] at hc ⊢
    exact hc
  · obtain ⟨r, hr', hj⟩ := h.record
    rw [updCall_get, if_pos rfl]
    exact hr r hr' hj
  · rw [updCall_get, if_pos rfl, hs]
    exact h.moving

theorem noteFailure {a : AbortReason} (h : Seeking off c s) : Seeking off c (s.noteFailure c a) :=
  h.updCall (f := fun e => { e with handover := e.handover.map fun r => { r with lastFailure := some a } })
    fun r hr hj => ⟨{ r with lastFailure := some a }, by rw [hr]; rfl, hj⟩

theorem takeTarget {l : List BaseNo} (h : Seeking off c s) : Seeking off c (s.takeTarget c b l) :=
  (h.updCall (f := Call.aimedAt b l) fun r hr _ =>
    ⟨r.aimedAt b l (nextTag s.calls[c].tagCounter), by rw [Call.aimedAt, hr]; rfl, rfl⟩).same rfl

theorem bumpBase {k : BaseCounter} (h : Seeking off c s) : Seeking off c (s.bumpBase b k) := h.same rfl

/-- With no candidate left the attempt ends (R113 step 5). -/
theorem attemptEnd {a : AbortReason} (h : Seeking off c s) : InStep off (s.attemptEnd c a) := by
  obtain ⟨r, hr, hj⟩ := h.record
  refine .attemptEnd_of_forgot hr ?_
  rw [giveUp_of_none hj]
  exact h.forgot.same rfl

/-- A candidate gives a FREE channel: the record names it, and every law holds (R112). -/
theorem reserve {f : Handover → Handover} (h : Seeking off c s) (hr : s.calls[c].handover = some r)
    (hf : s.chan b j = .free) (hl : j.val < s.links[b].effCount) (hv : s.service b = .serving)
    (ht : (f r).target = b) (hj : (f r).channel = some j) (hs : (f r).state ≠ .switching) :
    InStep off ((s.setChan b j (.reserved c (f r).tag)).updHandover c f) := by
  have hseat := h.forgot.seats c
  rw [forgetRecord_self] at hseat
  have hlive : callLive s.calls[c].state = true := by
    rw [h.moving]
    rfl
  have hserve : s.chan s.calls[c].base s.calls[c].channel = .held c :=
    (hseat.serving hlive).trans (servingChan_of_none rfl)
  have hself : ((s.setChan b j (.reserved c (f r).tag)).updHandover c f).calls[c] =
      { s.calls[c] with handover := some (f r) } := by
    rw [State.updHandover, updCall_get, if_pos rfl, State.setChan_calls, hr]
    rfl
  have hchan : ∀ x k, ((s.setChan b j (.reserved c (f r).tag)).updHandover c f).chan x k =
      if b = x ∧ j = k then .reserved c (f r).tag else s.chan x k := fun x k => setChan_get s b x j k _
  refine h.forgot.onCall c rfl (fun d hd => ?_) (fun x k => ?_) ?_ (fun x k hx => ?_) ?_
  · rw [forgetRecord_other hd]
    exact updCall_other hd.symm _ _
  · rw [hchan]
    split
    · next e =>
      rw [← e.1, ← e.2]
      exact .inr ⟨by rw [show (s.forgetRecord c).chan b j = .free from hf]; exact namesOnly_free c,
        namesOnly_reserved c _⟩
    · exact .inl rfl
  · rw [hself]
    refine ⟨fun _ => ?_, fun q hq => ?_, fun x k hx => ?_⟩
    · rw [servingChan_of_staying fun q hq => by cases hq; exact hs]
      refine (hchan _ _).trans ((if_neg fun e => ?_).trans hserve)
      rw [← e.1, ← e.2, hf] at hserve
      cases hserve
    · cases hq
      exact ⟨h.moving, j, hj, (hchan _ _).trans (if_pos ⟨ht.symm, rfl⟩)⟩
    · rw [hchan] at hx
      split at hx
      · next e => exact .inr ⟨f r, rfl, ht.trans e.1, hj.trans (congrArg some e.2)⟩
      · rcases hseat.only x k hx with hx | ⟨q, hq, -⟩
        · exact .inl hx
        · cases hq
  · rw [hchan] at hx
    split at hx
    · next e =>
      rw [← e.1, ← e.2]
      exact .inr ⟨hl, .inl (.inl hv)⟩
    · exact .inl hx
  · rw [hself]
    have hset := h.forgot.sets c
    rwa [forgetRecord_self] at hset

/-- One candidate after another is tried until one is reserved: every law holds again (R112, R113). -/
theorem tryCandidates (h : Seeking off c s) (l : List BaseNo) : InStep off (s.tryCandidates c l) := by
  induction l generalizing s with
  | nil => exact h.attemptEnd
  | cons b l ih =>
    have ht : Seeking off c (s.takeTarget c b l) := h.takeTarget
    cases hres : (s.takeTarget c b l).reservable b c with
    | none =>
      rw [tryCandidates_of_refused s c b l hres]
      exact ih ht.noteFailure
    | some j =>
      obtain ⟨hv, hf, hl⟩ := reservable_some hres
      cases ha : (s.takeTarget c b l).appendTaken b with
      | false =>
        rw [tryCandidates_of_full s c b l hres ha hf]
        exact ih ht.bumpBase.noteFailure
      | true =>
        have hself : (s.takeTarget c b l).calls[c] = s.calls[c].aimedAt b l :=
          (updCall_get s c c (Call.aimedAt b l)).trans (if_pos rfl)
        obtain ⟨q, hq, -⟩ := h.record
        have hr : (s.takeTarget c b l).calls[c].handover =
            some (q.aimedAt b l (s.takeTarget c b l).calls[c].tagCounter) := by
          rw [hself, Call.aimedAt, hq]
          rfl
        rw [tryCandidates_of_taken s c b l hres ha]
        refine (ht.reserve (f := fun r => { r with
          channel := some j
          reserveTimer := some ((s.takeTarget c b l).after ((s.takeTarget c b l).zoneAt b).reserveLimit) })
          hr hf hl hv rfl rfl nofun).same (updCall_stepView (send_stepView _ _ _))

end Seeking

/-- A move-begin notice makes a call in progress MOVING (R71). -/
theorem moveBegin_stepView (h : callLive s.calls[c].state = true) :
    (s.moveBegin c).stepView = (s.updCall c fun e => { e with state := .moving }).stepView := by
  unfold State.moveBegin
  split
  · rfl
  · next hn =>
    have hm : s.calls[c].state = .moving := by
      cases e : s.calls[c].state with
      | moving => rfl
      | connected => exact absurd e hn
      | free | ended =>
        rw [e] at h
        cases h
    have he : { s.calls[c] with state := .moving } = s.calls[c] := by rw [← hm]
    have hc : s.calls.set c { s.calls[c] with state := .moving } = s.calls := by
      rw [he]
      exact Vector.set_getElem_self _
    exact congrArg (fun x => (s.chans, x, s.stepFrame)) hc.symm

namespace InStep

/-- A handover starts of a call in progress without a record (R112). -/
theorem startHandover {k : HandoverKind} {l : List BaseNo} {i : Option SlotNo} (h : InStep off s)
    (hl : callLive s.calls[c].state = true) (hn : s.calls[c].handover = none) :
    InStep off (s.startHandover c k l i) := by
  refine Seeking.tryCandidates (.same ?_ (moveBegin_stepView (by rw [updCall_get, if_pos rfl]; exact hl))) l
  rw [updCall_updCall]
  refine ⟨?_, ?_, ?_⟩
  · rw [State.forgetRecord, updCall_updCall]
    exact h.updCall (((h.seats c).move hl hn (v := .moving) rfl).of_same rfl rfl rfl hn.symm) (h.sets c)
  · rw [updCall_get, if_pos rfl]
    exact ⟨_, rfl, rfl⟩
  · rw [updCall_get, if_pos rfl]

/-- The same of a call that is CONNECTED. -/
theorem startHandover_of_connected {k : HandoverKind} {l : List BaseNo} {i : Option SlotNo} (h : InStep off s)
    (hs : s.calls[c].state = .connected) : InStep off (s.startHandover c k l i) :=
  h.startHandover (by rw [hs]; rfl) ((h.seats c).no_record (by rw [hs]; decide))

end InStep

/-- The reservation of a failed candidate is given up as at the end of an attempt before its switch (R113 step 3). -/
theorem giveUpCandidate_stepView {q : Handover} {a : AbortReason} (hj : r.channel = some j)
    (hv : s.chan r.target j = .reserved c r.tag) (ht : q.target = r.target) (hqj : q.channel = r.channel)
    (hg : q.tag = r.tag) (hs : q.state ≠ .switching) :
    (s.giveUpCandidate c r a).stepView = (s.giveUp c q).stepView := by
  have hc : (s.giveUpCandidate c r a).stepView = (s.setChan r.target j .free).stepView := by
    rw [State.giveUpCandidate, hj]
    dsimp only
    rw [unreserve_of_reserved hv]
    split
    · rfl
    · exact send_stepView _ _ _
  rw [hc, giveUp_of_reserved (hqj.trans hj) (by rw [ht, hg]; exact hv) hs, ht]
  exact (send_stepView (s.setChan r.target j .free) _ _).symm

namespace InStep

/-- A candidate fails before its switch, and the next is tried (R113). -/
theorem candidateFail {a : AbortReason} (h : InStep off s)
    (hs : ∀ r, s.calls[c].handover = some r → r.state ≠ .switching) : InStep off (s.candidateFail c a) := by
  unfold State.candidateFail
  split
  · exact h
  · next r hr =>
    have hv : InStep off ((s.noteFailure c a).dropBatch c) :=
      (h.updHandover (f := fun q => { q with lastFailure := some a }) fun _ _ => ⟨rfl, rfl, rfl, .rfl⟩).dropBatch
    have hself : ((s.noteFailure c a).dropBatch c).calls[c].handover = some { r with lastFailure := some a } := by
      change (s.noteFailure c a).calls[c].handover = _
      rw [State.noteFailure, State.updHandover, updCall_get, if_pos rfl, hr]
      rfl
    obtain ⟨-, j, hj, hc⟩ := (hv.seats c).record _ hself
    have hview := giveUpCandidate_stepView (s := (s.noteFailure c a).dropBatch c) (a := a) (r := r)
      (q := { r with lastFailure := some a }) hj hc rfl rfl rfl (hs r hr)
    have hcalls : (((s.noteFailure c a).dropBatch c).giveUpCandidate c r a).calls =
        ((s.noteFailure c a).dropBatch c).calls := (callTables_fields (giveUpCandidate_callTables _ c r a)).1
    refine Seeking.tryCandidates ⟨?_, ?_, ?_⟩ _
    · rw [State.forgetRecord, State.updHandover, updCall_updCall]
      exact (hv.giveUp hself).same (forgetRecord_stepView hview)
    · rw [State.updHandover, updCall_get, if_pos rfl, hcalls, hself]
      exact ⟨_, rfl, rfl⟩
    · rw [State.updHandover, updCall_get, if_pos rfl, hcalls]
      exact ((hv.seats c).record _ hself).1

/-! ### Switching (7.4) -/

/-- The serving channel of a call becomes LEAVING as its record becomes SWITCHING (R70, R118). -/
theorem departs {f : Handover → Handover} (h : InStep off s) (hr : s.calls[c].handover = some r)
    (hres : s.reserves c r j) (hheld : s.chan s.calls[c].base s.calls[c].channel = .held c)
    (ht : (f r).target = r.target) (hj : (f r).channel = r.channel) (hg : (f r).tag = r.tag)
    (hs : (f r).state = .switching) :
    InStep off ((s.setChan s.calls[c].base s.calls[c].channel (.leaving c)).updHandover c f) := by
  have hseat := h.seats c
  have hself : ((s.setChan s.calls[c].base s.calls[c].channel (.leaving c)).updHandover c f).calls[c] =
      { s.calls[c] with handover := some (f r) } := by
    rw [State.updHandover, updCall_get, if_pos rfl, State.setChan_calls, hr]
    rfl
  have hchan : ∀ x k, ((s.setChan s.calls[c].base s.calls[c].channel (.leaving c)).updHandover c f).chan x k =
      if s.calls[c].base = x ∧ s.calls[c].channel = k then .leaving c else s.chan x k :=
    fun x k => setChan_get s s.calls[c].base x s.calls[c].channel k _
  refine h.onCall c rfl (fun d hd => updCall_other hd.symm _ _) (fun x k => ?_) ?_ (fun x k hx => ?_) ?_
  · rw [hchan]
    split
    · next e =>
      rw [← e.1, ← e.2, hheld]
      exact .inr ⟨namesOnly_held c, namesOnly_leaving c⟩
    · exact .inl rfl
  · rw [hself]
    refine ⟨fun _ => ?_, fun q hq => ?_, fun x k hx => ?_⟩
    · rw [servingChan_of_switching (r := f r) rfl hs]
      exact (hchan _ _).trans (if_pos ⟨rfl, rfl⟩)
    · cases hq
      refine ⟨(hseat.record r hr).1, j, hj.trans hres.channel, ?_⟩
      rw [ht, hg]
      refine (hchan _ _).trans ((if_neg fun e => ?_).trans hres.reserved)
      rw [e.1, e.2, hres.reserved] at hheld
      cases hheld
    · rw [hchan] at hx
      split at hx
      · next e => exact .inl ⟨hseat.live_of_record hr, e.1, e.2⟩
      · refine (hseat.only x k hx).imp id fun ⟨q, hq, hqt, hqj⟩ => ?_
        rw [hr] at hq
        cases hq
        exact ⟨f r, rfl, ht.trans hqt, hj.trans hqj⟩
  · rw [hchan] at hx
    split at hx
    · next e =>
      rw [← e.1, ← e.2, hheld]
      exact .inl rfl
    · exact .inl hx
  · rw [hself]
    exact h.sets c

/-- A switch begins, or has begun already (R118). -/
theorem beginSwitch (h : InStep off s) : InStep off (s.beginSwitch c) := by
  unfold State.beginSwitch
  split
  · exact h
  · next r hr =>
    split
    · exact h
    · next j hj =>
      have hseat := h.seats c
      obtain ⟨i, hres⟩ := hseat.reserves hr
      obtain rfl : j = i := Option.some.inj (hj.symm.trans hres.channel)
      refine InStep.markCall ?_
      by_cases hs : r.state = .switching
      · have hout : s.switchOut c r.target j r.tag = s := if_neg fun hx => by
          rw [hres.leaving hs] at hx
          cases hx.1
        rw [hout]
        refine h.updHandover fun q hq => ⟨rfl, rfl, rfl, ?_⟩
        rw [hr] at hq
        cases hq
        exact iff_of_true rfl hs
      · have hheld : s.chan s.calls[c].base s.calls[c].channel = .held c :=
          (hseat.serving (hseat.live_of_record hr)).trans (servingChan_of_staying fun q hq => by
            rw [hr] at hq
            cases hq
            exact hs)
        have hout : s.switchOut c r.target j r.tag =
            (s.setChan s.calls[c].base s.calls[c].channel (.leaving c)).markCall c 0 := if_pos ⟨hheld, hres.reserved⟩
        rw [hout]
        exact (h.departs hr hres hheld rfl rfl rfl rfl).same rfl

theorem append_eq {m : Downlink} {v : Bool} (h : InStep off s) (e : s.append b m = (t, v)) : InStep off t :=
  h.same (append_stepView_of_eq e)

theorem sendSwitchList {cs : List CallNo} (h : InStep off s) : InStep off (s.sendSwitchList b cs) := by
  unfold State.sendSwitchList
  split
  · next e => exact (h.append_eq e).foldl beginSwitch cs
  · next e => exact (h.append_eq e).foldl attemptEnd cs

theorem joinBatch (h : InStep off s) (hs : ∀ r, s.calls[c].handover = some r → r.state = .reserving) :
    InStep off (s.joinBatch c b) := by
  refine InStep.markCall (InStep.updHandover (h.same rfl) fun r hr => ⟨rfl, rfl, rfl, ?_⟩)
  rw [hs r hr]
  exact iff_of_false nofun nofun

theorem takeReady (h : InStep off s) (hr : s.calls[c].handover = some r) (hs : r.state = .reserving) :
    InStep off (s.takeReady c r) := by
  have hu : InStep off (s.updHandover c fun q => { q with reserveTimer := none }) :=
    h.updHandover fun _ _ => ⟨rfl, rfl, rfl, .rfl⟩
  unfold State.takeReady
  dsimp only
  split
  · exact hu.sendSwitchList
  · split
    · refine hu.joinBatch fun q hq => ?_
      rw [State.updHandover, updCall_get, if_pos rfl, hr] at hq
      cases hq
      exact hs
    · exact InStep.sendSwitchList (hu.same rfl)

theorem deliverBatch (h : InStep off s) : InStep off s.deliverBatch := by
  have hb : InStep off (s.setBatch (s.batch.filter fun e => e.due != s.now)) := h.same rfl
  exact hb.foldl (f := fun t (p : BaseNo × List CallNo) => t.sendSwitchList p.1 p.2) sendSwitchList _

end InStep

/-! ### The completion of a move (7.5) -/

theorem inService_of_pairTaken (h : pairTaken (s.service b) = true) : s.inService b := pairTaken_iff.mp h

/-- A serving change brings no base into the set but the old serving base, and that where it is in service (R89). -/
theorem base_of_mem_changedSet {a : BaseNo} {n : Neighbour} (h : n ∈ s.changedSet c a b) :
    (∃ m ∈ s.calls[c].neighbours, m.base = n.base) ∨ (n.base = a ∧ s.inService a) := by
  have hrest : ∀ m ∈ withoutNeighbour b s.calls[c].neighbours, ∃ m' ∈ s.calls[c].neighbours, m'.base = m.base :=
    fun m hm => ⟨m, (List.mem_filter.mp hm).1, rfl⟩
  unfold State.changedSet at h
  dsimp only at h
  obtain ⟨m, hm, rfl⟩ := List.mem_map.mp ((rankNeighbours_perm _).mem_iff.mp h)
  split at hm
  · split at hm
    · next hv =>
      rcases mem_insertNeighbour hm with hm | hm
      · exact .inl (hrest m hm)
      · exact .inr ⟨hm, inService_of_pairTaken hv⟩
    · exact .inl (hrest m hm)
  · exact .inl (hrest m hm)

namespace InStep

/-- The channels and the entry of a call that has moved, its record gone (R70, R89, R121). -/
theorem settled (h : InStep off s) (hr : s.calls[c].handover = some r) (hs : r.state = .switching)
    (hj : r.channel = some j) : InStep off ((s.settled c r.target j r.tag).forgetRecord c) := by
  have hseat := h.seats c
  have hlive := hseat.live_of_record hr
  obtain ⟨i, hres⟩ := hseat.reserves hr
  obtain rfl : j = i := Option.some.inj (hj.symm.trans hres.channel)
  have hleave := hres.leaving hs
  have hapart : ¬(r.target = s.calls[c].base ∧ j = s.calls[c].channel) := fun e => by
    rw [← e.1, ← e.2, hres.reserved] at hleave
    cases hleave
  rw [settled_of_switched ⟨hleave, hres.reserved⟩, State.forgetRecord, updCall_markCall, updCall_markCall,
    updCall_updCall]
  refine InStep.markCall (InStep.markCall ?_)
  have hchan : ∀ x k, (s.moveChans c r.target j).chan x k =
      if r.target = x ∧ j = k then .held c
      else if s.calls[c].base = x ∧ s.calls[c].channel = k then .free else s.chan x k := fun x k => by
    rw [State.moveChans, setChan_get, setChan_get]
  refine h.onCall c rfl (fun d hd => updCall_other hd.symm _ _) (fun x k => ?_) ?_ (fun x k hx => ?_) ?_
  · rw [show ∀ f, ((s.moveChans c r.target j).updCall c f).chan x k = _ from fun _ => hchan x k]
    split
    · next e =>
      rw [← e.1, ← e.2, hres.reserved]
      exact .inr ⟨namesOnly_reserved c r.tag, namesOnly_held c⟩
    · split
      · next e =>
        rw [← e.1, ← e.2, hleave]
        exact .inr ⟨namesOnly_leaving c, namesOnly_free c⟩
      · exact .inl rfl
  · rw [updCall_get, if_pos rfl]
    refine .of_held hlive rfl ((hchan _ _).trans (if_pos ⟨rfl, rfl⟩)) fun x k hx => ?_
    rw [show ∀ f, ((s.moveChans c r.target j).updCall c f).chan x k = _ from fun _ => hchan x k] at hx
    split at hx
    · assumption
    · next ht =>
      split at hx
      · cases hx
      · next hb =>
        rcases hseat.only x k hx with ⟨-, hx, hk⟩ | ⟨q, hq, hqt, hqj⟩
        · exact absurd ⟨hx, hk⟩ hb
        · rw [hr] at hq
          cases hq
          exact absurd ⟨hqt, Option.some.inj (hj.symm.trans hqj)⟩ ht
  · rw [show ∀ f, ((s.moveChans c r.target j).updCall c f).chan x k = _ from fun _ => hchan x k] at hx
    split at hx
    · next e =>
      rw [← e.1, ← e.2, hres.reserved]
      exact .inl rfl
    · split at hx
      · cases hx
      · exact .inl hx
  · rw [updCall_get, if_pos rfl]
    intro n hn
    rcases base_of_mem_changedSet hn with ⟨m, hm, hb⟩ | ⟨hb, hv⟩
    · rw [← hb]
      exact h.sets c m hm
    · rw [hb]
      exact .inl hv

/-- A handover completes (R121). -/
theorem completeHandover (h : InStep off s) (hr : s.calls[c].handover = some r) (hs : r.state = .switching)
    (hj : r.channel = some j) : InStep off (s.completeHandover c r j) := by
  have hl : InStep off (((s.settled c r.target j r.tag).locate s.calls[c].handset r.target).forgetRecord c) :=
    (h.settled hr hs hj).same (forgetRecord_stepView (locate_stepView _ _ _))
  have hd : InStep off (s.handedOver c r j) := hl.removeRecord.markCall.bumpBase.bumpBase
  rw [completeHandover_eq]
  exact hd.answerMove

end InStep

end Sys2Proof.Machine
end

section
/-! SUPPORT. The laws of O41 over the ends of calls, drains and withdrawals, and over the events of the links (R12, R66,
R72, R127, R133, R136, R139). -/

namespace Sys2Proof.Machine

open Sys2Proof

variable {s t u : State} {c : CallNo} {b : BaseNo} {off : List BaseNo}

/-! ### The end of a call (R66) -/

theorem stepFrame_of_stepView (e : t.stepView = s.stepView) : t.stepFrame = s.stepFrame := (stepView_fields e).2.2

theorem endRecord_stepFrame (s : State) (c : CallNo) : (s.endRecord c).stepFrame = s.stepFrame := by
  cases h : s.calls[c].handover with
  | none => rw [endRecord_of_none h]
  | some r =>
    have hr : ((s.dropBatch c).releaseTarget r).stepFrame = s.stepFrame := by
      unfold State.releaseTarget
      split
      · exact send_stepFrame (s.dropBatch c) _ _
      · rfl
    rw [endRecord_of_record h]
    exact (stepFrame_of_stepView (answerMove_stepView _ _ _)).trans hr

theorem releaseServing_stepFrame (s : State) (c : CallNo) (r : EndReason) :
    (s.releaseServing c r).stepFrame = s.stepFrame := by
  unfold State.releaseServing
  split
  · exact send_stepFrame s _ _
  · rfl

theorem callEndActions_stepFrame (s : State) (c : CallNo) (r : EndReason) :
    (s.callEndActions c r).stepFrame = s.stepFrame := by
  have hf : (((((s.endRecord c).releaseServing c r).freeChannelsOf c).dropFilters c).restDecision c).stepFrame =
      s.stepFrame := (releaseServing_stepFrame _ c r).trans (endRecord_stepFrame s c)
  have hu := fun v : State => stepFrame_of_stepView (unbindCall_stepView v s.calls[c].handset)
  have hm : ∀ v : State, (v.markEnded c r).stepFrame = v.stepFrame := fun _ => rfl
  rw [callEndActions_eq, stepFrame_of_stepView (countLost_stepView _ r), hm, hu, hf]

namespace InStep

/-- A call that ends is named by no channel, and its set is empty (R66). -/
theorem callEndActions {r : EndReason} (h : InStep off s) : InStep off (s.callEndActions c r) := by
  have hchan := callEndActions_chan s c r
  refine h.onCall c (callEndActions_stepFrame s c r) (fun d hd => callEndActions_other s c r hd) (fun x k => ?_) ?_
    (fun x k hx => ?_) ?_
  · rw [hchan]
    split
    · next hn => exact .inr ⟨namesOnly_of_names hn, namesOnly_free c⟩
    · exact .inl rfl
  · rw [callEndActions_self]
    refine .of_unnamed rfl rfl fun x k => ?_
    rw [hchan]
    split
    · rfl
    · next hn => exact Bool.eq_false_iff.mpr hn
  · rw [hchan] at hx
    split at hx
    · cases hx
    · exact .inl hx
  · rw [callEndActions_self]
    exact nofun

/-! ### Bases that leave service, and withdrawals (R139) -/

/-- Links change: a base that is in service, or being withdrawn, is so afterwards and keeps its channels. -/
theorem relink {off' : List BaseNo} (h : InStep off s) (hv : t.chans = s.chans) (hc : t.calls = s.calls)
    (hp : t.startFrame = s.startFrame)
    (hl : ∀ x, s.usable off x → t.usable off' x ∧ t.links[x].effCount = s.links[x].effCount) : InStep off' t := by
  have hm : t.chan = s.chan := by
    funext x k
    rw [State.chan, hv]
    rfl
  refine ⟨fun c => ?_, fun x k hx => ?_, fun c n hn => ?_, (congrArg Prod.fst hp).trans h.running,
    startOrder_congr hp h.order⟩
  · rw [hm, hc]
    exact h.seats c
  · rw [hm] at hx
    obtain ⟨hlt, hu⟩ := h.inUse x k hx
    obtain ⟨hu', he⟩ := hl x hu
    exact ⟨he ▸ hlt, hu'⟩
  · rw [hc] at hn
    exact (hl _ (h.sets c n hn)).1

/-- A base leaves service: it is then one of those being withdrawn. -/
theorem leave {l : Link} (h : InStep off s) (hk : t.links = s.links.set b l) (he : l.effCount = s.links[b].effCount)
    (hv : t.chans = s.chans) (hc : t.calls = s.calls) (hp : t.startFrame = s.startFrame) : InStep (b :: off) t := by
  refine h.relink hv hc hp fun x hx => ?_
  have hget : t.links[x] = if b = x then l else s.links[x] := by rw [hk, getElem_set_fin]
  by_cases e : b = x
  · subst e
    exact ⟨.inr (.head off), by rw [hget, if_pos rfl, he]⟩
  · rw [if_neg e] at hget
    refine ⟨?_, by rw [hget]⟩
    rw [State.usable, State.inService, State.service, hget]
    exact hx.imp id (.tail b)

theorem enterStopped {v : Byte} (h : InStep off s) : InStep (b :: off) (s.enterStopped b v) :=
  h.leave (enterStopped_links s b v) rfl rfl rfl rfl

theorem loseLink (h : InStep off s) : InStep (b :: off) (s.loseLink b) :=
  h.leave (loseLink_links s b) rfl rfl rfl rfl

theorem targetLostNotice (h : InStep off s) : InStep off (s.targetLostNotice b) := h.foldl attemptEnd _

theorem drainStartNotice (h : InStep off s) : InStep off (s.drainStartNotice b) := h.foldl attemptEnd _

theorem removeFromSets (h : InStep off s) : InStep off (s.removeFromSets b) := by
  have hr : ∀ {v : State} {d : CallNo}, InStep off v → InStep off (v.removeFromSet b d) := fun {v d} hv =>
    InStep.markCall (hv.updSet fun n hn => hv.sets d n (List.mem_filter.mp hn).1)
  exact h.foldl hr _

end InStep

theorem freeBase_get (s : State) (b x : BaseNo) (k : ChanNo) :
    (s.freeBase b).chan x k = if b = x then if s.chan x k = .blocked then .blocked else .free else s.chan x k := by
  rw [State.chan, State.freeBase]
  dsimp only
  rw [getElem_set_fin]
  split
  · next e =>
    subst e
    rw [getElem_mapTable]
    show (if s.chan b k = .blocked then s.chan b k else .free) = _
    split
    · assumption
    · rfl
  · rfl

namespace InStep

/-- A base that serves no call, and awaits none, has no channel in use: freeing them changes nothing (R72). -/
theorem freeBase (h : InStep off s) (hw : (s.freeBase b).withdrawn b) : InStep off (s.freeBase b) := by
  obtain ⟨hserve, htarget, -, -⟩ := hw
  have hidle : ∀ k, s.chan b k = .free ∨ s.chan b k = .blocked := fun k => by
    refine free_or_blocked_of_idle (Bool.eq_false_iff.mpr fun hu => ?_)
    obtain ⟨c, hc⟩ := chanInUse_iff.mp hu
    rcases (h.seats c).only b k hc with ⟨hl, hb, -⟩ | ⟨r, hr, ht, -⟩
    · exact hserve c ⟨hl, hb⟩
    · exact htarget c r hr ht
  refine h.of_chan (fun x k => ?_) rfl rfl
  rw [freeBase_get]
  split
  · next e =>
    subst e
    rcases hidle k with e | e <;> rw [e] <;> rfl
  · rfl

/-- The last steps of the withdrawal of a base that serves no call: it is no longer one of those being withdrawn
(R139). -/
theorem withdrawTail (h : InStep (b :: off) s) (hb : s.servedBy b = []) : InStep off (s.withdrawTail b) :=
  close (freeBase h.targetLostNotice.removeFromSets (withdrawTail_withdrawn hb)) (withdrawTail_withdrawn hb)

/-! ### Drains (Chapter 8) -/

theorem handBack {i : SlotNo} {x : OrderResult} (h : InStep off s) : InStep off (s.handBack i x) :=
  h.same (handBack_stepView s i x)

theorem send {m : Downlink} (h : InStep off s) : InStep off (s.send b m) := h.same (send_stepView s b m)

theorem bump {k : GlobalCounter} (h : InStep off s) : InStep off (s.bump k) := h.same rfl

theorem setDrain {d : Option DrainRecord} (h : InStep off s) : InStep off (s.setDrain b d) := h.same rfl

theorem endDrain {d : DrainRecord} {v : Verdict} {n : Nat} (h : InStep off s) : InStep off (s.endDrain b d v n) :=
  handBack h.setDrain

theorem drainComplete {d : DrainRecord} {n : Nat} (h : InStep off s) (hb : s.servedBy b = []) :
    InStep off (s.drainComplete b d n) :=
  (withdrawTail (h.enterStopped (v := attnLink ||| attnDrained)) hb).endDrain

theorem drainCheck (h : InStep off s) : InStep off (s.drainCheck b) := by
  unfold State.drainCheck
  split
  · split
    · next hb => exact h.drainComplete (List.isEmpty_iff.mp hb)
    · exact h
  · exact h

theorem callLeftNotice (h : InStep off s) : InStep off (s.callLeftNotice b) := by
  unfold State.callLeftNotice
  split
  · split
    · exact h.setDrain.drainCheck
    · exact h
  · exact h

theorem callEndNotice (h : InStep off s) : InStep off (s.callEndNotice b) := by
  unfold State.callEndNotice
  split
  · split
    · exact h.setDrain.drainCheck
    · exact h.setDrain
  · exact h

theorem endCall {r : EndReason} (h : InStep off s) : InStep off (s.endCall c r) := by
  unfold State.endCall
  split
  · dsimp only
    split
    · exact h.callEndActions.callEndNotice
    · exact h.callEndActions
  · exact h

theorem endServed {r : EndReason} (h : InStep off s) : InStep off (s.endServed b r) := h.foldl endCall _

/-- A withdrawal takes the base out of the tables: every law holds again (R139). -/
theorem withdraw {r : EndReason} (h : InStep (b :: off) s) : InStep off (s.withdraw b r) :=
  h.endServed.withdrawTail (endServed_servedBy s b r)

theorem failDrain {f : FailCode} (h : InStep off s) : InStep off (s.failDrain b f) := by
  unfold State.failDrain
  split
  · exact h.endDrain
  · exact h

theorem clearDrain {d : DrainRecord} (h : InStep off s) : InStep off (s.clearDrain b d) := by
  have hv : InStep off (s.setDrain b (some { d with phase := .clearing })) := h.setDrain
  unfold State.clearDrain
  dsimp only
  split
  · exact hv.endServed.drainComplete (endServed_servedBy _ b .drained)
  · exact hv.endServed

theorem takeDrainLimit (h : InStep off s) : InStep off (s.takeDrainLimit b) := by
  unfold State.takeDrainLimit
  split
  · split
    · exact h.clearDrain
    · exact h
  · exact h

theorem offerDrainMove (h : InStep off s) : InStep off (s.offerDrainMove c) := by
  unfold State.offerDrainMove
  split
  · next hc =>
    split
    · exact h
    · split
      · exact h.setDrain.startHandover_of_connected hc
      · exact h
  · exact h

/-! ### Links that change (Chapter 1) -/

/-- A link changes: where its base is in service it stays so, and keeps its channels. -/
theorem updLink {f : Link → Link} (h : InStep [] s)
    (hf : s.inService b → ((f s.links[b]).service = .serving ∨ (f s.links[b]).service = .draining) ∧
      (f s.links[b]).effCount = s.links[b].effCount) : InStep [] (s.updLink b f) := by
  refine h.relink rfl rfl rfl fun x hx => ?_
  rw [State.usable, State.inService, State.service, updLink_get]
  split
  · next e =>
    subst e
    obtain ⟨hv, he⟩ := hf (hx.resolve_right List.not_mem_nil)
    exact ⟨.inl hv, he⟩
  · exact ⟨hx, rfl⟩

/-- A link that is not in service changes. -/
theorem updLink_off {f : Link → Link} (h : InStep [] s) (hs : s.service b ≠ .serving) (hd : s.service b ≠ .draining) :
    InStep [] (s.updLink b f) :=
  h.updLink fun hx => (hx.elim hs hd).elim

theorem pendBase {v : Byte} (h : InStep off s) : InStep off (s.pendBase b v) := h.same rfl

/-- A base comes into service, or stays in it. -/
theorem changeService {v : Service} (h : InStep [] s) (hv : v = .serving ∨ v = .draining) :
    InStep [] (s.changeService b v) :=
  pendBase (h.updLink fun _ => ⟨hv, rfl⟩)

theorem startDrain {i : SlotNo} {n : Nat} (h : InStep [] s) : InStep [] (s.startDrain i b n) := by
  have hs : InStep [] ((s.setDrain b (some (s.newDrain i n))).changeService b .draining) :=
    changeService h.setDrain (.inr rfl)
  exact (hs.drainStartNotice.foldl offerDrainMove _).drainCheck

theorem takeDrainBase {i : SlotNo} {n : Nat} (h : InStep [] s) : InStep [] (s.takeDrainBase i b n) := by
  unfold State.takeDrainBase
  split
  · exact h.handBack
  · exact h.startDrain
  all_goals exact h.handBack

theorem takeStopBase {i : SlotNo} (h : InStep off s) : InStep off (s.takeStopBase i b) :=
  (enterStopped (v := attnLink) (failDrain (f := .stopped) h)).withdraw.handBack

theorem takeStartBase {i : SlotNo} (h : InStep [] s) : InStep [] (s.takeStartBase i b) := by
  unfold State.takeStartBase
  split
  · next hs => exact (pendBase (h.updLink_off (by rw [hs]; decide) (by rw [hs]; decide))).handBack
  · exact h.handBack

theorem baseLost (h : InStep off s) : InStep off (s.baseLost b) := (failDrain (f := .baseLost) h).loseLink.withdraw

theorem setHead {x : Head} (h : InStep off s) : InStep off (s.setHead b x) := h.same (updLink_stepView rfl rfl)

theorem transmitHead (h : InStep off s) : InStep off (s.transmitHead b) := by
  rcases transmitHead_cases s b with e | ⟨m, e⟩ <;> rw [e]
  · exact h
  · exact h.same rfl

theorem dropHead (h : InStep off s) : InStep off (s.dropHead b) := by
  have hq : InStep off (s.updLink b fun l => { l with queue := l.queue.tail }) := h.same (updLink_stepView rfl rfl)
  exact transmitHead (hq.same (updLink_stepView rfl rfl))

theorem restartSilence (h : InStep off s) : InStep off (s.restartSilence b) := h.same (restartSilence_stepView s b)

theorem emptyQueue (h : InStep off s) : InStep off (s.emptyQueue b) := h.same (updLink_stepView rfl rfl)

theorem stopTransmit (h : InStep off s) : InStep off (s.stopTransmit b) :=
  h.emptyQueue.same (transmit_stepView _ _ _)

theorem retryAction (h : InStep off s) : InStep off (s.retryAction b) := by
  unfold State.retryAction
  split
  · exact h.bumpBase.dropHead
  · exact h.baseLost

theorem deferHead {x : Head} (h : InStep off s) : InStep off (s.deferHead b x) := by
  unfold State.deferHead
  dsimp only
  split
  · exact h.bumpBase.setHead
  · exact h.bumpBase.retryAction

theorem expireHead {x : Head} (h : InStep off s) : InStep off (s.expireHead b x) := by
  unfold State.expireHead
  dsimp only
  split
  · exact h.bumpBase.setHead.transmitHead
  · exact h.bumpBase.retryAction

theorem takeHello {n : Nat} (h : InStep [] s) : InStep [] (s.takeHello b n) := by
  unfold State.takeHello
  split
  · next hs =>
    split
    · exact (h.updLink_off (by rw [hs]; decide) (by rw [hs]; decide)).send
    · exact h.stopTransmit
  · exact h.restartSilence
  · exact h.baseLost
  · exact h.baseLost
  · exact h.bump

theorem takeReadyMessage (h : InStep [] s) : InStep [] (s.takeReadyMessage b) := by
  unfold State.takeReadyMessage
  split
  · exact pendBase (h.updLink fun _ => ⟨.inl rfl, rfl⟩)
  · exact h.bump

theorem takeAccept (h : InStep off s) : InStep off (s.takeAccept b) := by
  unfold State.takeAccept
  split
  · exact h.dropHead
  · exact h

theorem takeDefer (h : InStep off s) : InStep off (s.takeDefer b) := by
  unfold State.takeDefer
  split
  · exact h.deferHead
  · exact h

theorem takeJoinTimer (h : InStep [] s) : InStep [] (s.takeJoinTimer b) := by
  unfold State.takeJoinTimer
  split
  · next hs =>
    obtain ⟨hs, -⟩ := hs
    exact (h.updLink_off (by rw [hs]; decide) (by rw [hs]; decide)).emptyQueue
  · exact h

theorem takeSilenceTimer (h : InStep off s) : InStep off (s.takeSilenceTimer b) := by
  unfold State.takeSilenceTimer
  split
  · exact h.baseLost
  · exact h

theorem takeRetransmit (h : InStep off s) : InStep off (s.takeRetransmit b) := by
  unfold State.takeRetransmit
  split
  · split
    · exact h.setHead.transmitHead
    · exact h
  · exact h

theorem takeAnswerTimeout (h : InStep off s) : InStep off (s.takeAnswerTimeout b) := by
  unfold State.takeAnswerTimeout
  split
  · split
    · exact h.expireHead
    · exact h
  · exact h

end InStep

end Sys2Proof.Machine
end

section
/-! SUPPORT. The laws of O41 over the events of the roster, the pages, the calls, the levels, the handovers and the
orders (R56, R58, R90). -/

namespace Sys2Proof.Machine

open Sys2Proof

variable {s t u : State} {c : CallNo} {b : BaseNo} {off : List BaseNo}

namespace InStep

/-! ### The roster (Chapter 2) -/

theorem updEntry {x : HandsetNo} {f : RosterEntry → RosterEntry} (h : InStep off s) : InStep off (s.updEntry x f) :=
  h.same rfl

theorem markHandset {x : HandsetNo} {v : Byte} (h : InStep off s) : InStep off (s.markHandset x v) := h.same rfl

theorem locate {x : HandsetNo} (h : InStep off s) : InStep off (s.locate x b) := h.same (locate_stepView s x b)

theorem heard {x : HandsetNo} (h : InStep off s) : InStep off (s.heard x) := by
  unfold State.heard
  split
  · exact h.updEntry.markHandset
  · exact h

theorem renew {x : HandsetNo} (h : InStep off s) : InStep off (s.renew x) := h.updEntry.markHandset

theorem setAttaches {l : List PendingAttach} {k : Option Lookup} (h : InStep off s) : InStep off (s.setAttaches l k) :=
  h.same rfl

theorem endCallOf {x : HandsetNo} {r : EndReason} (h : InStep off s) : InStep off (s.endCallOf x r) := by
  unfold State.endCallOf
  split
  · exact h.endCall
  · exact h

theorem endPage {p : PageRecord} {v : Verdict} {d z : Nat} (h : InStep off s) : InStep off (s.endPage p v d z) :=
  h.same (endPage_stepView s p v d z)

theorem pageFreedNotice {x : HandsetNo} (h : InStep off s) : InStep off (s.pageFreedNotice x) := by
  unfold State.pageFreedNotice
  split
  · exact h.endPage
  · exact h

theorem freeEntry {x : HandsetNo} {r : EndReason} (h : InStep off s) : InStep off (s.freeEntry x r) :=
  h.endCallOf.pageFreedNotice.updEntry.markHandset

theorem reattach {x : HandsetNo} {i : Identity} (h : InStep off s) : InStep off (s.reattach b x i) := by
  have he : InStep off (s.reattachEntry b x) := h.endCallOf.locate.updEntry.renew
  unfold State.reattach
  split
  · next e => exact (he.append_eq e).bump
  · next e => exact (he.append_eq e).bump

theorem answerAgain {i : Identity} (h : InStep off s) : InStep off (s.answerAgain b i) := h.send.bump

theorem takeAttach {i : Identity} (h : InStep off s) : InStep off (s.takeAttach b i) := by
  unfold State.takeAttach
  split
  · exact h.reattach
  · split
    · exact h.setAttaches
    · split
      · exact h.answerAgain
      · exact h.setAttaches

theorem takeRefresh {x : HandsetNo} {v : BitVec 16} (h : InStep off s) : InStep off (s.takeRefresh b x v) := by
  have he : InStep off (((s.updEntry x fun e => { e with heardFrame := s.now }).renew x).markHandset x 0) :=
    h.updEntry.renew.markHandset
  unfold State.takeRefresh State.refreshEntry
  split
  · dsimp only
    split
    · exact he
    · exact he.locate
  · exact h.answerAgain

theorem takeDetach {x : HandsetNo} (h : InStep off s) : InStep off (s.takeDetach x) := by
  unfold State.takeDetach
  split
  · exact h.freeEntry.bump
  · exact h.bump

theorem takeLifetime {x : HandsetNo} (h : InStep off s) : InStep off (s.takeLifetime x) := by
  unfold State.takeLifetime
  split
  · exact h.freeEntry.bump
  · exact h

theorem takeDeregister {i : SlotNo} {x : HandsetNo} (h : InStep off s) : InStep off (s.takeDeregister i x) := by
  unfold State.takeDeregister
  split
  · exact h.send.freeEntry.bump.handBack
  · exact h.handBack

theorem registerHandset {r : PendingAttach} {x : HandsetNo} {p : Nat} {e : Subscription} (h : InStep off s) :
    InStep off (s.registerHandset r x p e) := by
  unfold State.registerHandset
  split
  · next e => exact (h.append_eq e).updEntry.markHandset.bump
  · next e => exact (h.append_eq e).bump

theorem rejectAttach {r : PendingAttach} {v : AttachVerdict} (h : InStep off s) : InStep off (s.rejectAttach r v) :=
  h.send.bump

theorem answerLookup {r : PendingAttach} {f : Option (Nat × Subscription)} (h : InStep off s) :
    InStep off (s.answerLookup r f) := by
  unfold State.answerLookup
  split
  · exact h.rejectAttach
  · split
    · exact h.rejectAttach
    · split
      · exact h.rejectAttach
      · split
        · exact h.rejectAttach
        · exact h.registerHandset

theorem endLookup {f : Option (Nat × Subscription)} (h : InStep off s) : InStep off (s.endLookup f) := by
  unfold State.endLookup
  split
  · exact h.setAttaches
  · refine setAttaches ?_
    split
    · exact h.setAttaches.answerLookup
    · exact h.setAttaches.bump

theorem searchBounds {x y : Nat} (h : InStep off s) : InStep off (s.searchBounds x y) := h.setAttaches

theorem takeSubCount {n : Nat} (h : InStep off s) : InStep off (s.takeSubCount n) := by
  unfold State.takeSubCount
  dsimp only
  split
  · exact h.endLookup
  · exact h.searchBounds

theorem takeSubEntry {i : Identity} {x y : Nat} {e : Subscription} (h : InStep off s) :
    InStep off (s.takeSubEntry i x y e) := by
  unfold State.takeSubEntry
  dsimp only
  split
  · exact h.endLookup
  · split
    · split
      · exact h.endLookup
      · exact h.searchBounds
    · split
      · exact h.endLookup
      · exact h.searchBounds

/-! ### Pages (Chapter 3) -/

theorem setPages {p : List PageRecord} (h : InStep off s) : InStep off (s.setPages p) := h.same rfl

theorem makeRound {p : PageRecord} {z : ZoneNo} (h : InStep off s) : InStep off (s.makeRound p z) :=
  (h.same (pageAppends_stepView _ _ (s, p))).setPages

theorem takePage {i : SlotNo} {x : HandsetNo} (h : InStep off s) : InStep off (s.takePage i x) := by
  unfold State.takePage
  split
  · exact h.handBack
  · unfold State.startPage
    split
    · exact h
    · exact h.setPages.makeRound

theorem expireRound {p : PageRecord} (h : InStep off s) : InStep off (s.expireRound p) := by
  unfold State.expireRound
  split
  · split
    · exact h.makeRound
    · split
      · exact h.makeRound
      · exact h.endPage
  · exact h.endPage

theorem takeRoundTimer {x : HandsetNo} (h : InStep off s) : InStep off (s.takeRoundTimer x) := by
  unfold State.takeRoundTimer
  split
  · split
    · exact h.expireRound
    · exact h
  · exact h

theorem pageAnswered {x : HandsetNo} (h : InStep off s) : InStep off (s.pageAnswered b x) := by
  unfold State.pageAnswered
  split
  · split
    · exact h.locate.renew.endPage
    · exact h.locate
  · exact h.bump

theorem pageCallNotice {x : HandsetNo} (h : InStep off s) : InStep off (s.pageCallNotice x b) := by
  unfold State.pageCallNotice
  split
  · exact h.endPage
  · exact h

/-! ### Calls (Chapter 4) -/

end InStep

theorem admitCall_stepFrame (s : State) (b : BaseNo) (x : HandsetNo) (k : ChanNo) (c : CallNo) (paged : Bool) :
    (s.admitCall b x k c paged).stepFrame = s.stepFrame := by
  have hb := stepFrame_of_stepView (bindCall_stepView (s.callEntered b x k c paged) x c)
  have hl := fun v : State => stepFrame_of_stepView (locate_stepView v x b)
  have hm : ∀ v : State, ((v.markCall c attnState).bumpBase b .admitted).stepFrame = v.stepFrame := fun _ => rfl
  rw [State.admitCall, hm, hl, ← State.callEntered, hb]
  rfl

namespace InStep

/-- A FREE entry takes a call on a FREE channel of a SERVING base (R62). -/
theorem admitCall {x : HandsetNo} {k : ChanNo} {paged : Bool} (h : InStep off s) (hk : s.chan b k = .free)
    (hl : k.val < s.links[b].effCount) (hv : s.service b = .serving) (hf : s.calls[c].state = .free)
    (hr : s.roster[x].registered = true) (hn : s.roster[x].call = none) :
    InStep off (s.admitCall b x k c paged) := by
  obtain ⟨hchans, hcalls, -⟩ := admitCall_tables (s := s) (b := b) (k := k) (c := c) paged hr hn
  have hself : (s.admitCall b x k c paged).calls[c] = admittedCall s.calls[c] b x k paged s.now := by
    rw [hcalls, callEntered_self]
  have hchan : ∀ y j, (s.admitCall b x k c paged).chan y j = if b = y ∧ k = j then .held c else s.chan y j :=
    fun y j => by
      rw [← setChan_get s b y k j (.held c), State.chan, State.chan, hchans]
  have hidle := (h.seats c).unnamed (by rw [hf]; rfl)
  have hrec : s.calls[c].handover = none := (h.seats c).no_record (by rw [hf]; decide)
  refine h.onCall c (admitCall_stepFrame s b x k c paged) (fun d hd => ?_) (fun y j => ?_) ?_ (fun y j hx => ?_) ?_
  · rw [hcalls, callEntered_other hd]
  · rw [hchan]
    split
    · next e =>
      rw [← e.1, ← e.2, hk]
      exact .inr ⟨namesOnly_free c, namesOnly_held c⟩
    · exact .inl rfl
  · rw [hself]
    refine .of_held rfl hrec ((hchan b k).trans (if_pos ⟨rfl, rfl⟩)) fun y j hx => ?_
    rw [hchan] at hx
    split at hx
    · assumption
    · rw [hidle] at hx
      cases hx
  · rw [hchan] at hx
    split at hx
    · next e =>
      rw [← e.1, ← e.2]
      exact .inr ⟨hl, .inl (.inl hv)⟩
    · exact .inl hx
  · rw [hself]
    exact h.sets c

/-- A CALL REQUEST that passes every check is admitted, or refused for want of room in the queue (R62). -/
theorem admission {x : HandsetNo} {paged : Bool} (h : InStep off s) (hv : s.callRefusal b x = none) :
    InStep off (s.admission b x paged) := by
  obtain ⟨hs, hr, hn, -⟩ := callRefusal_eq_none.mp hv
  unfold State.admission
  split
  · next k c hk hc =>
    obtain ⟨hfree, hlt⟩ := mem_freeChannels.mp (List.mem_of_head? hk)
    obtain ⟨hcall, -⟩ := freeCall_some hc
    split
    · next t ht =>
      have e := append_stepView_of_eq ht
      obtain ⟨ev, ec, ef⟩ := stepView_fields e
      have el := (stepFrame_fields ef).1 b
      have er := (callTables_fields (append_callTables_of_eq s ht)).2.2
      exact (h.append_eq ht).admitCall (by rw [State.chan, ev]; exact hfree) (by rw [effCount_congr el]; exact hlt)
        ((congrArg Prod.fst el).trans hs) (by rw [ec]; exact hcall) (by rw [er]; exact hr) (by rw [er]; exact hn)
    · next ht => exact (h.append_eq ht).bumpBase
  · exact h

theorem takeCallRequest {x : HandsetNo} {paged : Bool} (h : InStep off s) :
    InStep off (s.takeCallRequest b x paged) := by
  have hp : InStep off (if s.roster[x].registered then s.pageCallNotice x b else s) := by
    split
    · exact h.pageCallNotice
    · exact h
  unfold State.takeCallRequest
  dsimp only
  split
  · exact hp.send.bumpBase
  · next hn => exact hp.admission hn

theorem takeCallEnd {k : ChanNo} (h : InStep off s) : InStep off (s.takeCallEnd b k) := by
  unfold State.takeCallEnd
  split
  · split
    · exact h.endCall
    · exact h.endCall
    all_goals exact h.bump
  · exact h.bump

theorem targetDropped {r : Handover} (h : InStep off s) : InStep off (s.targetDropped c r) := by
  unfold State.targetDropped
  split
  · exact h.endCall
  · exact h.attemptEnd

theorem oldSideDropped (h : InStep off s) : InStep off (s.oldSideDropped c) := by
  unfold State.oldSideDropped
  split
  · split
    · exact (h.updHandover (f := fun q => { q with oldDropped := true }) fun _ _ => ⟨rfl, rfl, rfl, .rfl⟩).markCall
    · exact h.bump
  · exact h.bump

/-- The candidate whose record is not SWITCHING fails (R113). -/
theorem candidateFail_of_state {r : Handover} {a : AbortReason} (h : InStep off s)
    (hr : s.calls[c].handover = some r) (hs : r.state ≠ .switching) : InStep off (s.candidateFail c a) :=
  h.candidateFail fun q hq => by
    rw [hr] at hq
    cases hq
    exact hs

theorem reservedDropped {k : ChanNo} {g : AttemptTag} (h : InStep off s) : InStep off (s.reservedDropped b k c g) := by
  unfold State.reservedDropped
  split
  · next r hr =>
    split
    · split
      · exact h.targetDropped
      · next hs => exact h.candidateFail_of_state hr hs
    · exact h.bump
  · exact h.bump

theorem takeChannelDropped {k : ChanNo} (h : InStep off s) : InStep off (s.takeChannelDropped b k) := by
  unfold State.takeChannelDropped
  split
  · split
    · exact h.endCall
    · exact h.oldSideDropped
    · exact h.reservedDropped
    all_goals exact h.bump
  · exact h.bump

theorem takeClearCall {i : SlotNo} (h : InStep off s) : InStep off (s.takeClearCall i c) := by
  unfold State.takeClearCall
  split
  · exact h.endCall.handBack
  · exact h.handBack

/-- A channel that is not in use becomes FREE or BLOCKED (R73, R74). -/
theorem setChan {k : ChanNo} {v : Chan} (h : InStep off s) (hs : chanInUse (s.chan b k) = false)
    (hv : chanInUse v = false) : InStep off (s.setChan b k v) := by
  have hnone : ∀ {w : Chan} (d : CallNo), chanInUse w = false → chanNames d w = false := fun {w} d hw =>
    Bool.eq_false_iff.mpr fun hn => Bool.eq_false_iff.mp hw (chanInUse_iff.mpr ⟨d, hn⟩)
  have hname : ∀ x j d, chanNames d ((s.setChan b k v).chan x j) = chanNames d (s.chan x j) := fun x j d => by
    rw [setChan_get]
    split
    · next e => rw [← e.1, ← e.2, hnone d hs, hnone d hv]
    · rfl
  have hkept : ∀ x j, chanInUse (s.chan x j) = true → (s.setChan b k v).chan x j = s.chan x j := fun x j hx => by
    refine (setChan_get s b x k j v).trans (if_neg fun e => ?_)
    rw [← e.1, ← e.2, hs] at hx
    cases hx
  have hused : ∀ x j, chanInUse ((s.setChan b k v).chan x j) = true → chanInUse (s.chan x j) = true := fun x j hx => by
    obtain ⟨d, hd⟩ := chanInUse_iff.mp hx
    rw [hname] at hd
    exact chanInUse_iff.mpr ⟨d, hd⟩
  refine ⟨fun d => ⟨fun hl => ?_, fun r hr => ?_, fun x j hx => ?_⟩, fun x j hx => h.inUse x j (hused x j hx), h.sets,
    h.running, h.order⟩
  · have hd := (h.seats d).serving hl
    refine (hkept _ _ ?_).trans hd
    rw [State.setChan_calls, hd]
    rcases servingChan_cases d s.calls[d] with ⟨e, -⟩ | ⟨e, -⟩ <;> rw [e] <;> rfl
  · obtain ⟨hm, j, hj, hd⟩ := (h.seats d).record r hr
    refine ⟨hm, j, hj, (hkept _ _ ?_).trans hd⟩
    rw [hd]
    rfl
  · rw [hname] at hx
    exact (h.seats d).only x j hx

theorem takeBlockChannel {i : SlotNo} {k : ChanNo} (h : InStep off s) : InStep off (s.takeBlockChannel i b k) := by
  unfold State.takeBlockChannel
  split
  · next hk => exact (h.setChan (by rw [hk]; rfl) rfl).handBack
  · exact h.handBack

theorem takeUnblockChannel {i : SlotNo} {k : ChanNo} (h : InStep off s) : InStep off (s.takeUnblockChannel i b k) := by
  unfold State.takeUnblockChannel
  split
  · next hk => exact (h.setChan (by rw [hk]; rfl) rfl).handBack
  all_goals exact h.handBack

end InStep

/-! ### Level reports (Chapters 5 and 6) -/

/-- A pair brings no base into the set but one in service (R83, R85). -/
theorem takePair_bases {p : BaseNo → Prop} (hp : ∀ x, s.inService x → p x) {n : Nat} {q : PairScan}
    (h : ∀ m ∈ q.set, p m.base) (e : ReportedBase × LevelCode) : ∀ m ∈ (s.takePair b n q e).set, p m.base := by
  unfold State.takePair
  dsimp only
  split
  · exact h
  · next x _ =>
    split
    · exact h
    · next hc =>
      have hx : pairTaken (s.service x) = true := by
        simp only [Bool.or_eq_true, not_or, Bool.not_eq_true', Bool.not_eq_false] at hc
        exact hc.1.1
      dsimp only
      split
      · intro m hm
        obtain ⟨y, hy, rfl⟩ := List.mem_map.mp hm
        split <;> exact h y hy
      · intro m hm
        rcases mem_insertNeighbour hm with hm | hm
        · exact h m hm
        · rw [hm]
          exact hp x (inService_of_pairTaken hx)

theorem takePairs_bases {p : BaseNo → Prop} (hp : ∀ x, s.inService x → p x) {n : Nat} {l : List Neighbour}
    (h : ∀ m ∈ l, p m.base) (pairs : List (ReportedBase × LevelCode)) :
    ∀ m ∈ (s.takePairs b n l pairs).set, p m.base :=
  List.foldlRecOn (motive := fun q : PairScan => ∀ m ∈ q.set, p m.base) pairs _ h
    fun _ hq e _ => takePair_bases hp hq e

theorem rankAged_bases {p : BaseNo → Prop} {l : List Neighbour} (h : ∀ m ∈ l, p m.base) (limit : Nat)
    (named : List BaseNo) : ∀ m ∈ rankNeighbours (ageNeighbours limit named l), p m.base := by
  intro m hm
  obtain ⟨y, hy, rfl⟩ := List.mem_map.mp (List.mem_filter.mp ((rankNeighbours_perm _).mem_iff.mp hm)).1
  split <;> exact h y hy

namespace InStep

theorem filterReport {l : LevelCode} {p : List (ReportedBase × LevelCode)} (h : InStep off s) :
    InStep off (s.filterReport c b l p) := by
  have hset : ∀ m ∈ rankNeighbours (ageNeighbours (s.zoneAt b).staleLimit
      (s.takePairs b (s.zoneAt b).shift s.calls[c].neighbours p).named
      (s.takePairs b (s.zoneAt b).shift s.calls[c].neighbours p).set), s.usable off m.base :=
    rankAged_bases (takePairs_bases (fun _ => .inl) (h.sets c) p) _ _
  unfold State.filterReport
  exact InStep.markCall (InStep.same (h.updSet hset) (updCall_stepView (countIgnored_stepView s _)))

theorem leadStep {z : ZoneParams} {f : Nat} (h : InStep off s) : InStep off (s.leadStep c z f) := by
  unfold State.leadStep
  refine h.updSet fun m hm => ?_
  obtain ⟨y, hy, rfl⟩ := List.mem_map.mp hm
  exact h.sets c y hy

theorem watchStep {z : ZoneParams} {f e : Nat} (h : InStep off s) : InStep off (s.watchStep c z f e) :=
  h.updRest.markCall

theorem decisionTrigger {z : ZoneParams} (h : InStep off s) : InStep off (s.decisionTrigger c z) := by
  unfold State.decisionTrigger
  dsimp only
  split
  · next hc =>
    obtain ⟨hs, -⟩ := hc
    split
    · exact h
    · exact h.startHandover_of_connected hs
  · exact h

theorem handOff {e : Nat} (h : InStep off s) : InStep off (s.handOff c e) := by
  unfold State.handOff State.triggerStep
  split
  · have hk : ∀ z f, InStep off ((s.watchStep c z f e).leadStep c z f) := fun z f => h.watchStep.leadStep
    dsimp only
    split
    · exact (hk _ _).decisionTrigger
    · exact (hk _ _).offerDrainMove
    all_goals exact hk _ _
  · exact h

theorem takeLevelReport {k : ChanNo} {l : LevelCode} {e : Nat} {p : List (ReportedBase × LevelCode)}
    (h : InStep off s) : InStep off (s.takeLevelReport b k l e p) := by
  unfold State.takeLevelReport
  split
  · split
    · exact h.filterReport.handOff.heard
    · exact h.filterReport.handOff.heard
    all_goals exact h.bump
  · exact h.bump

/-! ### Answers, timers and orders of handovers (Chapter 7) -/

theorem staleRelease {j : ChanNo} {g : AttemptTag} (h : InStep off s) : InStep off (s.staleRelease b j c g) := by
  unfold State.staleRelease
  dsimp only
  split
  · exact InStep.send (InStep.bump (k := .stale) h)
  · exact h.bump

theorem takeArrived {j : ChanNo} {g : AttemptTag} (h : InStep off s) : InStep off (s.takeArrived b j c g) := by
  unfold State.takeArrived
  split
  · next r hm =>
    obtain ⟨hr, -, hj, -⟩ := matching_some hm
    split
    · next hs =>
      have hd := h.completeHandover hr hs hj
      unfold State.arrive
      dsimp only
      split
      · exact hd.callLeftNotice
      · exact hd
    · exact h.bump
  · exact h.staleRelease

theorem takeReserveAnswer {j : ChanNo} {g : AttemptTag} {v : ReserveVerdict} (h : InStep off s) :
    InStep off (s.takeReserveAnswer b j c g v) := by
  unfold State.takeReserveAnswer
  split
  · next r hm =>
    have hr := (matching_some hm).1
    unfold State.takeRefused
    split
    · next hs => exact h.candidateFail_of_state hr (by rw [hs]; decide)
    · next hs => exact h.candidateFail_of_state hr (by rw [hs]; decide)
    · exact h.targetDropped
  · next r hm =>
    split
    · next hs => exact h.takeReady (matching_some hm).1 hs
    · exact h.bump
  · exact h.staleRelease
  · exact h.bump

theorem takeReserveTimer (h : InStep off s) : InStep off (s.takeReserveTimer c) := by
  unfold State.takeReserveTimer
  split
  · next r hr =>
    split
    · next hs => exact h.candidateFail_of_state hr (by rw [hs.1]; decide)
    · exact h
  · exact h

theorem takeArrivalTimer (h : InStep off s) : InStep off (s.takeArrivalTimer c) := by
  unfold State.takeArrivalTimer
  split
  · split
    · unfold State.noArrival
      split
      · exact h.endCall
      · exact h.attemptEnd
    · exact h
  · exact h

theorem takeSettleTimer (h : InStep off s) : InStep off (s.takeSettleTimer c) := by
  unfold State.takeSettleTimer
  split
  · exact h.updRest
  · exact h

theorem takeHoldTimer (h : InStep off s) : InStep off (s.takeHoldTimer c) := by
  unfold State.takeHoldTimer
  split
  · exact h.updRest
  · exact h

theorem takeForceMove {i : SlotNo} (h : InStep off s) : InStep off (s.takeForceMove i c b) := by
  unfold State.takeForceMove
  split
  · exact h.handBack
  · next hn =>
    obtain ⟨hl, hr⟩ := moveRefusal_none hn
    exact h.startHandover hl hr

/-! ### CANCEL and AMEND PLAN -/

theorem answerCancel {i x : SlotNo} {v : Verdict} (h : InStep off s) : InStep off (s.answerCancel i x v) := h.handBack

theorem cancelMove {i x : SlotNo} {r : Handover} (h : InStep off s) : InStep off (s.cancelMove i x c r) := by
  unfold State.cancelMove
  split
  · exact h.answerCancel
  · exact h.attemptEnd.answerCancel

theorem cancelDrain {i x : SlotNo} {d : DrainRecord} (h : InStep [] s) : InStep [] (s.cancelDrain i x b d) :=
  (h.changeService (.inl rfl)).endDrain.answerCancel

theorem cancelKind {i x : SlotNo} {k : Byte} (h : InStep [] s) : InStep [] (s.cancelKind i x k) := by
  unfold State.cancelKind
  split
  · split
    · exact h.endPage.answerCancel
    · exact h.answerCancel
  · split
    · split
      · split
        · exact h.cancelMove
        · exact h.answerCancel
      · exact h.answerCancel
    · split
      · split
        · split
          · exact h.cancelDrain
          · exact h.answerCancel
        · exact h.answerCancel
      · exact h.answerCancel

theorem takeCancel {i x : SlotNo} (h : InStep [] s) : InStep [] (s.takeCancel i x) := by
  unfold State.takeCancel
  split
  · split
    · exact h.cancelKind
    · exact h.answerCancel
  · exact h.answerCancel

theorem noteClamps {n : Nat} (h : InStep off s) : InStep off (s.noteClamps n) := by
  unfold State.noteClamps
  split
  · exact h.same rfl
  · exact h

theorem applyZone {z : ZoneNo} {p : ZoneParams} (h : InStep off s) : InStep off (s.applyZone z p) := h.same rfl

/-- A base record keeps the channels of a base whose link is active, and so of one in service (R57). -/
theorem applyBase {r : BaseRecord} (h : InStep [] s) : InStep [] (s.applyBase b r) := by
  have hu : InStep [] (s.updLink b fun l => { l with
      enabled := r.enabled, zone := r.zone, planCount := r.count
      effCount := if linkActive l.service then l.effCount else r.count }) := h.updLink fun hv => ⟨hv, if_pos (by
    change linkActive (s.service b) = true
    rcases hv with e | e <;> rw [e] <;> rfl)⟩
  exact hu.same rfl

theorem takePlanRecord {i : SlotNo} {r : PlanRecord} {w : BitVec 256} (h : InStep [] s) :
    InStep [] (s.takePlanRecord i r w) := by
  unfold State.takePlanRecord
  split
  · exact h.applyZone.noteClamps.handBack
  · split
    · exact h.handBack
    · exact h.applyBase.noteClamps.handBack

/-! ### The intake and the frame mark's work -/

/-- The Order Unit changes, but not what it asks for. -/
theorem updOru {f : Oru → Oru} (h : InStep off s) (hq : (f s.oru).queue = s.oru.queue := by rfl) :
    InStep off (s.updOru f) :=
  h.same (congrArg (fun q => (s.chans, s.calls, s.stations, s.regs.part, s.accessKind,
    q.filter (startupWork (s.regs.part == .starting)), zeroJob s.acu.job)) hq)

/-- Accesses asked for that are none of start-up's. -/
theorem ask {l : List AccessKind} (h : InStep off s) (hl : ∀ x ∈ l, startupWork false x = false) :
    InStep off (s.ask l) :=
  h.same (ask_stepView s fun x hx => by
    rw [h.running]
    exact hl x hx)

theorem askOne (h : InStep off s) {k : AccessKind} (hk : startupWork false k = false) : InStep off (s.ask [k]) :=
  h.ask fun x hx => by rwa [List.mem_singleton.mp hx]

theorem takeIntake (h : InStep off s) : InStep off s.takeIntake := by
  have hd : InStep off (s.updOru fun o => { o with intakeDue := false }) := h.updOru
  unfold State.takeIntake
  split
  · dsimp only
    split
    · exact hd.askOne rfl
    · exact hd
  · exact h

theorem scanOn (h : InStep off s) : InStep off s.scanOn := by
  unfold State.scanOn
  split
  · exact h
  · split
    · next j _ =>
      have hn : InStep off (s.updOru fun o => { o with intake := .scanning j }) := h.updOru
      exact hn.askOne rfl
    · exact h.updOru

theorem dueLinks (h : InStep [] s) : InStep [] s.dueLinks :=
  (((h.foldl takeJoinTimer _).foldl takeSilenceTimer _).foldl takeRetransmit _).foldl takeAnswerTimeout _

theorem dueRoster (h : InStep off s) : InStep off s.dueRoster := (h.foldl takeLifetime _).foldl takeRoundTimer _

theorem dueCalls (h : InStep off s) : InStep off s.dueCalls :=
  (((h.foldl takeReserveTimer _).foldl takeArrivalTimer _).foldl takeSettleTimer _).foldl takeHoldTimer _

theorem dueBatch (h : InStep off s) : InStep off s.dueBatch := h.deliverBatch.foldl takeDrainLimit _

theorem advanceFrame (h : InStep off s) : InStep off s.advanceFrame := h.same rfl

theorem dueWork (h : InStep [] s) : InStep [] s.dueWork := h.dueLinks.dueRoster.dueCalls.dueBatch.takeIntake

theorem fromServing {f : State → State} (h : InStep off s) (hf : InStep off s → InStep off (f s)) :
    InStep off (s.fromServing b f) := by
  unfold State.fromServing
  split
  · exact h.bump
  · exact hf h

end InStep

end Sys2Proof.Machine
end

section
/-! SUPPORT. The laws of O41 in every part state: outside RUNNING no call is in progress and no channel in use, and the
steps of start-up go on one at a time (R160); over the arbiter (R147), start-up and the halt (R161). -/

namespace Sys2Proof.Machine

open Sys2Proof

variable {s t u : State} {c : CallNo} {b : BaseNo}

/-! ### Outside RUNNING -/

/-- The laws of O41: that of the channel map and that of start-up. -/
def State.steady (s : State) : Prop := s.channelsOk ∧ s.startOk

theorem InStep.steady (h : InStep [] s) : s.steady := (inStep_iff.mp h).2

theorem InStep.of_steady (h : s.steady) (hp : s.regs.part = .running) : InStep [] s := inStep_iff.mpr ⟨hp, h⟩

/-- No channel is in use, no call in progress, no set holds a base and no entry a record. -/
structure AtRest (s : State) : Prop where
  chans   : ∀ (b : BaseNo) (k : ChanNo), chanInUse (s.chan b k) = false
  calls   : ∀ c : CallNo, callLive s.calls[c].state = false ∧ s.calls[c].neighbours = []
  records : ∀ c : CallNo, s.calls[c].handover = none

theorem AtRest.channelsOk (h : AtRest s) : s.channelsOk := by
  refine channelsOk_iff.mpr ⟨fun c => ?_, fun b k hb => ?_, fun c n hn => ?_⟩
  · refine .of_unnamed (h.calls c).1 (h.records c) fun b k => Bool.eq_false_iff.mpr fun hn => ?_
    exact Bool.eq_false_iff.mp (h.chans b k) (chanInUse_iff.mpr ⟨c, hn⟩)
  · rw [h.chans] at hb
    cases hb
  · rw [(h.calls c).2] at hn
    cases hn

theorem AtRest.steady (h : AtRest s) (ho : s.startOrder) : s.steady := ⟨h.channelsOk, fun _ => h.calls, ho⟩

/-- Outside RUNNING the laws leave nothing in use (R58, R75). -/
theorem AtRest.of_steady (h : s.steady) (hp : s.regs.part ≠ .running) : AtRest s := by
  obtain ⟨hc, hs⟩ := h
  obtain ⟨hseat, -, -⟩ := channelsOk_iff.mp hc
  have hcalls := (startOk_iff.mp hs).1 hp
  refine ⟨fun b k => Bool.eq_false_iff.mpr fun hu => ?_, hcalls, fun c => (hseat c).no_record fun hm => ?_⟩
  · obtain ⟨c, hn⟩ := chanInUse_iff.mp hu
    rw [(hseat c).unnamed (hcalls c).1] at hn
    cases hn
  · have hl := (hcalls c).1
    rw [hm] at hl
    cases hl

/-- The laws read the tables of `stepView` only. -/
theorem State.steady.same (h : s.steady) (e : t.stepView = s.stepView) : t.steady := by
  obtain ⟨hv, hc, hf⟩ := stepView_fields e
  obtain ⟨hl, hp⟩ := stepFrame_fields hf
  obtain ⟨hchan, hidle, horder⟩ := h
  refine ⟨channelsOk_congr hv hc (fun b => ⟨effCount_congr (hl b), congrArg Prod.fst (hl b)⟩) hchan, ?_,
    startOrder_congr hp horder⟩
  rw [hc, show t.regs.part = s.regs.part from congrArg Prod.fst hp]
  exact hidle

/-! ### The order of start-up (R160) -/

theorem startSteps_le_of_sublist (hp : t.regs.part = s.regs.part)
    (hk : (t.accessKind.toList ++ t.oru.queue).Sublist (s.accessKind.toList ++ s.oru.queue))
    (hj : zeroing t.acu.job ≤ zeroing s.acu.job) : t.startSteps ≤ s.startSteps := by
  rw [State.startSteps, State.startSteps, hp]
  exact Nat.add_le_add (hk.filter _).length_le hj

/-- Fewer accesses asked for, or in progress, are in order where more were. -/
theorem startOrder_of_fewer (h : s.startOrder) (hp : t.regs.part = s.regs.part)
    (hk : (t.accessKind.toList ++ t.oru.queue).Sublist (s.accessKind.toList ++ s.oru.queue))
    (hq : t.oru.queue ⊆ s.oru.queue) (hj : zeroing t.acu.job ≤ zeroing s.acu.job)
    (hz : ∀ n, t.accessKind = some (.zeroWrite n) → t.acu.job = some (.zero n)) : t.startOrder := by
  obtain ⟨hsteps, hzero⟩ := h
  exact ⟨by rw [hp]; exact (startSteps_le_of_sublist hp hk hj).trans hsteps,
    fun n => ⟨fun hm => (hzero n).1 (hq hm), hz n⟩⟩

theorem accessKind_of_idle (h : s.port.access = none) : s.accessKind = none := by rw [State.accessKind, h]; rfl

theorem completeAccess_accessKind {n : Nat} (s : State) (data : BitVec n) : (s.completeAccess data).accessKind = none :=
  accessKind_of_idle (completeAccess_access s data)

/-- An access that has completed is no longer in progress. -/
theorem completeAccess_startOrder {n : Nat} (data : BitVec n) (h : s.startOrder) :
    (s.completeAccess data).startOrder := by
  refine startOrder_of_fewer h (by rw [completeAccess_regs]) ?_ (by rw [completeAccess_oru]; exact List.Subset.refl _)
    (by rw [completeAccess_acu]) fun n hn => ?_
  · rw [completeAccess_accessKind, completeAccess_oru]
    exact List.sublist_append_right _ _
  · rw [completeAccess_accessKind] at hn
    cases hn

/-- An access begins that is no step of start-up but a zero write that is the ACU's work. -/
theorem startOrder_begun {k : AccessKind} (h : s.startOrder) (hn : s.accessKind = none)
    (hp : t.regs.part = s.regs.part) (hk : t.accessKind = some k) (hu : startsUp (s.regs.part == .starting) k = false)
    (hq : t.oru.queue = s.oru.queue) (hj : zeroing t.acu.job = zeroing s.acu.job)
    (hz : ∀ n, k = .zeroWrite n → t.acu.job = some (.zero n)) : t.startOrder := by
  obtain ⟨hsteps, hzero⟩ := h
  have he : t.startSteps = s.startSteps := by
    rw [State.startSteps, State.startSteps, hp, hk, hn, hq, hj, Option.toList_some, Option.toList_none,
      List.singleton_append, List.nil_append, List.filter_cons_of_neg (by rw [hu]; decide)]
  refine ⟨by rw [he, hp]; exact hsteps, fun n => ⟨by rw [hq]; exact (hzero n).1, fun hx => hz n ?_⟩⟩
  rw [hk] at hx
  exact Option.some.inj hx

/-- An access begins that is nothing of start-up. -/
theorem startOrder_begun_other {k : AccessKind} (h : s.startOrder) (hn : s.accessKind = none)
    (hp : t.regs.part = s.regs.part) (hk : t.accessKind = some k)
    (hu : startupWork (s.regs.part == .starting) k = false) (hq : t.oru.queue = s.oru.queue)
    (hj : zeroing t.acu.job = zeroing s.acu.job) : t.startOrder := by
  obtain ⟨hu, hz⟩ := Bool.or_eq_false_iff.mp hu
  refine startOrder_begun h hn hp hk hu hq hj fun n hx => ?_
  rw [hx] at hz
  cases hz

/-- The first access that the ORU asks for begins. -/
theorem oruBegin_startOrder {k : AccessKind} {l : List AccessKind} (h : s.startOrder) (hn : s.accessKind = none)
    (hq : s.oru.queue = k :: l) : ((s.updOru fun o => { o with queue := l }).beginAccess k).startOrder := by
  refine startOrder_of_fewer h rfl ?_ ?_ le_rfl fun n hx => ?_
  · rw [hn, hq]
    exact List.Sublist.refl _
  · rw [hq]
    exact List.subset_cons_self k l
  · obtain rfl : k = .zeroWrite n := Option.some.inj hx
    exact absurd (hq ▸ List.mem_cons_self) (h.2 n).1

/-- What the ACU begins is no step of start-up but its zero write (R157, R158, R159). -/
theorem acuBegin_startOrder (h : s.startOrder) (hn : s.accessKind = none) (e : s.acuBegin = some t) :
    t.startOrder := by
  unfold State.acuBegin at e
  split at e
  · next v _ stage _ _ =>
    cases e
    exact startOrder_begun_other h hn rfl rfl (by cases stage <;> rfl) rfl rfl
  · next n hj =>
    cases e
    refine startOrder_begun h hn rfl rfl rfl rfl rfl fun m hx => ?_
    cases hx
    exact hj
  · cases e
  · next hj =>
    have hz : zeroing s.acu.job = 0 := by rw [hj]; rfl
    split at e
    · cases e
    · split at e
      · cases e
        exact startOrder_begun_other h hn rfl rfl rfl rfl hz.symm
      · split at e
        · cases e
        · split at e
          · cases e
            split <;> exact startOrder_begun_other h hn rfl rfl rfl rfl rfl
          · split at e
            · next r _ _ =>
              cases e
              cases r <;> exact startOrder_begun_other h hn rfl rfl rfl rfl hz.symm
            · cases e

theorem beginFor_startOrder {r : Requestor} (h : s.startOrder) (hn : s.accessKind = none) (e : s.beginFor r = some t) :
    t.startOrder := by
  cases r with
  | rsu =>
    rw [State.beginFor] at e
    split at e
    · obtain ⟨k, -, rfl⟩ := Option.map_eq_some_iff.mp e
      exact startOrder_begun_other h hn rfl rfl (by cases k <;> rfl) rfl rfl
    · cases e
  | oru =>
    rw [State.beginFor] at e
    split at e
    · next k l hq =>
      cases e
      exact oruBegin_startOrder h hn hq
    · cases e
  | acu => exact acuBegin_startOrder h hn e

theorem getD_startOrder {x : Option State} (h : s.startOrder) (hx : ∀ t, x = some t → t.startOrder) :
    (x.getD s).startOrder := by
  cases x with
  | none => exact h
  | some t => exact hx t rfl

theorem grant_startOrder (h : s.startOrder) (hn : s.accessKind = none) : s.grant.startOrder := by
  unfold State.grant
  split
  · next r _ =>
    exact getD_startOrder h fun t e =>
      beginFor_startOrder (s := s.setPort { s.port with holder := some r, count := 0, last := some r }) h hn e
  · exact h

/-- The arbiter keeps the order of start-up (R147, R160). -/
theorem arbitrate_startOrder (h : s.startOrder) : s.arbitrate.startOrder := by
  unfold State.arbitrate
  split
  · exact h
  · split
    · exact h
    · next ha =>
      have hn : s.accessKind = none := accessKind_of_idle (by simpa using ha)
      split
      · exact grant_startOrder h hn
      · split
        · exact getD_startOrder h fun t e => beginFor_startOrder h hn e
        · exact grant_startOrder h hn

/-! ### Cleared tables, and the end of every event -/

/-- Nothing of start-up is under way. -/
theorem startOrder_of_quiet (hk : s.accessKind = none) (hq : s.oru.queue = []) (hj : s.acu.job = none) :
    s.startOrder := by
  refine ⟨?_, fun n => ⟨by rw [hq]; exact List.not_mem_nil, fun hx => by rw [hk] at hx; cases hx⟩⟩
  rw [State.startSteps, hk, hq, hj]
  exact Nat.zero_le _

/-- Cleared tables are at rest. -/
theorem AtRest.of_cleared (hv : t.chans = State.reset.chans) (hc : t.calls = State.reset.calls) : AtRest t := by
  have hchan : ∀ (b : BaseNo) (k : ChanNo), t.chan b k = .free := fun b k => by
    rw [State.chan, hv]
    exact (congrArg (·[k]) (getElem_replicate_fin _ b)).trans (getElem_replicate_fin _ k)
  have hcall : ∀ c : CallNo, t.calls[c] = .free := fun c => by
    rw [hc]
    exact getElem_replicate_fin _ c
  refine ⟨fun b k => ?_, fun c => ?_, fun c => ?_⟩
  · rw [hchan]
    rfl
  · rw [hcall]
    exact ⟨rfl, rfl⟩
  · rw [hcall]
    rfl

/-- With the tables cleared and nothing asked for the laws hold, whatever the registers are. -/
theorem cleared_steady (s : State) (f : Regs → Regs) : (s.clearTables.updRegs f).steady := by
  have hrest : AtRest (s.clearTables.updRegs f) := .of_cleared rfl rfl
  exact hrest.steady (startOrder_of_quiet rfl rfl rfl)

namespace State.steady

theorem arbitrate (h : s.steady) : s.arbitrate.steady := by
  obtain ⟨hr, -, hl, -, -, -, -, hv, hc, -⟩ := body_fields s.arbitrate_body
  obtain ⟨hchan, hidle, horder⟩ := h
  refine ⟨channelsOk_congr hv hc (fun b => ?_) hchan, ?_, arbitrate_startOrder horder⟩
  · rw [State.service, hl]
    exact ⟨rfl, rfl⟩
  · rw [hc, hr]
    exact hidle

/-- Start-up begins: the header is asked for (R160). -/
theorem beginStartup (s : State) : s.beginStartup.steady := by
  unfold State.beginStartup
  generalize ht : ((s.clearTables).updRegs fun r => { r with part := .starting, fault := .none }).updOru
    (fun o => { o with queue := [.startHeader] }) = t
  have hrest : AtRest t := .of_cleared (ht ▸ rfl) (ht ▸ rfl)
  subst ht
  refine arbitrate (hrest.steady ⟨Nat.le_refl 1, fun n => ⟨fun hx => ?_, nofun⟩⟩)
  cases List.mem_singleton.mp hx

theorem endHalt (s : State) : s.endHalt.steady := by
  unfold State.endHalt
  dsimp only
  split
  · exact beginStartup _
  · exact cleared_steady _ _

theorem settle (h : s.steady) : s.settle.steady := by
  rcases settle_cases s with e | ⟨-, -, e⟩ <;> rw [e]
  · exact h.arbitrate
  · exact endHalt _

theorem completeAccess {n : Nat} (data : BitVec n) (h : s.steady) : (s.completeAccess data).steady := by
  have hv : (s.completeAccess data).chans = s.chans := by
    unfold State.completeAccess
    split <;> rfl
  have hc : (s.completeAccess data).calls = s.calls := (callTables_fields (completeAccess_callTables s data)).1
  obtain ⟨hchan, hidle, horder⟩ := h
  refine ⟨channelsOk_congr hv hc (fun b => ?_) hchan, ?_, completeAccess_startOrder data horder⟩
  · rw [State.service, completeAccess_links]
    exact ⟨rfl, rfl⟩
  · rw [hc, completeAccess_regs]
    exact hidle

theorem faultWith (s : State) (f : FaultCode) : (s.faultWith f).steady := cleared_steady _ _

/-! ### The ACU's work (R157, R158, R159) -/

/-- The ACU's work changes, a zero write neither before nor after. -/
theorem setJob {j : Option AcuJob} (h : s.steady) (hs : zeroJob s.acu.job = none) (hj : zeroJob j = none) :
    (s.setJob j).steady :=
  h.same (congrArg (fun x => (s.chans, s.calls, s.stations, s.regs.part, s.accessKind,
    s.oru.queue.filter (startupWork (s.regs.part == .starting)), x)) (hj.trans hs.symm))

/-- An ENDED entry that has been written is FREE again (R59). -/
theorem releaseCall (h : s.steady) (he : s.calls[c].state = .ended) : (s.updCall c releasedCall).steady := by
  obtain ⟨hc, hidle, horder⟩ := h
  obtain ⟨hseat, huse, hset⟩ := channelsOk_iff.mp hc
  have hget : ∀ d : CallNo, (s.updCall c releasedCall).calls[d] =
      if c = d then releasedCall s.calls[c] else s.calls[d] := fun d => updCall_get s c d _
  refine ⟨channelsOk_iff.mpr ⟨fun d => ?_, huse, fun d n hn => ?_⟩, fun hp d => ?_, horder⟩
  · rw [hget]
    split
    · next e =>
      subst e
      exact .of_unnamed rfl ((hseat c).no_record (by rw [he]; decide)) ((hseat c).unnamed (by rw [he]; rfl))
    · exact hseat d
  · rw [hget] at hn
    split at hn
    · exact hset c n hn
    · exact hset d n hn
  · rw [hget]
    split
    · exact ⟨rfl, (hidle hp c).2⟩
    · exact hidle hp d

theorem giveReport {r : Option (CallNo × Bool)} (h : s.steady) : (s.giveReport r).steady := by
  unfold State.giveReport
  split
  · unfold State.writeReport
    split
    · next hc => exact h.releaseCall hc.2.1
    · exact h
  · exact h

theorem recordWritten {r : RecordRef} {v : Byte} {e : Bool} (h : s.steady) (hs : zeroJob s.acu.job = none) :
    (s.recordWritten r v e).steady := by
  unfold State.recordWritten
  split
  · exact (h.setJob hs rfl).giveReport
  · exact h.setJob hs rfl

theorem bitsSet {r : Option (CallNo × Bool)} (h : s.steady) (hs : zeroJob s.acu.job = none) : (s.bitsSet r).steady :=
  (setJob (s := s.setPending) (h.same rfl) hs rfl).giveReport

theorem byteRead {v : Byte} (h : s.steady) : (s.byteRead v).steady := by
  unfold State.byteRead
  split
  · next hj => exact h.setJob (by rw [hj]; rfl) rfl
  · exact h

theorem byteWritten (h : s.steady) : s.byteWritten.steady := by
  unfold State.byteWritten
  split
  · next hj =>
    split
    · exact h.bitsSet (by rw [hj]; rfl)
    · exact h.setJob (by rw [hj]; rfl) rfl
  · exact h

theorem summaryRead {v : Byte} (h : s.steady) : (s.summaryRead v).steady := by
  unfold State.summaryRead
  split
  · next hj => exact h.setJob (by rw [hj]; rfl) rfl
  · exact h

theorem summaryWritten (h : s.steady) : s.summaryWritten.steady := by
  unfold State.summaryWritten
  split
  · next hj => exact h.bitsSet (by rw [hj]; rfl)
  · exact h

theorem handBack {i : SlotNo} {x : OrderResult} (h : s.steady) : (s.handBack i x).steady :=
  h.same (handBack_stepView s i x)

theorem counterWritten (h : s.steady) : s.counterWritten.steady := by
  unfold State.counterWritten
  split
  · split
    · exact h.same rfl
    · exact handBack (h.same rfl)
  · exact h

end State.steady

/-! ### The steps of start-up (R160) -/

/-- The part is STARTING and the last step of start-up has been made, the next not asked for. -/
structure BetweenSteps (s : State) : Prop where
  steady   : s.steady
  starting : s.regs.part = .starting
  idle     : s.accessKind = none
  done     : s.startSteps = 0

/-- A step of start-up that is under way is the only one, and the part is STARTING. -/
theorem startStep_only (h : s.startOrder) (hn : 0 < s.startSteps) : s.regs.part = .starting ∧ s.startSteps = 1 := by
  obtain ⟨hle, -⟩ := h
  split at hle
  · next hp => exact ⟨hp, by omega⟩
  · omega

namespace BetweenSteps

/-- A step of start-up that the ORU makes has been made. -/
theorem of_access {n : Nat} {k : AccessKind} (data : BitVec n) (h : s.steady) (hk : s.accessing k)
    (hu : startsUp (s.regs.part == .starting) k = true) : BetweenSteps (s.completeAccess data) := by
  have hk' : s.accessKind = some k := hk
  have hsteps : s.startSteps = (s.completeAccess data).startSteps + 1 := by
    rw [State.startSteps, State.startSteps, completeAccess_accessKind, completeAccess_oru, completeAccess_acu,
      completeAccess_regs, hk', Option.toList_some, Option.toList_none, List.nil_append, List.singleton_append,
      List.filter_cons_of_pos hu, List.length_cons]
    omega
  have ⟨_, _, horder⟩ := h
  obtain ⟨hp, hone⟩ := startStep_only horder (by omega)
  exact ⟨h.completeAccess data, by rw [completeAccess_regs]; exact hp, completeAccess_accessKind s data, by omega⟩

/-- A zero write has been made. -/
theorem of_zeroWrite {n k : Nat} (data : BitVec n) (h : s.steady) (hk : s.accessing (.zeroWrite k)) :
    BetweenSteps ((s.completeAccess data).setJob none) := by
  obtain ⟨hchan, hidle, horder⟩ := h.completeAccess data
  have ⟨_, _, _, hzero⟩ := h
  have hj : s.acu.job = some (.zero k) := (hzero k).2 hk
  have hsteps : (s.completeAccess data).startSteps = ((s.completeAccess data).setJob none).startSteps + 1 := by
    rw [State.startSteps, completeAccess_acu, hj]
    rfl
  obtain ⟨hp, hone⟩ := startStep_only horder (by omega)
  have hquiet : ((s.completeAccess data).setJob none).startOrder :=
    startOrder_of_fewer horder rfl (List.Sublist.refl _) (List.Subset.refl _) (Nat.zero_le _) fun m hm => by
      rw [show ((s.completeAccess data).setJob none).accessKind = none from completeAccess_accessKind s data] at hm
      cases hm
  exact ⟨⟨hchan, hidle, hquiet⟩, hp, completeAccess_accessKind s data, by omega⟩

/-- The next step is asked for. -/
theorem ask {l : List AccessKind} (h : BetweenSteps s) (hl : (l.filter (startsUp true)).length ≤ 1)
    (hz : ∀ n, .zeroWrite n ∉ l) : (s.ask l).steady := by
  obtain ⟨⟨hchan, hidle, -, hzero⟩, hp, hk, hdone⟩ := h
  refine ⟨hchan, hidle, ?_, fun n => ⟨fun hm => ?_, (hzero n).2⟩⟩
  · have hb : (s.regs.part == .starting) = true := beq_iff_eq.mpr hp
    have hsteps : (s.ask l).startSteps = s.startSteps + (l.filter (startsUp true)).length := by
      have hask : (s.ask l).startSteps = ((s.accessKind.toList ++ (s.oru.queue ++ l)).filter
        (startsUp (s.regs.part == .starting))).length + zeroing s.acu.job := rfl
      rw [hask, State.startSteps, hb, ← List.append_assoc, List.filter_append, List.length_append]
      omega
    rw [hsteps, hdone, show (s.ask l).regs.part = .starting from hp, if_pos rfl]
    omega
  · rcases List.mem_append.mp hm with hm | hm
    · exact (hzero n).1 hm
    · exact hz n hm

theorem askOne {k : AccessKind} (h : BetweenSteps s) (hz : ∀ n, k ≠ .zeroWrite n := by intro _; exact nofun) :
    (s.ask [k]).steady :=
  h.ask (List.length_filter_le _ _) fun n hm => hz n (List.mem_singleton.mp hm).symm

/-- A zero write becomes the ACU's work. -/
theorem startZero {n : Nat} {f : Acu → Acu} (h : BetweenSteps s) (hf : (f s.acu).job = some (.zero n)) :
    (s.updAcu f).steady := by
  obtain ⟨⟨hchan, hidle, -, hzero⟩, hp, hk, hdone⟩ := h
  refine ⟨hchan, hidle, ?_, fun m => ⟨(hzero m).1, fun hm => ?_⟩⟩
  · have hz : zeroing (f s.acu).job = 1 := by rw [hf]; rfl
    rw [State.startSteps, Nat.add_eq_zero_iff] at hdone
    rw [show (s.updAcu f).regs.part = .starting from hp, if_pos rfl]
    exact le_of_eq (congrArg₂ (· + ·) hdone.1 hz)
  · rw [show (s.updAcu f).accessKind = none from hk] at hm
    cases hm

theorem updPlan {f : Plan → Plan} (h : BetweenSteps s) : BetweenSteps (s.updPlan f) :=
  ⟨h.steady.same rfl, h.starting, h.idle, h.done⟩

/-- The record of a base is loaded: no channel of it is in use (R160 step 3). -/
theorem loadBase {r : BaseRecord} (h : BetweenSteps s) : BetweenSteps (s.loadBase b r) := by
  have hrest := AtRest.of_steady h.steady (by rw [h.starting]; decide)
  have hload : AtRest (s.loadBase b r) := ⟨hrest.chans, hrest.calls, hrest.records⟩
  exact ⟨hload.steady (startOk_iff.mp h.steady.2).2, h.starting, h.idle, h.done⟩

theorem startsUp_of_running {k : AccessKind} (h : startsUp false k = true) : startsUp true k = true := by
  cases k with
  | postedCount => rfl
  | _ => exact h

/-- Start-up ends: the part is RUNNING, with nothing of start-up under way (R160 step 8). -/
theorem enterRunning (h : BetweenSteps s) : s.enterRunning.steady := by
  obtain ⟨⟨hchan, -, -, hzero⟩, hp, hk, hdone⟩ := h
  have hb : (s.regs.part == .starting) = true := beq_iff_eq.mpr hp
  rw [State.startSteps, Nat.add_eq_zero_iff, List.length_eq_zero_iff, hb, List.filter_eq_nil_iff] at hdone
  have hnone : (s.accessKind.toList ++ s.oru.queue).filter (startsUp false) = [] :=
    List.filter_eq_nil_iff.mpr fun k hm hu => hdone.1 k hm (startsUp_of_running hu)
  refine ⟨hchan, fun hr => absurd rfl hr, ?_, hzero⟩
  exact le_of_eq (congrArg₂ (· + ·) (congrArg List.length hnone) hdone.2)

end BetweenSteps

/-! ### Control writes (R145, R161, R162) -/

/-- A halt begins: what is asked for is cut down, and the work of the ACU withdrawn (R161). -/
theorem InStep.beginHalt {off : List BaseNo} (h : InStep off s) : InStep off s.beginHalt := by
  have horder : s.withdrawRequests.startOrder := by
    refine startOrder_of_fewer h.order rfl (List.filter_sublist.append_left _) (List.filter_subset_self _)
      (Nat.zero_le _) fun n hn => ?_
    have hz := (h.order.2 n).2 hn
    have hp : s.regs.part = .starting := (startStep_only h.order (by rw [State.startSteps, hz, zeroing]; omega)).1
    rw [h.running] at hp
    cases hp
  have hw : InStep off s.withdrawRequests := ⟨h.seats, h.inUse, h.sets, h.running, horder⟩
  have hs : InStep off s.withdrawRequests.stopAll := hw.foldl stopTransmit _
  have hb : ∀ {v : State} {e : InFlight}, InStep off v →
      InStep off (v.handBack e.slot (s.withdrawRequests.stopAll.haltResult e)) := fun hv => hv.handBack
  exact hs.foldl hb _

namespace State.steady

theorem writeRun0 (h : s.steady) (v : Bool) : (s.writeRun0 v).steady := by
  have hc : (s.clearRun v).steady := h.same rfl
  unfold State.writeRun0
  dsimp only
  split
  · exact hc
  · exact cleared_steady _ _
  · next hp =>
    split
    · exact hc
    · exact (InStep.of_steady hc hp).beginHalt.steady
  · next hp =>
    obtain ⟨hchan, hidle, hsteps, hzero⟩ := hc
    refine ⟨hchan, fun _ => hidle (by rw [show (s.clearRun v).regs.part = .faulted from hp]; decide), ?_, hzero⟩
    rw [State.startSteps, show (s.clearRun v).regs.part = .faulted from hp] at hsteps
    exact hsteps

theorem writeRun1 (h : s.steady) (v : Bool) : (s.writeRun1 v).steady := by
  unfold State.writeRun1
  dsimp only
  split
  · exact beginStartup _
  · exact h.same rfl

theorem writeXbase (h : s.steady) (v : BitVec 32) : (s.writeXbase v).steady := by
  unfold State.writeXbase
  split
  · exact h.same rfl
  · exact h

theorem writeWindow (h : s.steady) (o : Nat) (v : BitVec 32) : (s.writeWindow o v).steady := by
  unfold State.writeWindow
  split
  · unfold State.writeControl
    split
    · exact cleared_steady _ _
    · split
      · exact (h.writeRun1 _).settle
      · exact (h.writeRun0 _).settle
  · exact h.writeXbase v
  · split
    · exact h.same rfl
    · exact h
  · exact h

end State.steady

end Sys2Proof.Machine
end

section
/-! SUPPORT. Every command keeps the channel map, the calls, the handover records and the neighbour sets in agreement,
and the order of start-up (O41). -/

namespace Sys2Proof.Machine

open Sys2Proof

variable {s t : State} {b : BaseNo}

/-! ### The ways of taking a command -/

namespace State.steady

theorem whileServing {f : State → State} (h : s.steady) (hf : InStep [] s → InStep [] (f s))
    (e : s.whileServing f = .next t) : t.steady := by
  cases hs : s.serves
  · rw [whileServing_off hs] at e
    cases e
    exact h.settle
  · rw [whileServing_of hs] at e
    cases e
    exact (hf (.of_steady h (LawsGoOn.part_of_serves hs))).steady.settle

theorem message {f : State → State} (h : s.steady) (hf : ∀ {v}, InStep [] v → InStep [] (f v))
    (e : s.messageFrom b f = .next t) : t.steady := by
  refine h.whileServing (fun hs => ?_) e
  split
  · exact hf hs.restartSilence
  · exact hs.bump

theorem answer {f : State → State} (h : s.steady) (hf : ∀ {v}, InStep [] v → InStep [] (f v))
    (e : s.answerFrom b f = .next t) : t.steady := by
  refine h.whileServing (fun hs => ?_) e
  split
  · exact hf hs.restartSilence
  · exact hs

/-- A message that its block takes only from a base SERVING or DRAINING. -/
theorem traffic {f : State → State} (h : s.steady) (hf : ∀ {v}, InStep [] v → InStep [] (f v))
    (e : (s.messageFrom b fun v => v.fromServing b f) = .next t) : t.steady :=
  h.message (fun hv => hv.fromServing hf) e

theorem order {i : SlotNo} {o : Order} {f : State → State} (h : s.steady) (hf : ∀ {v}, InStep [] v → InStep [] (f v))
    (e : s.takeOrder i o f = .next t) : t.steady := by
  refine h.whileServing (fun hs => ?_) e
  split
  · have hu : InStep [] s.undispatched := hs.same rfl
    exact (hf hu).scanOn
  · exact hs

/-- Work on the completion of an access, from the state that the access leaves. -/
theorem access {n : Nat} {data : BitVec n} {f : State → AccessKind → Option State} (h : s.steady)
    (hf : ∀ k v, s.accessing k → f (s.completeAccess data) k = some v → (s.completeAccess data).steady → v.steady)
    (e : s.onAccess data f = .next t) : t.steady := by
  rcases onAccess_cases s data f with hc | ⟨k, v, hk, hv, hc⟩ <;> rw [hc] at e <;> cases e
  · exact h
  · exact (hf k v hk hv (h.completeAccess data)).settle

/-- Work of the blocks on the completion of an access, while the part serves. -/
theorem served {u v : State} (h : v.steady) (hf : InStep [] v → InStep [] u) :
    (if v.serves then u else v).steady := by
  split
  · next hs => exact (hf (.of_steady h (LawsGoOn.part_of_serves hs))).steady
  · exact h

end State.steady

/-! ### Completions of the Order Unit's accesses -/

namespace InStep

/-- A SNAPSHOT joins the others (R159). -/
theorem joinSnapshots {l : Acu → List Snapshot} (h : InStep [] s) :
    InStep [] (s.updAcu fun a => { a with snapshots := l a }) := h.same rfl

theorem takePostedCount (h : InStep [] s) (v : BitVec 32) : InStep [] (s.takePostedCount v) := by
  have hl : InStep [] (s.updOru fun o => { o with lastSeen := v }) := h.updOru
  unfold State.takePostedCount
  split
  · exact h
  · dsimp only
    split
    · exact hl.updOru.askOne rfl
    · exact hl

theorem takeOwnerByte (h : InStep [] s) (i : SlotNo) (v : Byte) : InStep [] (s.takeOwnerByte i v) := by
  unfold State.takeOwnerByte
  split
  · refine h.ask fun k hk => ?_
    rcases List.mem_pair.mp hk with rfl | rfl <;> rfl
  · exact h.scanOn

theorem takeSlot (h : InStep [] s) (i : SlotNo) (w : BitVec 512) : InStep [] (s.takeSlot i w) := by
  unfold State.takeSlot
  dsimp only
  split
  · exact h.updOru
  · exact InStep.scanOn (InStep.handBack h.updOru)

end InStep

/-! ### Completions of start-up's accesses (R160) -/

theorem afterScan_steps (i : SlotNo) (v : Byte) : ((afterScan i v).filter (startsUp true)).length ≤ 1 := by
  have hlast : ∀ k : AccessKind, ([k].filter (startsUp true)).length ≤ 1 := fun k => List.length_filter_le _ _
  unfold afterScan
  split <;> rw [List.filter_append, List.length_append]
  · exact (Nat.zero_add _).trans_le (hlast _)
  · exact (Nat.zero_add _).trans_le (hlast _)

theorem afterScan_zeroWrite (i : SlotNo) (v : Byte) (n : Nat) : .zeroWrite n ∉ afterScan i v := by
  unfold afterScan
  cases nextSlot i <;> split <;> simp

namespace State.steady

theorem startupPlanRead {w : BitVec 256} (h : s.steady) (e : exec (.startupPlanReadDone w) s = .next t) :
    t.steady := by
  rw [exec_startupPlanReadDone] at e
  refine h.access (fun k v hk hv _ => ?_) e
  split at hv <;> cases hv
  · exact (BetweenSteps.of_access w h hk rfl).updPlan.updPlan.askOne
  · next z =>
    have hz : ∀ n, afterZone z ≠ .zeroWrite n := fun n => by
      unfold afterZone
      split <;> exact nofun
    exact (BetweenSteps.of_access w h hk rfl).updPlan.updPlan.askOne hz
  · next b =>
    have hb : BetweenSteps (((s.completeAccess w).loadBase b (baseOf w)).noteStartClamps (baseClamps w)) :=
      (BetweenSteps.of_access w h hk rfl).loadBase.updPlan
    split
    · exact hb.askOne
    · exact hb.startZero rfl

theorem postedCountRead {v : BitVec 32} (h : s.steady) (e : exec (.postedCountReadDone v) s = .next t) :
    t.steady := by
  dsimp only [exec] at e
  refine h.access (fun k u hk hu hc => ?_) e
  split at hu <;> cases hu
  split
  · next hs => exact ((InStep.of_steady hc (LawsGoOn.part_of_serves hs)).takePostedCount v).steady
  · split
    · next hp =>
      rw [completeAccess_regs] at hp
      have hb := BetweenSteps.of_access v h hk (by rw [hp]; rfl)
      have hl : BetweenSteps ((s.completeAccess v).updOru fun o => { o with lastSeen := v }) :=
        ⟨hb.steady.same rfl, hb.starting, hb.idle, hb.done⟩
      exact hl.askOne
    · exact hc

theorem startCountAccess {v : BitVec 32} (h : s.steady) (e : exec (.startCountAccessDone v) s = .next t) :
    t.steady := by
  dsimp only [exec] at e
  refine h.access (fun k u hk hu _ => ?_) e
  split at hu <;> cases hu
  · exact (BetweenSteps.of_access v h hk rfl).askOne
  · exact (BetweenSteps.of_access v h hk rfl).enterRunning

theorem startupZeroWrite (h : s.steady) (e : exec .startupZeroWriteDone s = .next t) : t.steady := by
  dsimp only [exec] at e
  refine h.access (fun k u hk hu _ => ?_) e
  split at hu <;> cases hu
  have hb := BetweenSteps.of_zeroWrite (0 : BitVec 0) h hk
  split
  · exact hb.startZero (f := fun a => { a with job := _ }) rfl
  · exact hb.askOne

end State.steady

/-! ### Every command -/

/-- Every command keeps the laws of O41. -/
theorem exec_steady {i : Instr} (h : s.steady) (e : exec i s = .next t) : t.steady := by
  cases i with
  | startupPlanReadDone w => exact h.startupPlanRead e
  | postedCountReadDone v => exact h.postedCountRead e
  | startCountAccessDone v => exact h.startCountAccess e
  | startupZeroWriteDone => exact h.startupZeroWrite e
  | _ => ?_
  all_goals dsimp only [exec] at e
  case hello b a n =>
    refine h.whileServing (fun hs => ?_) e
    split
    · exact hs.bump
    · exact hs.takeHello
  case ready b => exact h.message .takeReadyMessage e
  case beacon b => exact h.message id e
  case malformedMessage b => exact h.whileServing .bump e
  case accept b => exact h.answer .takeAccept e
  case defer b => exact h.answer .takeDefer e
  case attach b i => exact h.traffic .takeAttach e
  case refresh b x v => exact h.traffic .takeRefresh e
  case detach b x => exact h.traffic .takeDetach e
  case callRequest b x p => exact h.traffic .takeCallRequest e
  case callEnd b k => exact h.message .takeCallEnd e
  case channelDropped b k => exact h.message .takeChannelDropped e
  case levelReport b k l n p =>
    change execLevelReport b k l n p s = .next t at e
    unfold execLevelReport at e
    split at e
    · exact h.message .takeLevelReport e
    · exact h.whileServing .bump e
  case reserveAnswer b j c g v r => exact h.message .takeReserveAnswer e
  case arrived b j c g => exact h.message .takeArrived e
  case pageAnswer b x => exact h.traffic .pageAnswered e
  case frameMark => exact h.whileServing (f := fun v => v.dueWork.advanceFrame) (fun hs => hs.dueWork.advanceFrame) e
  case joinTimerExpiry b => exact h.whileServing .takeJoinTimer e
  case silenceTimerExpiry b => exact h.whileServing .takeSilenceTimer e
  case headRetransmit b => exact h.whileServing .takeRetransmit e
  case headAnswerTimeout b => exact h.whileServing .takeAnswerTimeout e
  case lifetimeExpiry x => exact h.whileServing .takeLifetime e
  case roundTimerExpiry x => exact h.whileServing .takeRoundTimer e
  case reserveTimerExpiry c => exact h.whileServing .takeReserveTimer e
  case arrivalTimerExpiry c => exact h.whileServing .takeArrivalTimer e
  case settleTimerExpiry c => exact h.whileServing .takeSettleTimer e
  case holdTimerExpiry c => exact h.whileServing .takeHoldTimer e
  case switchBatchDelivery => exact h.whileServing .deliverBatch e
  case drainLimitExpiry b => exact h.whileServing .takeDrainLimit e
  case orderIntake => exact h.whileServing .takeIntake e
  case accessTimeout | busError =>
    cases e
    split
    · exact .faultWith s _
    · exact h
  case subscriptionCountReadDone n =>
    refine h.access (fun k v _ hv hc => ?_) e
    split at hv <;> cases hv
    split
    · next hs _ => exact (InStep.of_steady hc (LawsGoOn.part_of_serves hs)).takeSubCount.steady
    · exact hc
  case subscriptionEntryReadDone w =>
    refine h.access (fun k v _ hv hc => ?_) e
    split at hv <;> cases hv
    split
    · next hs _ _ => exact (InStep.of_steady hc (LawsGoOn.part_of_serves hs)).takeSubEntry.steady
    · exact hc
  case ownerByteReadDone v =>
    refine h.access (fun k v _ hv hc => ?_) e
    split at hv <;> cases hv
    exact hc.served fun hs => hs.takeOwnerByte _ _
  case slotReadDone w =>
    refine h.access (fun k v _ hv hc => ?_) e
    split at hv <;> cases hv
    exact hc.served fun hs => hs.takeSlot _ _
  case takenWriteDone | resultWriteDone =>
    refine h.access (fun k v _ hv hc => ?_) e
    split at hv <;> cases hv
    exact hc
  case answeredWriteDone =>
    refine h.access (fun k v _ hv hc => ?_) e
    split at hv <;> cases hv
    exact hc.same rfl
  case planRecordReadDone w =>
    refine h.access (fun k v _ hv hc => ?_) e
    split at hv <;> cases hv
    exact hc.served .takePlanRecord
  case recordWriteDone =>
    refine h.access (fun k v _ hv hc => ?_) e
    split at hv <;> cases hv
    split
    · next hj => exact hc.recordWritten (by rw [hj]; rfl)
    · exact hc
  case attentionByteAccessDone v =>
    refine h.access (fun k v _ hv hc => ?_) e
    split at hv <;> cases hv
    · exact hc.byteRead
    · exact hc.byteWritten
  case summaryByteAccessDone v =>
    refine h.access (fun k v _ hv hc => ?_) e
    split at hv <;> cases hv
    · exact hc.summaryRead
    · exact hc.summaryWritten
  case counterWriteDone =>
    refine h.access (fun k v _ hv hc => ?_) e
    split at hv <;> cases hv
    exact hc.counterWritten
  case startupHeaderReadDone n =>
    refine h.access (fun k v hk hv _ => ?_) e
    split at hv <;> cases hv
    split
    · exact (BetweenSteps.of_access n h hk rfl).askOne
    · exact .faultWith _ _
  case startupSlotScanReadDone v =>
    refine h.access (fun k u hk hu _ => ?_) e
    split at hu <;> cases hu
    exact (BetweenSteps.of_access v h hk rfl).ask (afterScan_steps _ _) (afterScan_zeroWrite _ _)
  case runSet v => cases e; exact (h.writeRun1 v).settle
  case runClear v => cases e; exact (h.writeRun0 v).settle
  case restart | resetPin => cases e; exact cleared_steady _ _
  case xbaseWrite v => cases e; exact h.writeXbase v
  case attnClear => cases e; exact h.same rfl
  case registerWrite o v =>
    change execRegisterWrite o v s = .next t at e
    unfold execRegisterWrite at e
    split at e <;> cases e
    exact h.writeWindow o v
  case deregister i x => exact h.order .takeDeregister e
  case page i x => exact h.order .takePage e
  case cancel i x => exact h.order .takeCancel e
  case clearCall i c => exact h.order .takeClearCall e
  case forceMove i c b => exact h.order .takeForceMove e
  case drainBase i b n => exact h.order .takeDrainBase e
  case stopBase i b => exact h.order .takeStopBase e
  case startBase i b => exact h.order .takeStartBase e
  case blockChannel i b k => exact h.order .takeBlockChannel e
  case unblockChannel i b k => exact h.order .takeUnblockChannel e
  case amendPlan i r => exact h.order (fun hv => hv.askOne rfl) e
  case snapshot i v => exact h.order .joinSnapshots e

/-- Settles O41: the withdrawal from its steps, the laws from what each command keeps of them. -/
theorem withdrawalClearsTheBase : Obligations.WithdrawalClearsTheBase := by
  refine ⟨fun b r s => ⟨withdraw_withdrawn s b r, fun c hl hb => ?_⟩, fun c s t hc hs e => exec_steady ⟨hc, hs⟩ e⟩
  obtain ⟨hstate, hreason, -⟩ := withdraw_callOver (r := r) hl hb
  exact ⟨hstate, hreason⟩

end Sys2Proof.Machine
end
